-- ==== Sys2Proof/Word.lean ====
section
/-! DEFINITION. The words of the EY-420's serial connections: a byte, and the 8-byte vehicle tag. Quantities the
manual computes with (weights, counts, times, ticket numbers) are plain `Nat` and `Int`. -/

namespace Sys2Proof

/-- One byte of a frame or of a stored record. -/
abbrev Byte := BitVec 8

/-- A vehicle tag: 8 bytes, the first byte most significant (R107). All zero means "no tag" on a wire or in a record. -/
abbrev Tag := BitVec 64

/-- The largest value of an unsigned 32-bit count (the yard clock, ticket numbers, seqs, caps and totals). -/
def max32 : Nat := 4294967295

/-- The largest value of an unsigned 16-bit count (discarded-frame counts, calibration counters). -/
def max16 : Nat := 65535

end Sys2Proof
end

