-- ==== Sys2Proof/Machine/Bytes.lean ====
section
/-! DEFINITION. Byte order and the check code (00_scope.md, 3.2 and 3.5). -/

namespace Sys2Proof.Machine

/-- `v` as `n` bytes, most significant byte first (00_scope.md, 3.2); what does not fit is cut off at the top. -/
def natBytes (n v : Nat) : List Byte :=
  (List.range n).map fun i => BitVec.ofNat 8 (v / 256 ^ (n - 1 - i))

/-- `v` as `n` bytes of two's complement, most significant byte first. -/
def intBytes (n : Nat) (v : Int) : List Byte :=
  natBytes n (v % (256 ^ n : Nat)).toNat

/-- The unsigned value of bytes, most significant byte first. -/
def beNat (bs : List Byte) : Nat :=
  bs.foldl (fun acc b => acc * 256 + b.toNat) 0

/-- The two's complement value of bytes, most significant byte first. -/
def beInt (bs : List Byte) : Int :=
  if 2 * beNat bs < 256 ^ bs.length then (beNat bs : Int) else (beNat bs : Int) - (256 ^ bs.length : Nat)

/-- `n` bytes from offset `i`. -/
def slice (bs : List Byte) (i n : Nat) : List Byte :=
  (bs.drop i).take n

/-- The byte at offset `i`; 0 beyond the end. -/
def byteAt (bs : List Byte) (i : Nat) : Nat :=
  (bs.getD i 0).toNat

/-- The unsigned value of the `n` bytes at offset `i`. -/
def natAt (bs : List Byte) (i n : Nat) : Nat :=
  beNat (slice bs i n)

/-- The two's complement value of the `n` bytes at offset `i`. -/
def intAt (bs : List Byte) (i n : Nat) : Int :=
  beInt (slice bs i n)

/-- A tag as 8 bytes, first byte most significant. -/
def tagBytes (t : Tag) : List Byte :=
  natBytes 8 t.toNat

/-- The tag of the 8 bytes at offset `i`. -/
def tagAt (bs : List Byte) (i : Nat) : Tag :=
  BitVec.ofNat 64 (natAt bs i 8)

/-- One bit of CRC-16: generator 1021H, most significant bit first. -/
def crcShift (r : BitVec 16) : BitVec 16 :=
  if r.msb then (r <<< 1) ^^^ 0x1021#16 else r <<< 1

/-- One byte of CRC-16. -/
def crcByte (r : BitVec 16) (b : Byte) : BitVec 16 :=
  (List.range 8).foldl (fun r _ => crcShift r) (r ^^^ (b.zeroExtend 16 <<< 8))

/-- CRC-16 of bytes (00_scope.md, 3.5): the register starts at FFFFH, nothing is reflected or inverted at the end. -/
def crc16 (bs : List Byte) : BitVec 16 :=
  bs.foldl crcByte 0xFFFF#16

/-- CRC-16 as it is sent and stored, most significant byte first. -/
def crcBytes (bs : List Byte) : List Byte :=
  natBytes 2 (crc16 bs).toNat

/-- Bytes followed by their CRC-16. -/
def withCrc (bs : List Byte) : List Byte :=
  bs ++ crcBytes bs

/-- Whether the two bytes at offset `cover` are the CRC-16 of the `cover` bytes before them (R144: a good record). -/
def crcGood (cover : Nat) (bs : List Byte) : Bool :=
  decide (cover + 2 ≤ bs.length) && decide (slice bs cover 2 = crcBytes (bs.take cover))

/-- `bs` cut or filled with 00H to `n` bytes. -/
def padTo (n : Nat) (bs : List Byte) : List Byte :=
  (bs ++ List.replicate n 0).take n

end Sys2Proof.Machine
end

