-- ==== Sys2Proof/Syntax.lean ====
section
/-! DEFINITION. The commands of the EY-420, one constructor of `Instr` for each row of spec/opcode_table.json, with the
identities, operand records and pins their operands are made of. Operands that a station sends are RAW (a byte where the
frame has a byte), so that a value outside its set is an operand like any other and is refused by the machine (R165). -/

namespace Sys2Proof

/-! ### Identities (00_scope.md, 3.4) -/

/-- A station port and its station. -/
inductive Station where
  | s0 | s1 | s2
  deriving DecidableEq, Repr

/-- A lane. -/
inductive Lane where
  | l0 | l1 | l2 | l3
  deriving DecidableEq, Repr

/-- A weighbridge deck. -/
inductive Deck where
  | d0 | d1
  deriving DecidableEq, Repr

/-- A barrier of a lane: approach barrier A or exit barrier X. -/
inductive BarrierId where
  | a | x
  deriving DecidableEq, Repr

/-- One `α` for each lane. -/
structure PerLane (α : Type) where
  l0 : α
  l1 : α
  l2 : α
  l3 : α
  deriving DecidableEq, Repr

/-- One `α` for each deck. -/
structure PerDeck (α : Type) where
  d0 : α
  d1 : α
  deriving DecidableEq, Repr

/-- One `α` for each station. -/
structure PerStation (α : Type) where
  s0 : α
  s1 : α
  s2 : α
  deriving DecidableEq, Repr

/-! ### Operand records -/

/-- What every station request carries beside its fields: the port it arrived on, its request tag, and whether its body
held exactly the bytes of its fields (R187: "A request whose body ends before its fields are complete, or holds bytes after
them, is refused with RANGE"). Where `bodyOk` is false the other operands mean nothing. -/
structure Req where
  station : Station
  tag : Byte
  bodyOk : Bool
  deriving DecidableEq, Repr

/-- The bytes of a lane group as CONFIG_WRITE carries them (R61, R192; the lane group layout of R144), multi-byte values
joined: deck, direction, the three options, default kind, debounce, travel timeout, clear delay, the eight dwell limits in
the order of R64, and the open-at-start byte. -/
structure LaneGroup where
  deck : Byte
  direction : Byte
  autoCapture : Byte
  tagAdmission : Byte
  storedTare : Byte
  defaultKind : Byte
  debounce : BitVec 16
  travel : Byte
  clear : Byte
  dwell : List (BitVec 16)
  openAtStart : Byte
  deriving DecidableEq, Repr

/-- One authority window as its four bytes: enabled flag, scope set, class set, access (R162, layout in R144). -/
structure WindowBytes where
  enabled : Byte
  scopes : Byte
  classes : Byte
  access : Byte
  deriving DecidableEq, Repr

/-- One pair of CAL_WRITE (R27): a field, with the cell number where the field has one, and the value as sent. -/
inductive CalPair where
  | cellCount (v : Byte)
  | zeroOffset (cell : Byte) (v : BitVec 24)
  | span (cell : Byte) (v : BitVec 24)
  | division (v : Byte)
  | capacity (v : BitVec 32)
  | filterLength (v : Byte)
  | motionBand (v : Byte)
  | stabilityCount (v : Byte)
  | zeroTracking (v : Byte)
  /-- a field code other than 00H to 08H -/
  | unknownField (code : Byte)
  deriving DecidableEq, Repr

/-- The optional fields of ADMIT (R66). A ticket number of 0 is absent (R187). -/
structure AdmitFields where
  tag : Option Tag
  ticket : BitVec 32
  kind : Option Byte
  waste : Option Byte
  account : Option (BitVec 16)
  /-- hazard code and container count -/
  hazard : Option (Byte × Byte)
  deriving DecidableEq, Repr

/-- The optional fields of REG_ADD (R109). A tare is a weight in kg (signed 32-bit) and a validity in days. -/
structure RegFields where
  fleet : Option (List Byte)
  account : Option (BitVec 16)
  waste : Option Byte
  kind : Option Byte
  tare : Option (BitVec 32 × BitVec 16)
  barred : Option Byte
  deriving DecidableEq, Repr

/-- One change of REG_UPDATE (R110): a field and its new value, or removal (`none`) of the waste code or the tare. -/
inductive RegChange where
  | fleet (v : List Byte)
  | account (v : BitVec 16)
  | waste (v : Option Byte)
  | kind (v : Byte)
  | tare (v : Option (BitVec 32 × BitVec 16))
  | barred (v : Byte)
  /-- the tag, or a field that R107 does not have -/
  | otherField (code : Byte)
  deriving DecidableEq, Repr

/-- One change of EDIT_TICKET (R131); `hazard none` removes the declaration. -/
inductive TicketChange where
  | account (v : BitVec 16)
  | waste (v : Byte)
  | hazard (v : Option (Byte × Byte))
  | otherField (code : Byte)
  deriving DecidableEq, Repr

/-- What REG_FIND looks for (R112). -/
inductive FindKey where
  | tag (t : Tag)
  | fleet (name : List Byte)
  deriving DecidableEq, Repr

/-- One cell of a cell link frame: raw count and cell status as received (1.1). -/
structure CellSample where
  raw : BitVec 24
  status : Byte
  deriving DecidableEq, Repr

/-- Why a station frame with a length in range is answered FRAME_ERROR (R186): its check fails, or it has a good check and
a length of 1, so that it has a code and no tag. -/
inductive FrameFault where
  | badCheck
  | lengthOne (code : Byte)
  deriving DecidableEq, Repr

/-- The four inputs that the lane controller owns (3.1). -/
inductive LaneInput where
  | al | eb | xb | xl
  deriving DecidableEq, Repr

/-- A limit of a barrier. -/
inductive Limit where
  | up | down
  deriving DecidableEq, Repr

/-- The raw levels of one barrier's inputs: limits active, safety beam broken. -/
structure BarrierPins where
  up : Bool
  down : Bool
  beam : Bool
  deriving DecidableEq, Repr

/-- The raw levels of one lane's ten inputs: AL, EB, XB, XL broken, and the inputs of barriers A and X. -/
structure LanePins where
  al : Bool
  eb : Bool
  xb : Bool
  xl : Bool
  a : BarrierPins
  x : BarrierPins
  deriving DecidableEq, Repr

/-- The raw levels of the yard's inputs as they stand when the configuration area has been loaded (R42, R183): the lane
inputs, the emergency stop and mains fail inputs asserted, the seal switch at ACCESS. -/
structure YardPins where
  lanes : PerLane LanePins
  estop : Bool
  mainsFail : Bool
  sealAccess : Bool
  deriving DecidableEq, Repr

/-! ### Commands -/

/-- The commands and events of spec/opcode_table.json, in its order. The docstring of each names its rule. -/
inductive Instr where
  /-- GET_STATUS (R193) -/
  | getStatus (r : Req)
  /-- CONFIG_READ (R192) of the group with this identifier -/
  | configRead (r : Req) (group : Byte)
  /-- CONFIG_WRITE of a lane group (R61) -/
  | configWriteLane (r : Req) (lane : Lane) (values : LaneGroup)
  /-- CONFIG_WRITE of the windows of a station (R167) -/
  | configWriteWindows (r : Req) (station : Station) (values : List WindowBytes)
  /-- CONFIG_WRITE of the notice levels (R175) -/
  | configWriteNoticeLevels (r : Req) (levels : List Byte)
  /-- CONFIG_WRITE of the waste caps (R135) -/
  | configWriteWasteCaps (r : Req) (caps : List (BitVec 32))
  /-- CONFIG_WRITE of the roll second (R141) -/
  | configWriteRollSecond (r : Req) (value : BitVec 32)
  /-- CONFIG_WRITE of the verify option (R151) -/
  | configWriteVerifyOption (r : Req) (value : Byte)
  /-- CONFIG_WRITE of the deck sample timeouts (R22) -/
  | configWriteSampleTimeout (r : Req) (d0 d1 : BitVec 16)
  /-- FETCH_NOTICE (R178) -/
  | fetchNotice (r : Req)
  /-- NOTICE_DONE (R179) -/
  | noticeDone (r : Req)
  /-- SET_NOTICE_MASK (R180) -/
  | setNoticeMask (r : Req) (levels : List Byte)
  /-- CLEAR_CONDITION (R184) -/
  | clearCondition (r : Req) (condition : Byte)
  /-- SET_CONDITION_ENABLE (R185) -/
  | setConditionEnable (r : Req) (condition enable : Byte)
  /-- SET_CLOCK (R140) -/
  | setClock (r : Req) (value : BitVec 32)
  /-- STORE_RETRY (R150) -/
  | storeRetry (r : Req)
  /-- READ_WEIGHT (R20) -/
  | readWeight (r : Req) (selection : Byte)
  /-- READ_RAW (R21) -/
  | readRaw (r : Req) (deck : Byte)
  /-- READ_CAL (R36) -/
  | readCal (r : Req) (deck copy : Byte)
  /-- ZERO (R37) -/
  | zero (r : Req) (deck : Byte)
  /-- CAL_OPEN (R26) -/
  | calOpen (r : Req) (deck : Byte)
  /-- CAL_WRITE (R27) -/
  | calWrite (r : Req) (deck : Byte) (pairs : List CalPair)
  /-- CAL_COMMIT (R28, R29) -/
  | calCommit (r : Req) (deck : Byte)
  /-- CAL_DISCARD (R31) -/
  | calDiscard (r : Req) (deck : Byte)
  /-- READ_LANE_IO (R60) -/
  | readLaneIo (r : Req) (lane : Byte)
  /-- BARRIER with action RAISE (R57) -/
  | barrierRaise (r : Req) (lane barrier : Byte)
  /-- BARRIER with action LOWER (R57) -/
  | barrierLower (r : Req) (lane barrier : Byte)
  /-- BARRIER with action CLEAR (R57) -/
  | barrierClear (r : Req) (lane barrier : Byte)
  /-- OPEN_LANE (R62) -/
  | openLane (r : Req) (lane : Byte)
  /-- CLOSE_LANE (R62) -/
  | closeLane (r : Req) (lane : Byte)
  /-- ADMIT (R66) -/
  | admitVehicle (r : Req) (lane : Byte) (fields : AdmitFields)
  /-- HOLD (R83) -/
  | hold (r : Req) (lane : Byte)
  /-- RESUME (R84) -/
  | resume (r : Req) (lane : Byte)
  /-- SEND_BACK (R85) -/
  | sendBack (r : Req) (lane : Byte)
  /-- LANE_RESET (R86) -/
  | laneReset (r : Req) (lane : Byte)
  /-- CAPTURE (R91, R92) -/
  | capture (r : Req) (lane : Byte) (mode waste : Option Byte)
  /-- ATTEND (R169) -/
  | attend (r : Req) (lane : Byte)
  /-- ATTEND_END (R171) -/
  | attendEnd (r : Req) (lane : Byte)
  /-- REG_ADD (R109) -/
  | regAdd (r : Req) (tag : Tag) (fields : RegFields)
  /-- REG_UPDATE (R110) -/
  | regUpdate (r : Req) (tag : Tag) (changes : List RegChange)
  /-- REG_REMOVE (R111) -/
  | regRemove (r : Req) (tag : Tag)
  /-- REG_READ (R113) -/
  | regRead (r : Req) (after : Tag) (count : Byte)
  /-- REG_FIND (R112) -/
  | regFind (r : Req) (key : FindKey)
  /-- READ_SITE (R132) -/
  | readSite (r : Req) (after : BitVec 32) (count : Byte)
  /-- READ_TICKET (R133) -/
  | readTicket (r : Req) (ticket : BitVec 32)
  /-- VOID_TICKET (R130) -/
  | voidTicket (r : Req) (ticket : BitVec 32) (reason : Byte)
  /-- EDIT_TICKET (R131) -/
  | editTicket (r : Req) (ticket : BitVec 32) (changes : List TicketChange)
  /-- READ_TOTALS (R138) -/
  | readTotals (r : Req)
  /-- READ_JOURNAL (R156) -/
  | readJournal (r : Req) (seq : BitVec 32) (count : Byte)
  /-- ARCHIVE (R154) -/
  | archive (r : Req) (n : BitVec 32)
  /-- a request arrival with a code that no request has (R189) -/
  | unknownRequest (r : Req) (code : Byte)
  /-- a station frame answered FRAME_ERROR (R186) -/
  | frameError (station : Station) (fault : FrameFault)
  /-- more than 20 ms between two bytes of a station frame (R186) -/
  | stationFrameGap (station : Station)
  /-- a break on a station port's receive line (R190) -/
  | portReset (station : Station)
  /-- a journal record read at the memory port completes with these bytes (R152) -/
  | journalReadDone (record : List Byte)
  /-- a cell link frame with a good check arrives (R2) -/
  | sampleArrival (deck : Deck) (seq : Byte) (cells : List CellSample)
  /-- a complete cell link frame whose check does not match (R2) -/
  | cellFrameRefused (deck : Deck)
  /-- more than 5 ms between two bytes of a cell link frame (R1) -/
  | cellFrameGap (deck : Deck)
  /-- a deck's sample timer reaches its timeout (R5) -/
  | sampleTimerExpiry (deck : Deck)
  /-- a tag frame with a good check and a non-zero tag arrives (R44) -/
  | tagArrival (lane : Lane) (tag : Tag)
  /-- a tag frame whose check fails or whose tag is all zero (R43, R44) -/
  | tagFrameRefused (lane : Lane)
  /-- more than 5 ms between two bytes of a tag frame (R43) -/
  | tagFrameGap (lane : Lane)
  /-- an input change of AL, EB, XB or XL (R41, R76) -/
  | laneInputChange (lane : Lane) (input : LaneInput) (broken : Bool)
  /-- an input change of a barrier limit (R41, R49) -/
  | limitChange (lane : Lane) (barrier : BarrierId) (limit : Limit) (active : Bool)
  /-- an input change of a safety beam (R41, R53) -/
  | safetyBeamChange (lane : Lane) (barrier : BarrierId) (broken : Bool)
  /-- a clear-delay timer expires (R48) -/
  | clearDelayExpiry (lane : Lane) (barrier : BarrierId)
  /-- a travel timer expires (R51) -/
  | travelTimeout (lane : Lane) (barrier : BarrierId)
  /-- a leave-limit timer expires (R50) -/
  | leaveLimitExpiry (lane : Lane) (barrier : BarrierId)
  /-- a dwell timer reaches the limit of a timed state other than WEIGHING (R64) -/
  | dwellExpiry (lane : Lane)
  /-- the dwell timer of WEIGHING reaches the settle timeout (R102) -/
  | settleTimeout (lane : Lane)
  /-- the emergency stop input has held a new level for 20 ms (R183) -/
  | estopInputChange (asserted : Bool)
  /-- the mains fail input has held a new level for 20 ms (R183) -/
  | mainsFailInputChange (asserted : Bool)
  /-- the seal switch has held a new position for 100 ms (R24) -/
  | sealSwitchChange (access : Bool)
  /-- one second of the yard clock (R139) -/
  | clockTick
  /-- reset input or power-up, with rate strap 1 and rate strap 0 tied low or open (R157, R186) -/
  | yardReset (strap1Low strap0Low : Bool)
  /-- the configuration record has been read, and the inputs are sampled (R158, R42, R183) -/
  | configAreaLoaded (record : List Byte) (pins : YardPins)
  /-- the two calibration records have been read (R40) -/
  | calibrationLoaded (d0 d1 : List Byte)
  /-- the 512 vehicle slot records have been read (R117) -/
  | vehicleRegisterLoaded (slots : List (List Byte))
  /-- the 64 site slot records have been read (R121) -/
  | siteRegisterLoaded (slots : List (List Byte))
  /-- the index/totals record has been read (R158) -/
  | indexTotalsLoaded (record : List Byte)
  /-- every position of the journal ring has been read (R158) -/
  | journalRingLoaded (positions : List (List Byte))
  /-- the counter record has been read; recovery and READY follow (R158 to R161) -/
  | counterLoaded (record : List Byte)
  /-- the engine begins an attempt, the memory port being free (R147) -/
  | attemptStart
  /-- the write of the attempt has been issued (R147) -/
  | writeIssued
  /-- a status read answers busy (R148) -/
  | statusPollBusy
  /-- the device answers ready within 50 ms (R148) -/
  | readyAnswered
  /-- the verify read-back completes with these bytes (R148) -/
  | verifyReadDone (read : List Byte)
  /-- 50 ms pass in WAIT_READY without ready (R149) -/
  | readyTimeout
  /-- the third byte of a cell link frame is 0 or above 8 (R1) -/
  | cellFrameBadCount (deck : Deck)
  /-- the length byte of a station frame is 0 or above 250 (R186) -/
  | stationFrameBadLength (station : Station)
  /-- a response finishes being sent on a station port (R189) -/
  | responseSent (station : Station)
  deriving DecidableEq, Repr

end Sys2Proof
end

