-- ==== Sys2Proof/Decode.lean ====
section
/-! DEFINITION. From bytes to commands. spec/opcode_table.json gives no row any bits, so no word spells a command
(`decodeTableWord`). What the part itself decodes are the frames of its serial inputs: cell link frames (1.1, R1, R2), tag
frames (3.2, R43, R44) and station frames (R186) with the request bodies of R187. The functions here are total: a complete
frame always gives one command. -/

namespace Sys2Proof

/-- The command a word spells by the table's bits: none, since the table gives no row any. -/
def decodeTableWord (_nbits _w : Nat) : Option Instr := none

namespace Decode

open Machine

/-! ### Reading fields -/

/-- A reader takes a field from the front of a body. -/
abbrev Reader (α : Type) := List Byte → Option (α × List Byte)

/-- A reader of two fields in turn. -/
def both {α β : Type} (p : Reader α) (q : Reader β) : Reader (α × β) := fun bs =>
  (p bs).bind fun x => (q x.2).map fun y => ((x.1, y.1), y.2)

/-- A field changed by a function. -/
def via {α β : Type} (f : α → β) (p : Reader α) : Reader β := fun bs => (p bs).map fun x => (f x.1, x.2)

/-- `n` bytes. -/
def bytes (n : Nat) : Reader (List Byte) := fun bs => if n ≤ bs.length then some (bs.take n, bs.drop n) else none

/-- One byte. -/
def u8 : Reader Byte := via (fun bs => bs.getD 0 0) (bytes 1)

/-- An unsigned 16-bit integer. -/
def u16 : Reader (BitVec 16) := via (fun bs => BitVec.ofNat 16 (beNat bs)) (bytes 2)

/-- A 24-bit integer. -/
def u24 : Reader (BitVec 24) := via (fun bs => BitVec.ofNat 24 (beNat bs)) (bytes 3)

/-- An unsigned 32-bit integer. -/
def u32 : Reader (BitVec 32) := via (fun bs => BitVec.ofNat 32 (beNat bs)) (bytes 4)

/-- A tag. -/
def tag : Reader Tag := via (fun bs => tagAt bs 0) (bytes 8)

/-- A tag that is absent when all zero (R187). -/
def optTag : Reader (Option Tag) := via (fun t => if t = 0 then none else some t) tag

/-- An optional field behind its presence byte (R187); one presence byte stands before fields that are absent together
(assumption 45). -/
def opt {α : Type} (p : Reader α) : Reader (Option α)
  | [] => none
  | b :: rest =>
    if b = 0 then some (none, rest)
    else if b = 1 then (p rest).map fun x => (some x.1, x.2)
    else none

/-- `n` fields of one kind. -/
def times {α : Type} (p : Reader α) : Nat → Reader (List α)
  | 0 => fun bs => some ([], bs)
  | n + 1 => via (fun x => x.1 :: x.2) (both p (times p n))

/-- A list behind its count byte (R187). -/
def listOf {α : Type} (p : Reader α) : Reader (List α) := fun bs =>
  (u8 bs).bind fun x => times p x.1.toNat x.2

/-- A character string: a length byte and the characters (R187). -/
def text : Reader (List Byte) := listOf u8

/-- No field. -/
def nothing : Reader Unit := fun bs => some ((), bs)

/-- The fields of a body that holds exactly their bytes (R187). -/
def whole {α : Type} (p : Reader α) (body : List Byte) : Option α :=
  match p body with
  | some (a, []) => some a
  | _ => none

/-- The request of a body: its fields, or, where the body ends before them or holds bytes after them, the request with a
malformed body, which is refused with RANGE (R187). -/
def request {α : Type} (r : Req) (p : Reader α) (dflt : α) (f : Req → α → Instr) (body : List Byte) : Instr :=
  match whole p body with
  | some a => f r a
  | none => f { r with bodyOk := false } dflt

/-! ### Bodies of requests -/

/-- A lane group (R192, R144). -/
def laneGroup : Reader LaneGroup :=
  via (fun x => {
      deck := x.1.getD 0 0
      direction := x.1.getD 1 0
      autoCapture := x.1.getD 2 0
      tagAdmission := x.1.getD 3 0
      storedTare := x.1.getD 4 0
      defaultKind := x.1.getD 5 0
      debounce := x.2.1
      travel := x.2.2.1
      clear := x.2.2.2.1
      dwell := x.2.2.2.2.1
      openAtStart := x.2.2.2.2.2 })
    (both (bytes 6) (both u16 (both u8 (both u8 (both (times u16 8) u8)))))

/-- A lane group of zeros, for a malformed body. -/
def noLaneGroup : LaneGroup where
  deck := 0
  direction := 0
  autoCapture := 0
  tagAdmission := 0
  storedTare := 0
  defaultKind := 0
  debounce := 0
  travel := 0
  clear := 0
  dwell := []
  openAtStart := 0

/-- A window (R192, R144). -/
def window : Reader WindowBytes :=
  via (fun x => { enabled := x.1, scopes := x.2.1, classes := x.2.2.1, access := x.2.2.2 })
    (both u8 (both u8 (both u8 u8)))

/-- CONFIG_WRITE by its group identifier (R192). An unknown identifier is refused with RANGE as a malformed body is. -/
def configWrite (r : Req) : List Byte → Instr
  | [] => .configWriteVerifyOption { r with bodyOk := false } 0
  | g :: body =>
    match g.toNat with
    | 0x00 => request r laneGroup noLaneGroup (fun r v => .configWriteLane r .l0 v) body
    | 0x01 => request r laneGroup noLaneGroup (fun r v => .configWriteLane r .l1 v) body
    | 0x02 => request r laneGroup noLaneGroup (fun r v => .configWriteLane r .l2 v) body
    | 0x03 => request r laneGroup noLaneGroup (fun r v => .configWriteLane r .l3 v) body
    | 0x10 => request r (times window 8) [] (fun r v => .configWriteWindows r .s0 v) body
    | 0x11 => request r (times window 8) [] (fun r v => .configWriteWindows r .s1 v) body
    | 0x12 => request r (times window 8) [] (fun r v => .configWriteWindows r .s2 v) body
    | 0x20 => request r (times u8 24) [] .configWriteNoticeLevels body
    | 0x21 => request r (times u32 32) [] .configWriteWasteCaps body
    | 0x22 => request r u32 0 .configWriteRollSecond body
    | 0x23 => request r u8 0 .configWriteVerifyOption body
    | 0x24 => request r (both u16 u16) (0, 0) (fun r v => .configWriteSampleTimeout r v.1 v.2) body
    | _ => .configWriteVerifyOption { r with bodyOk := false } 0

/-- A pair of CAL_WRITE (R27). The widths after an unknown field code are not known, so no more is read. -/
def calPair : Reader CalPair
  | [] => none
  | c :: rest =>
    match c.toNat with
    | 0 => via CalPair.cellCount u8 rest
    | 1 => via (fun x => CalPair.zeroOffset x.1 x.2) (both u8 u24) rest
    | 2 => via (fun x => CalPair.span x.1 x.2) (both u8 u24) rest
    | 3 => via CalPair.division u8 rest
    | 4 => via CalPair.capacity u32 rest
    | 5 => via CalPair.filterLength u8 rest
    | 6 => via CalPair.motionBand u8 rest
    | 7 => via CalPair.stabilityCount u8 rest
    | 8 => via CalPair.zeroTracking u8 rest
    | _ => some (.unknownField c, [])

/-- The fields of ADMIT (R66). -/
def admitFields : Reader AdmitFields :=
  via (fun x => {
      tag := x.1
      ticket := x.2.1
      kind := x.2.2.1
      waste := x.2.2.2.1
      account := x.2.2.2.2.1
      hazard := x.2.2.2.2.2 })
    (both optTag (both u32 (both (opt u8) (both (opt u8) (both (opt u16) (opt (both u8 u8)))))))

/-- An identity without fields, for a malformed body. -/
def noAdmitFields : AdmitFields where
  tag := none
  ticket := 0
  kind := none
  waste := none
  account := none
  hazard := none

/-- The fields of REG_ADD behind the tag, in the order of R107. -/
def regFields : Reader RegFields :=
  via (fun x => {
      fleet := x.1
      account := x.2.1
      waste := x.2.2.1
      kind := x.2.2.2.1
      tare := x.2.2.2.2.1
      barred := x.2.2.2.2.2 })
    (both (opt text) (both (opt u16) (both (opt u8) (both (opt u8) (both (opt (both u32 u16)) (opt u8))))))

/-- No fields, for a malformed body. -/
def noRegFields : RegFields where
  fleet := none
  account := none
  waste := none
  kind := none
  tare := none
  barred := none

/-- A change of REG_UPDATE: the fields numbered in the order of R107, the optional ones with a presence byte for removal. -/
def regChange : Reader RegChange
  | [] => none
  | c :: rest =>
    match c.toNat with
    | 1 => via RegChange.fleet text rest
    | 2 => via RegChange.account u16 rest
    | 3 => via RegChange.waste (opt u8) rest
    | 4 => via RegChange.kind u8 rest
    | 5 => via RegChange.tare (opt (both u32 u16)) rest
    | 6 => via RegChange.barred u8 rest
    | _ => some (.otherField c, [])

/-- A change of EDIT_TICKET: the fields numbered in the order of R131. -/
def ticketChange : Reader TicketChange
  | [] => none
  | c :: rest =>
    match c.toNat with
    | 0 => via TicketChange.account u16 rest
    | 1 => via TicketChange.waste u8 rest
    | 2 => via TicketChange.hazard (opt (both u8 u8)) rest
    | _ => some (.otherField c, [])

/-- What REG_FIND looks for: 00H and a tag, or 01H and a fleet reference. -/
def findKey : Reader FindKey
  | [] => none
  | c :: rest =>
    if c = 0 then via FindKey.tag tag rest
    else if c = 1 then via FindKey.fleet text rest
    else none

/-- BARRIER (R57): RAISE 00H, LOWER 01H, CLEAR 02H. Another action is refused with RANGE as a malformed body is. -/
def barrier (r : Req) (v : Byte × Byte × Byte) : Instr :=
  match v.2.2.toNat with
  | 0 => .barrierRaise r v.1 v.2.1
  | 1 => .barrierLower r v.1 v.2.1
  | 2 => .barrierClear r v.1 v.2.1
  | _ => .barrierRaise { r with bodyOk := false } v.1 v.2.1

/-- The request of a code and a body (11.6, R187). The set of levels of SET_NOTICE_MASK, whose encoding neither R180 nor R187
gives, is read as a list: a count byte and one byte for each level (assumption 9). -/
def requestOf (st : Station) (code tagByte : Byte) (body : List Byte) : Instr :=
  let r : Req := { station := st, tag := tagByte, bodyOk := true }
  let lane (f : Req → Byte → Instr) : Instr := request r u8 0 f body
  match code.toNat with
  | 0x01 => request r nothing () (fun r _ => .getStatus r) body
  | 0x02 => request r u8 0 .configRead body
  | 0x03 => configWrite r body
  | 0x04 => request r nothing () (fun r _ => .fetchNotice r) body
  | 0x05 => request r nothing () (fun r _ => .noticeDone r) body
  | 0x06 => request r (listOf u8) [] .setNoticeMask body
  | 0x07 => request r u8 0 .clearCondition body
  | 0x08 => request r (both u8 u8) (0, 0) (fun r v => .setConditionEnable r v.1 v.2) body
  | 0x09 => request r u32 0 .setClock body
  | 0x0A => request r nothing () (fun r _ => .storeRetry r) body
  | 0x10 => request r u8 0 .readWeight body
  | 0x11 => request r u8 0 .readRaw body
  | 0x12 => request r (both u8 u8) (0, 0) (fun r v => .readCal r v.1 v.2) body
  | 0x13 => request r u8 0 .zero body
  | 0x14 => request r u8 0 .calOpen body
  | 0x15 => request r (both u8 (listOf calPair)) (0, []) (fun r v => .calWrite r v.1 v.2) body
  | 0x16 => request r u8 0 .calCommit body
  | 0x17 => request r u8 0 .calDiscard body
  | 0x20 => lane .readLaneIo
  | 0x21 => request r (both u8 (both u8 u8)) (0, 0, 0) barrier body
  | 0x22 => lane .openLane
  | 0x23 => lane .closeLane
  | 0x24 => request r (both u8 admitFields) (0, noAdmitFields) (fun r v => .admitVehicle r v.1 v.2) body
  | 0x25 => lane .hold
  | 0x26 => lane .resume
  | 0x27 => lane .sendBack
  | 0x28 => lane .laneReset
  | 0x29 => request r (both u8 (both (opt u8) (opt u8))) (0, none, none) (fun r v => .capture r v.1 v.2.1 v.2.2) body
  | 0x2A => lane .attend
  | 0x2B => lane .attendEnd
  | 0x30 => request r (both tag regFields) (0, noRegFields) (fun r v => .regAdd r v.1 v.2) body
  | 0x31 => request r (both tag (listOf regChange)) (0, []) (fun r v => .regUpdate r v.1 v.2) body
  | 0x32 => request r tag 0 .regRemove body
  | 0x33 => request r (both tag u8) (0, 0) (fun r v => .regRead r v.1 v.2) body
  | 0x34 => request r findKey (.tag 0) .regFind body
  | 0x38 => request r (both u32 u8) (0, 0) (fun r v => .readSite r v.1 v.2) body
  | 0x39 => request r u32 0 .readTicket body
  | 0x3A => request r (both u32 u8) (0, 0) (fun r v => .voidTicket r v.1 v.2) body
  | 0x3B => request r (both u32 (listOf ticketChange)) (0, []) (fun r v => .editTicket r v.1 v.2) body
  | 0x3C => request r nothing () (fun r _ => .readTotals r) body
  | 0x3D => request r (both u32 u8) (0, 0) (fun r v => .readJournal r v.1 v.2) body
  | 0x3E => request r u32 0 .archive body
  | _ => .unknownRequest r code

/-! ### Frames -/

/-- The command of a complete station frame: start, length L, L bytes, two check bytes (R186). -/
def stationFrame (st : Station) (frame : List Byte) : Instr :=
  let n := byteAt frame 1
  if slice frame (n + 2) 2 = crcBytes (slice frame 1 (n + 1)) then
    match slice frame 2 n with
    | [] => .frameError st .badCheck
    | [code] => .frameError st (.lengthOne code)
    | code :: tagByte :: body => requestOf st code tagByte body
  else .frameError st .badCheck

/-- The command of a complete tag frame of 11 bytes (R43, R44). -/
def tagFrame (l : Lane) (frame : List Byte) : Instr :=
  if crcGood 9 frame && decide (tagAt frame 1 ≠ 0) then .tagArrival l (tagAt frame 1) else .tagFrameRefused l

/-- The cells of a cell link frame (1.1). -/
def cellsOf (frame : List Byte) (n : Nat) : List CellSample :=
  (List.range n).map fun c =>
    { raw := BitVec.ofNat 24 (natAt frame (3 + 4 * c) 3), status := frame.getD (6 + 4 * c) 0 }

/-- The command of a complete cell link frame of 5 + 4n bytes (R2). -/
def cellFrame (d : Deck) (frame : List Byte) : Instr :=
  let n := byteAt frame 2
  if crcGood (3 + 4 * n) frame then .sampleArrival d (frame.getD 1 0) (cellsOf frame n) else .cellFrameRefused d

end Decode

end Sys2Proof
end

