-- ==== Sys2Proof/Config.lean ====
section
/-! DEFINITION. What the manual leaves open: constants and functions with no value that a proof could lean on. -/

namespace Sys2Proof.Config

/-- The revision byte that GET_STATUS reports beside the family code 45H (R193). The manual gives no value for it, so it is
a free value: an opaque constant, of which nothing can be proved (assumption 1). -/
opaque revision : Byte

/-! A deck that was OUT_OF_SERVICE weighs in CAL_EDIT against a committed record that failed its checks (R25, R26), and such a
record may hold F = 0, d = 0 or N = 0, for which R8, R11 and R14 state no result. Each such result is a free value (assumption
39). -/

/-- W_avg where F is 0, so that the filter history keeps no value; of the W_raw just formed (R8). -/
opaque meanOfNone : Int → Int

/-- The rounded weight where d is 0, so that the quotient of R11 divides by 0; of W_g. -/
opaque weightOfNoDivision : Int → Int

/-- The spread where N is 0, so that the stability history keeps no entry; of the W_avg just formed (R14). -/
opaque spreadOfNone : Int → Int

end Sys2Proof.Config
end

