-- ==== Sys2Proof/Machine/State.lean ====
section
/-! DEFINITION. The state of the EY-420 as plain data: every register, queue, table, flag and timer the manual gives a
block, grouped by the block that owns it (00_scope.md, 1.3), the commands that wait, and the machine right after reset.
Output pins (barrier motors, lamps, attention lines) follow the state in the same event, so they are computed
(Sys2Proof/Machine/Flags.lean), not held a second time. -/

namespace Sys2Proof.Machine

/-! ### Authority (R162) -/

/-- A scope: a lane, or YARD. -/
inductive Scope where
  | lane (l : Lane)
  | yard
  deriving DecidableEq, Repr

/-- A class of requests and notices. -/
inductive Cls where
  | lane | ticket | register | deck | yard
  deriving DecidableEq, Repr

/-- A level of access. -/
inductive Access where
  | control | watch | none
  deriving DecidableEq, Repr

/-- One authority window (R162). Bit i of a set stands for the i-th member: L0 to L3, YARD of the scopes; LANE, TICKET,
REGISTER, DECK, YARD of the classes. -/
structure Window where
  enabled : Bool
  scopes : BitVec 5
  classes : BitVec 5
  access : Access
  deriving DecidableEq, Repr

/-! ### The yard clock and the conditions -/

/-- The yard clock (R139): a count of seconds, and whether a station has set it. -/
structure Clock where
  count : Nat
  set : Bool
  deriving DecidableEq, Repr

/-- The ten yard conditions, in the order of R182. -/
inductive Condition where
  | estop | mainsFail | sealAccess | storeFault | cellLink0 | cellLink1 | calBad0 | calBad1 | configDefaulted
  | recordsRebuilt
  deriving DecidableEq, Repr

/-- What the condition monitor holds for one condition (R182). -/
structure CondState where
  active : Bool
  latched : Bool
  enable : Bool
  deriving DecidableEq, Repr

/-- The condition monitor. The active state of `estop`, `mainsFail` and `sealAccess` is the level or position the monitor
has taken from the input (R183, R24): SEAL_ACCESS is active exactly while the position is ACCESS. -/
structure Conditions where
  estop : CondState
  mainsFail : CondState
  sealAccess : CondState
  storeFault : CondState
  cellLink0 : CondState
  cellLink1 : CondState
  calBad0 : CondState
  calBad1 : CondState
  configDefaulted : CondState
  recordsRebuilt : CondState
  deriving DecidableEq, Repr

/-! ### Settings (the configuration groups, R192) -/

/-- DELIVERY or COLLECTION. -/
inductive Kind where
  | delivery | collection
  deriving DecidableEq, Repr

/-- The deck setting of a lane (R61). BOTH makes a tandem lane. -/
inductive DeckSel where
  | d0 | d1 | both
  deriving DecidableEq, Repr

/-- The direction of a lane (R61). -/
inductive Direction where
  | inbound | outbound
  deriving DecidableEq, Repr

/-- The dwell limits of a lane in seconds, one for each timed state (R64). -/
structure DwellLimits where
  admitting : Nat
  entering : Nat
  positioning : Nat
  onDeck : Nat
  weighing : Nat
  leaving : Nat
  retreating : Nat
  clearing : Nat
  deriving DecidableEq, Repr

/-- The lane configuration group (R61). Debounce in ms, travel timeout and clear delay in s. -/
structure LaneSettings where
  deck : DeckSel
  direction : Direction
  autoCapture : Bool
  tagAdmission : Bool
  storedTare : Bool
  defaultKind : Kind
  debounce : Nat
  travel : Nat
  clear : Nat
  dwell : DwellLimits
  openAtStart : Bool
  deriving DecidableEq, Repr

/-- The working configuration (R192): the lane groups, the windows of each station (eight each), the notice levels (one for
each of the 24 kinds, in the order of R174), the waste caps (codes 1 to 32), the roll second, the verify option and the
deck sample timeouts in ms. -/
structure Settings where
  lanes : PerLane LaneSettings
  windows : PerStation (List Window)
  levels : List Nat
  caps : List Nat
  rollSecond : Nat
  verify : Bool
  sampleTimeout : PerDeck Nat
  deriving DecidableEq, Repr

/-! ### Decks -/

/-- A calibration record (R23). `zeros` and `spans` hold all eight cells. A record that failed a check is held as it was
read, so any field may be out of range, `zeroTracking` too (0 OFF, 1 ON). -/
structure CalRecord where
  cellCount : Nat
  zeros : List Int
  spans : List Nat
  division : Nat
  capacity : Nat
  filterLength : Nat
  motionBand : Nat
  stabilityCount : Nat
  zeroTracking : Nat
  counter : Nat
  checksum : BitVec 16
  deriving DecidableEq, Repr

/-- The deck states (R25). -/
inductive DeckState where
  | inService | calEdit | outOfService
  deriving DecidableEq, Repr

/-- The weight statuses, in the order of their values (R187). -/
inductive WeightStatus where
  | valid | over | under | stale | cellFault
  deriving DecidableEq, Repr

/-- One entry of the stability history (R14). -/
structure StabEntry where
  wAvg : Int
  valid : Bool
  deriving DecidableEq, Repr

/-- The latest frame of a deck, for READ_RAW (R2), with the clock at its arrival. -/
structure LatestFrame where
  seq : Nat
  cells : List CellSample
  time : Nat
  deriving DecidableEq, Repr

/-- The deck sample timer (R5): not yet started since yard reset, running with the timeout in force at its start, or
expired and stopped. -/
inductive SampleTimer where
  | notStarted
  | running (timeout : Nat)
  | expired
  deriving DecidableEq, Repr

/-- A cell link receiver (R1, R2, R5). `rx` holds the bytes of the frame being collected; the empty list is HUNT. -/
structure CellLink where
  rx : List Byte
  discarded : Nat
  latest : Option LatestFrame
  timer : SampleTimer
  deriving DecidableEq, Repr

/-- The reading of a deck (R16) but for Z, which the weight unit holds. -/
structure Reading where
  w : Int
  status : WeightStatus
  stable : Bool
  centreZero : Bool
  wRaw : Option Int
  wAvg : Option Int
  wG : Option Int
  calCounter : Nat
  time : Option Nat
  deriving DecidableEq, Repr

/-- A deck weight unit (R3, R8, R9, R10, R14, R38, R39). `trackMs` is the time in ms since the last tracking step or accepted
ZERO, counted up to 1,000; `none` when there has been neither since yard reset. -/
structure WeightUnit where
  lastSeq : Option Nat
  filter : List Int
  stability : List StabEntry
  refill : Bool
  zero : Int
  zeroLimit : Bool
  trackMs : Option Nat
  reading : Reading
  deriving DecidableEq, Repr

/-- What the calibration table holds for a deck (R23, R25): its state, the pre-edit state and the edit copy while the state
is CAL_EDIT, and the committed record. -/
structure DeckCal where
  state : DeckState
  preEdit : Option DeckState
  committed : CalRecord
  edit : Option CalRecord
  deriving DecidableEq, Repr

/-- One deck: receiver, weight unit and calibration. -/
structure DeckUnit where
  link : CellLink
  weight : WeightUnit
  cal : DeckCal
  deriving DecidableEq, Repr

/-- The coupled reading (R18, R19): W_c, its status and stable indication, W_gc when both decks have a W_g, d_c and Max_c
as they were when it was formed, and both decks' calibration counters. -/
structure CoupledReading where
  w : Int
  status : WeightStatus
  stable : Bool
  wG : Option Int
  division : Nat
  capacity : Nat
  counter0 : Nat
  counter1 : Nat
  deriving DecidableEq, Repr

/-! ### Lanes and barriers -/

/-- The barrier states (R45). -/
inductive BarrierState where
  | down | rising | up | falling | stopped | fault
  deriving DecidableEq, Repr

/-- The fault causes of a barrier, in the order of R45. -/
inductive FaultCause where
  | limitStuck | travel | limits
  deriving DecidableEq, Repr

/-- A barrier controller (R45) with the debounced levels of its inputs (R41). `travel` and `clearDelay` hold the time a
running timer was started with, in s. -/
structure Barrier where
  state : BarrierState
  cause : Option FaultCause
  lowerPending : Bool
  reversals : Nat
  travel : Option Nat
  leaveLimit : Bool
  clearDelay : Option Nat
  upLimit : Bool
  downLimit : Bool
  beamBroken : Bool
  deriving DecidableEq, Repr

/-- The lane states, in the order of R63. -/
inductive LaneState where
  | closed | idle | admitting | entering | positioning | onDeck | weighing | leaving | retreating | clearing | hold
  deriving DecidableEq, Repr

/-- The hold reasons, in the order of R63. -/
inductive HoldReason where
  | station | estop | barrierFault | obstructed | timeout | deckOut | startup
  deriving DecidableEq, Repr

/-- The capture modes (R90). -/
inductive CaptureMode where
  | first | intermediate | final
  deriving DecidableEq, Repr

/-- The pending, failure and abandonment reasons of a capture, in the order of R106. -/
inductive CaptureReason where
  | status | motion | position | belowMin | aboveMax | storeFault | storeBusy | held | sentBack | estop
  deriving DecidableEq, Repr

/-- The capture context of a lane in WEIGHING (R90). Origin `none` is AUTO. -/
structure CaptureContext where
  mode : CaptureMode
  sectionCode : Option Nat
  origin : Option Station
  pending : CaptureReason
  deriving DecidableEq, Repr

/-- The passage marks (R77, R79, R81, R93): EB seen; the step of LEAVING, 4 when XL has changed to clear at step 3; the
AL stage; the reposition mark. -/
structure Marks where
  ebSeen : Bool
  leavingStep : Nat
  alStage : Nat
  reposition : Bool
  deriving DecidableEq, Repr

/-- A lane's last tag (R44). -/
structure LastTag where
  tag : Tag
  time : Nat
  deriving DecidableEq, Repr

/-- A lane's tag receiver (R43). `rx` holds the bytes of the frame being collected; the empty list is HUNT. -/
structure TagReceiver where
  rx : List Byte
  discarded : Nat
  last : Option LastTag
  deriving DecidableEq, Repr

/-- A lane controller (R63, R90) with its barriers, its debounced inputs (true is broken) and its tag receiver. The binding
is held by the site entry, the claim and the holding by the arbiter. `dwell` is the limit, in s, that a running dwell
timer is compared with. -/
structure LaneUnit where
  state : LaneState
  holdReason : Option HoldReason
  heldFrom : Option LaneState
  dwell : Option Nat
  marks : Marks
  lastRefused : Option Tag
  go : Bool
  armed : Bool
  capture : Option CaptureContext
  al : Bool
  eb : Bool
  xb : Bool
  xl : Bool
  barrierA : Barrier
  barrierX : Barrier
  tagRx : TagReceiver
  deriving DecidableEq, Repr

/-! ### Registers, tickets and the journal -/

/-- A registered tare (R108). -/
structure Tare where
  weight : Nat
  stamp : Nat
  validity : Nat
  deriving DecidableEq, Repr

/-- A vehicle entry's fields (R107). -/
structure VehicleData where
  tag : Tag
  fleet : List Byte
  account : Nat
  waste : Option Nat
  kind : Kind
  tare : Option Tare
  barred : Bool
  deriving DecidableEq, Repr

/-- A vehicle entry in its slot, 0 to 511 (R107). -/
structure VehicleEntry where
  slot : Nat
  data : VehicleData
  deriving DecidableEq, Repr

/-- The source of a weighing (R98, R101). `unknown` stands for a source code above 3, which only a record read back damaged
can hold (R121). -/
inductive WeighSource where
  | deck0 | deck1 | coupled | storedTare
  | unknown (code : Nat)
  deriving DecidableEq, Repr

/-- A weighing record (R98). A section code of 0 is absent; a counter the source does not carry is 0. -/
structure Weighing where
  weight : Nat
  source : WeighSource
  lane : Lane
  time : Nat
  counter0 : Nat
  counter1 : Nat
  sectionCode : Nat
  deriving DecidableEq, Repr

/-- A hazard declaration (R118). -/
structure Hazard where
  code : Nat
  containers : Nat
  deriving DecidableEq, Repr

/-- The standing of a site entry (R118). -/
inductive SiteState where
  | reserved | opened | suspect
  deriving DecidableEq, Repr

/-- A site entry in its slot, 0 to 63 (R118). Ticket number 0 is absent (00_scope.md, 3.4). -/
structure SiteEntry where
  slot : Nat
  state : SiteState
  ticket : Nat
  kind : Kind
  tag : Option Tag
  account : Nat
  waste : Nat
  hazard : Option Hazard
  weighings : List Weighing
  boundLane : Option Lane
  ordinal : Nat
  deriving DecidableEq, Repr

/-- The site register (R119): the entries in admission order, oldest first, and the next-ordinal value. -/
structure SiteRegister where
  entries : List SiteEntry
  nextOrdinal : Nat
  deriving DecidableEq, Repr

/-- The close conditions (R128, R130). -/
inductive CloseCondition where
  | normal | storedTare | netNegative | void
  deriving DecidableEq, Repr

/-- A journal entry (R129). Section nets and the total net are formed from the weighings. -/
structure JournalEntry where
  seq : Nat
  ticket : Nat
  close : CloseCondition
  voidReason : Nat
  kind : Kind
  tag : Option Tag
  account : Nat
  hazard : Option Hazard
  closeTime : Nat
  weighings : List Weighing
  deriving DecidableEq, Repr

/-- Today and previous day of one waste code (R135). -/
structure DayTotals where
  today : Nat
  previous : Nat
  deriving DecidableEq, Repr

/-- The working copy of the index/totals record (R129, R135, R141, R153). The stored day index is `none` while unknown. -/
structure IndexTotals where
  nextSeq : Nat
  archivedSeq : Nat
  lastCredited : Nat
  storedDay : Option Int
  totals : List DayTotals
  deriving DecidableEq, Repr

/-- A pair of the recently closed list (R134). -/
structure RecentTicket where
  ticket : Nat
  seq : Nat
  deriving DecidableEq, Repr

/-- The ticket engine but for the totals (R122, R134, R135, R142): the ticket counter, a cap notice flag for each code, the
roll-write-pending flag and the recently closed list. -/
structure TicketEngine where
  counter : Nat
  capNotice : List Bool
  rollPending : Bool
  recent : List RecentTicket
  deriving DecidableEq, Repr

/-! ### The record store engine -/

/-- The areas of the record memory, in the order of R143. -/
inductive Area where
  | configuration | calibration | counter | indexTotals | site | vehicle | journal
  deriving DecidableEq, Repr

/-- One extent of a write item: a record as it stood when the item joined the queue (R145). Its address and its bytes, CRC
included, are functions of it (Sys2Proof/Machine/Records.lean). `none` is the empty mark. -/
inductive Record where
  | configuration (c : Settings)
  | calibration (d : Deck) (r : CalRecord)
  | counter (n : Nat)
  | indexTotals (t : IndexTotals)
  | siteSlot (slot : Nat) (e : Option SiteEntry)
  | vehicleSlot (slot : Nat) (e : Option VehicleData)
  | journal (e : JournalEntry)
  deriving DecidableEq, Repr

/-- A write item (R145): one to three extents, in an ordinary slot or in the slot reserved for the day roll. -/
structure WriteItem where
  extents : List Record
  reserved : Bool
  deriving DecidableEq, Repr

/-- The engine states (R147). -/
inductive EngineState where
  | idle | writing | waitReady | fault
  deriving DecidableEq, Repr

/-- The current extent: its place in the head item, and the attempt count (R147). -/
structure CurrentExtent where
  index : Nat
  attempt : Nat
  deriving DecidableEq, Repr

/-- Why an attempt failed (R149), in the order of R188. -/
inductive FailCause where
  | readyTimeout | compareFailure
  deriving DecidableEq, Repr

/-- A journal entry as READ_JOURNAL reports it (R156): in full, or DAMAGED with its seq alone. -/
inductive JournalReport where
  | full (e : JournalEntry)
  | damaged (seq : Nat)
  deriving DecidableEq, Repr

/-- One seq of a deferred read, and what is in hand for it. -/
structure ReadSlot where
  seq : Nat
  got : Option JournalReport
  deriving DecidableEq, Repr

/-- A group of journal reads of one deferred request (R152, R156). `discard` is set when the port has been reset since
(R190). -/
structure ReadGroup where
  station : Station
  code : Byte
  tag : Byte
  clamped : Bool
  slots : List ReadSlot
  discard : Bool
  deriving DecidableEq, Repr

/-- The record store engine and the memory port (R145 to R152): the write queue, oldest first; the engine state; the current
extent; whether an attempt holds the port; whether the attempt is in its verify read-back; the cause of the last failed
attempt; the read groups being served and those that wait for the end of an attempt. -/
structure StoreEngine where
  queue : List WriteItem
  state : EngineState
  current : Option CurrentExtent
  attemptOn : Bool
  verifying : Bool
  lastFailure : Option FailCause
  serving : List ReadGroup
  waiting : List ReadGroup
  deriving DecidableEq, Repr

/-! ### Notices -/

/-- The notice kinds, in the order of R174. -/
inductive NoticeKind where
  | estopChange | storeFault | deckOut | mainsChange | laneHold | obstructed | barrierFault | admitRefused | captureFailed
  | permitCap | journalLow | deckStatus | zeroLimit | calCommitted | sealChange | captured | tagRead | ticketOpened
  | ticketClosed | ticketVoided | admitted | laneCleared | startupReport | dayRolled
  deriving DecidableEq, Repr

/-- A notice (R173). Ticket number 0 is absent. -/
structure Notice where
  kind : NoticeKind
  level : Nat
  lane : Option Lane
  deck : Option Deck
  ticket : Nat
  detail : Nat
  values : List Int
  time : Nat
  deriving DecidableEq, Repr

/-- What the notice dispatcher holds for one station (R176 to R180): the queue, oldest first; the set of levels in progress
and the mask, each ascending and without repeats; the overrun flag. -/
structure NoticeState where
  queue : List Notice
  inProgress : List Nat
  mask : List Nat
  overrun : Bool
  deriving DecidableEq, Repr

/-! ### Station ports -/

/-- The result codes, in the order of their values (R191), without the value 15H, which is not used. -/
inductive Result where
  | ok | accepted | notPermitted | attended | wrongState | busy | notReady | range | notFound | duplicate | full
  | sealClosed | deckClaimed | motion | status | storeBusy | storeFault | clockUnset | noAdmit | permitCap | barred
  | notRegistered | noWasteCode | alreadyOnSite | bound | onSite | journalFull | counterExhausted | stillActive
  | lastControl | frameError | unknownRequest
  deriving DecidableEq, Repr

/-- The start-up phase (R157), with the area that LOADING reads next. -/
inductive LoadArea where
  | configuration | calibration | vehicle | site | indexTotals | journal | counter
  deriving DecidableEq, Repr

/-- LOADING, then RECOVERING, then READY (R157). -/
inductive Phase where
  | loading (next : LoadArea)
  | recovering
  | ready
  deriving DecidableEq, Repr

/-- How a register's tare is reported (R108). -/
inductive TareState where
  | none | valid | expired | unset
  deriving DecidableEq, Repr

/-- What GET_STATUS reports of a deck (R193); `state` is absent before the calibration area has been loaded. -/
structure DeckStatusReport where
  state : Option DeckState
  status : WeightStatus
  holder : Option Lane
  queue : List Lane
  deriving DecidableEq, Repr

/-- What GET_STATUS reports of a lane (R193). -/
structure LaneStatusReport where
  state : LaneState
  holdReason : Option HoldReason
  heldFrom : Option LaneState
  bound : Bool
  claim : Bool
  holding : Bool
  attending : Option Station
  armed : Bool
  capture : Option CaptureContext
  deriving DecidableEq, Repr

/-- What GET_STATUS reports (R193). Values not yet loaded are absent. -/
structure StatusReport where
  family : Byte
  revision : Byte
  phase : Phase
  conditions : Conditions
  clock : Clock
  decks : PerDeck DeckStatusReport
  lanes : PerLane LaneStatusReport
  engine : EngineState
  queued : Nat
  reservedFilled : Bool
  faultArea : Option Area
  faultCause : Option FailCause
  nextSeq : Option Nat
  archivedSeq : Option Nat
  freeCapacity : Option Int
  counter : Option Nat
  deriving DecidableEq, Repr

/-- What READ_WEIGHT reports for one deck (R20). -/
structure WeightReport where
  reading : Reading
  zero : Int
  filterCount : Nat
  stabilityCount : Nat
  deckState : DeckState
  zeroLimit : Bool
  deriving DecidableEq, Repr

/-- What READ_WEIGHT reports of each deck for BOTH (R20). -/
structure DeckBrief where
  w : Int
  status : WeightStatus
  stable : Bool
  deriving DecidableEq, Repr

/-- What READ_RAW reports (R21). Before the first sample arrival the frame is absent: a cell count of 0 and no cells. -/
structure RawReport where
  frame : Option LatestFrame
  cellCount : Nat
  discarded : Nat
  expired : Bool
  deriving DecidableEq, Repr

/-- What READ_CAL reports (R36); `matching` is present for COMMITTED. -/
structure CalReport where
  record : CalRecord
  deckState : DeckState
  preEdit : Option DeckState
  matching : Option Bool
  deriving DecidableEq, Repr

/-- What READ_LANE_IO reports of one barrier (R60). -/
structure BarrierReport where
  upLimit : Bool
  downLimit : Bool
  beamBroken : Bool
  raiseOut : Bool
  lowerOut : Bool
  state : BarrierState
  cause : Option FaultCause
  lowerPending : Bool
  reversals : Nat
  settled : Bool
  deriving DecidableEq, Repr

/-- What READ_LANE_IO reports (R60). -/
structure LaneIoReport where
  al : Bool
  eb : Bool
  xb : Bool
  xl : Bool
  red : Bool
  green : Bool
  a : BarrierReport
  x : BarrierReport
  debounce : Nat
  travel : Nat
  clear : Nat
  lastTag : Option LastTag
  discarded : Nat
  deriving DecidableEq, Repr

/-- What REG_FIND and REG_READ report of an entry (R112): its fields, the expiry and state of its tare, and the state and
ticket number of the site entry that holds its tag. -/
structure VehicleReport where
  data : VehicleData
  expiry : Option Nat
  tareState : TareState
  onSite : Option (SiteState × Nat)
  deriving DecidableEq, Repr

/-- What READ_SITE reports of an entry (R132). -/
structure SiteReport where
  state : SiteState
  ordinal : Nat
  ticket : Nat
  kind : Kind
  tag : Option Tag
  account : Nat
  waste : Nat
  hazard : Option Hazard
  weighings : Nat
  lastWeighing : Option (Nat × Nat)
  boundLane : Option Lane
  deriving DecidableEq, Repr

/-- A section of a ticket: its net and its waste code (R127). -/
structure TicketSection where
  net : Int
  code : Nat
  deriving DecidableEq, Repr

/-- One code's line of READ_TOTALS (R138). -/
structure TotalsLine where
  cap : Nat
  today : Nat
  previous : Nat
  capNotice : Bool
  deriving DecidableEq, Repr

/-- What READ_TOTALS reports (R138). -/
structure TotalsReport where
  lines : List TotalsLine
  counter : Nat
  storedDay : Option Int
  currentDay : Option Int
  rollSecond : Nat
  lastCredited : Nat
  deriving DecidableEq, Repr

/-- The body of a response. A response other than OK carries none (R187). -/
inductive RespBody where
  | none
  | status (r : StatusReport)
  /-- CONFIG_READ: the group's bytes as the stored layout gives them, without fill (R192) -/
  | group (bytes : List Byte)
  /-- FETCH_NOTICE: the notice and the overrun flag as it stood before (R178) -/
  | notice (n : Notice) (overrun : Bool)
  /-- NOTICE_DONE: the level removed (R179) -/
  | level (n : Nat)
  | weight (r : WeightReport)
  | coupled (r : CoupledReading) (d0 d1 : DeckBrief)
  | raw (r : RawReport)
  | calibration (r : CalReport)
  | laneIo (r : LaneIoReport)
  /-- REG_FIND: the entry, and for a search by fleet reference the number of entries that match (R112) -/
  | vehicle (r : VehicleReport) (found : Option Nat)
  /-- REG_READ: entries, number of entries in the register, more flag (R113) -/
  | vehicles (rs : List VehicleReport) (total : Nat) (more : Bool)
  /-- READ_SITE: entries, number of entries, of RESERVED and of SUSPECT entries, more flag (R132) -/
  | site (rs : List SiteReport) (total reserved suspect : Nat) (more : Bool)
  /-- READ_TICKET of a site entry: the entry, its sections so far and the total net (R133) -/
  | ticket (e : SiteEntry) (sections : List TicketSection) (total : Int)
  /-- READ_JOURNAL, and READ_TICKET of a recently closed ticket (R156, R133) -/
  | journal (rs : List JournalReport)
  | totals (r : TotalsReport)
  deriving DecidableEq, Repr

/-- A response (11.2, R187): code and tag as received, result, CLAMPED flag, body. -/
structure Response where
  code : Byte
  tag : Byte
  result : Result
  clamped : Bool
  body : RespBody
  deriving DecidableEq, Repr

/-- The deferred marker: the code and tag of a request whose response is deferred (R189). -/
structure Marker where
  code : Byte
  tag : Byte
  deriving DecidableEq, Repr

/-- A station port (R186, R189): the bytes of the frame being collected (the empty list is HUNT), the deferred marker, the
response being sent, and the responses formed and not yet begun, oldest first. -/
structure Port where
  rx : List Byte
  marker : Option Marker
  sending : Option Response
  waiting : List Response
  deriving DecidableEq, Repr

/-- The line rate of the station ports (R186). -/
inductive LineRate where
  | r19200 | r38400 | r57600 | r115200
  deriving DecidableEq, Repr

/-! ### Start-up -/

/-- A journal position noted as valid at start-up (R158). -/
structure RingNote where
  seq : Nat
  ticket : Nat
  deriving DecidableEq, Repr

/-- What the start-up load keeps between its steps (R157 to R161), for recovery and for STARTUP_REPORT: what was defaulted
or rebuilt, whether the index/totals record read was good, the counts, the ring's valid positions, and the valid entry at
the position of next_seq with that seq, where there is one. -/
structure Startup where
  configDefaulted : Bool
  indexGood : Bool
  indexRebuilt : Bool
  vehiclesDropped : Nat
  openLoaded : Nat
  suspectLoaded : Nat
  siteDropped : Nat
  ring : List RingNote
  uncredited : Option JournalEntry
  deriving DecidableEq, Repr

/-! ### The whole part -/

/-- The EY-420, and the commands that wait to be taken, first in, first out. -/
structure State where
  rate : LineRate
  phase : Phase
  startup : Startup
  clock : Clock
  conditions : Conditions
  settings : Settings
  decks : PerDeck DeckUnit
  coupled : CoupledReading
  lanes : PerLane LaneUnit
  claims : PerDeck (List Lane)
  holders : PerDeck (Option Lane)
  attending : PerLane (Option Station)
  vehicles : List VehicleEntry
  site : SiteRegister
  index : IndexTotals
  tickets : TicketEngine
  journalLow : Bool
  store : StoreEngine
  notices : PerStation NoticeState
  ports : PerStation Port
  pending : List Instr
  deriving DecidableEq, Repr

/-- Why the machine stops with a fault. It has no constructor: no rule of the manual stops the part, every command and
event has an effect (an event that cannot take place in a state has none), so no meaning raises a fault. -/
inductive Fault where
  deriving DecidableEq, Repr

/-- Why a command has no meaning. -/
inductive Refusal where
  /-- The command of this mnemonic is not modelled. Raised by an arm of `exec` only; safe, since nothing can be proved of a
  next state. No arm raises it: every row of the table has its meaning. -/
  | notModelled (mnemonic : String)
  deriving DecidableEq, Repr

/-! ### Defaulted configuration and reset -/

/-- The dwell limits of the defaulted configuration (R64). -/
def DwellLimits.defaults : DwellLimits where
  admitting := 600
  entering := 60
  positioning := 120
  onDeck := 300
  weighing := 10
  leaving := 60
  retreating := 60
  clearing := 30

/-- A lane group of the defaulted configuration (R61). -/
def LaneSettings.defaults (deck : DeckSel) (direction : Direction) : LaneSettings where
  deck := deck
  direction := direction
  autoCapture := true
  tagAdmission := true
  storedTare := false
  defaultKind := .delivery
  debounce := 100
  travel := 6
  clear := 1
  dwell := DwellLimits.defaults
  openAtStart := false

/-- A disabled window with empty sets and access WATCH (R168). -/
def Window.disabled : Window where
  enabled := false
  scopes := 0
  classes := 0
  access := .watch

/-- The defaulted configuration (R22, R61, R135, R141, R151, R168, R174). -/
def Settings.defaults : Settings where
  lanes := {
    l0 := LaneSettings.defaults .d0 .inbound
    l1 := LaneSettings.defaults .d0 .outbound
    l2 := LaneSettings.defaults .d1 .inbound
    l3 := LaneSettings.defaults .d1 .outbound }
  windows := {
    s0 := { enabled := true, scopes := 0b11111, classes := 0b11111, access := .control } :: List.replicate 7 Window.disabled
    s1 := { enabled := true, scopes := 0b01111, classes := 0b00001, access := .control } :: List.replicate 7 Window.disabled
    s2 := List.replicate 8 Window.disabled }
  levels := [1, 1, 1, 2, 2, 2, 2, 3, 3, 3, 3, 3, 4, 4, 4, 5, 5, 5, 5, 5, 6, 6, 6, 7]
  caps := List.replicate 32 0
  rollSecond := 0
  verify := true
  sampleTimeout := { d0 := 250, d1 := 250 }

/-- A condition at yard reset (R183): inactive, latch clear, enable set. -/
def CondState.reset : CondState where
  active := false
  latched := false
  enable := true

/-- The condition monitor at yard reset (R183). -/
def Conditions.reset : Conditions where
  estop := CondState.reset
  mainsFail := CondState.reset
  sealAccess := CondState.reset
  storeFault := CondState.reset
  cellLink0 := CondState.reset
  cellLink1 := CondState.reset
  calBad0 := CondState.reset
  calBad1 := CondState.reset
  configDefaulted := CondState.reset
  recordsRebuilt := CondState.reset

/-- A calibration record of zeros: what a deck holds before the calibration area is loaded. DESIGN CHOICE (assumption 3),
unsafe; the manual gives no value and nothing reports it. -/
def CalRecord.blank : CalRecord where
  cellCount := 0
  zeros := List.replicate 8 0
  spans := List.replicate 8 0
  division := 0
  capacity := 0
  filterLength := 0
  motionBand := 0
  stabilityCount := 0
  zeroTracking := 0
  counter := 0
  checksum := 0

/-- A deck at yard reset (R1, R3, R6, R39). The deck state and the committed record before the calibration area is loaded,
and the reading's calibration counter before the first good sample, are DESIGN CHOICES (assumptions 3 and 4), unsafe. -/
def DeckUnit.reset : DeckUnit where
  link := { rx := [], discarded := 0, latest := none, timer := .notStarted }
  weight := {
    lastSeq := none
    filter := []
    stability := []
    refill := false
    zero := 0
    zeroLimit := false
    trackMs := none
    reading := {
      w := 0
      status := .stale
      stable := false
      centreZero := false
      wRaw := none
      wAvg := none
      wG := none
      calCounter := 0
      time := none } }
  cal := { state := .outOfService, preEdit := none, committed := CalRecord.blank, edit := none }

/-- The coupled reading at yard reset (R6). d_c, Max_c and the counters before it is first formed are DESIGN CHOICES
(assumption 4), unsafe. -/
def CoupledReading.reset : CoupledReading where
  w := 0
  status := .stale
  stable := false
  wG := none
  division := 0
  capacity := 0
  counter0 := 0
  counter1 := 0

/-- A barrier before it takes its first state: both outputs off (R59), timers stopped. Its state and levels before the
configuration area is loaded are DESIGN CHOICES (assumption 3), unsafe; nothing reports them. -/
def Barrier.reset : Barrier where
  state := .stopped
  cause := none
  lowerPending := false
  reversals := 0
  travel := none
  leaveLimit := false
  clearDelay := none
  upLimit := false
  downLimit := false
  beamBroken := false

/-- No passage marks (R89). -/
def Marks.clear : Marks where
  ebSeen := false
  leavingStep := 0
  alStage := 0
  reposition := false

/-- A lane at yard reset (R43, R44, R89, R90): CLOSED, nothing marked, held or armed. -/
def LaneUnit.reset : LaneUnit where
  state := .closed
  holdReason := none
  heldFrom := none
  dwell := none
  marks := Marks.clear
  lastRefused := none
  go := false
  armed := false
  capture := none
  al := false
  eb := false
  xb := false
  xl := false
  barrierA := Barrier.reset
  barrierX := Barrier.reset
  tagRx := { rx := [], discarded := 0, last := none }

/-- The index/totals working copy before it is loaded: zeros, the stored day index unknown. DESIGN CHOICE (assumption 3),
unsafe; GET_STATUS reports it absent. -/
def IndexTotals.blank : IndexTotals where
  nextSeq := 0
  archivedSeq := 0
  lastCredited := 0
  storedDay := none
  totals := List.replicate 32 { today := 0, previous := 0 }

/-- The record store engine at yard reset (R145, R147). -/
def StoreEngine.reset : StoreEngine where
  queue := []
  state := .idle
  current := none
  attemptOn := false
  verifying := false
  lastFailure := none
  serving := []
  waiting := []

/-- A station's notice state at yard reset (R181). -/
def NoticeState.reset : NoticeState where
  queue := []
  inProgress := []
  mask := []
  overrun := false

/-- A station port at yard reset (R189). -/
def Port.reset : Port where
  rx := []
  marker := none
  sending := none
  waiting := []

/-- Nothing loaded yet. -/
def Startup.reset : Startup where
  configDefaulted := false
  indexGood := false
  indexRebuilt := false
  vehiclesDropped := 0
  openLoaded := 0
  suspectLoaded := 0
  siteDropped := 0
  ring := []
  uncredited := none

/-- The part right after a yard reset (R6, R59, R70, R89, R145, R157, R181, R183, R189 and the rules cited above), with no
command waiting. The line rate is the one of open straps and the settings are the defaulted ones until the configuration
area is loaded: DESIGN CHOICES (assumptions 2 and 3), unsafe. -/
def State.reset : State where
  rate := .r19200
  phase := .loading .configuration
  startup := Startup.reset
  clock := { count := 0, set := false }
  conditions := Conditions.reset
  settings := Settings.defaults
  decks := { d0 := DeckUnit.reset, d1 := DeckUnit.reset }
  coupled := CoupledReading.reset
  lanes := { l0 := LaneUnit.reset, l1 := LaneUnit.reset, l2 := LaneUnit.reset, l3 := LaneUnit.reset }
  claims := { d0 := [], d1 := [] }
  holders := { d0 := none, d1 := none }
  attending := { l0 := none, l1 := none, l2 := none, l3 := none }
  vehicles := []
  site := { entries := [], nextOrdinal := 1 }
  index := IndexTotals.blank
  tickets := { counter := 0, capNotice := List.replicate 32 false, rollPending := false, recent := [] }
  journalLow := false
  store := StoreEngine.reset
  notices := { s0 := NoticeState.reset, s1 := NoticeState.reset, s2 := NoticeState.reset }
  ports := { s0 := Port.reset, s1 := Port.reset, s2 := Port.reset }
  pending := []

end Sys2Proof.Machine
end

