-- ==== Sys2Proof/Machine/Access.lean ====
section
/-! DEFINITION. Reading and writing the per-lane, per-deck, per-station and per-condition parts of the state. -/

namespace Sys2Proof

/-- The value of one lane. -/
def PerLane.get {α : Type} (p : PerLane α) : Lane → α
  | .l0 => p.l0
  | .l1 => p.l1
  | .l2 => p.l2
  | .l3 => p.l3

/-- `p` with the value of one lane replaced. -/
def PerLane.set {α : Type} (p : PerLane α) (l : Lane) (v : α) : PerLane α :=
  match l with
  | .l0 => { p with l0 := v }
  | .l1 => { p with l1 := v }
  | .l2 => { p with l2 := v }
  | .l3 => { p with l3 := v }

/-- `f` of every lane's value. -/
def PerLane.map {α β : Type} (f : α → β) (p : PerLane α) : PerLane β :=
  { l0 := f p.l0, l1 := f p.l1, l2 := f p.l2, l3 := f p.l3 }

/-- The value that `f` gives each lane. -/
def PerLane.ofFn {α : Type} (f : Lane → α) : PerLane α :=
  { l0 := f .l0, l1 := f .l1, l2 := f .l2, l3 := f .l3 }

/-- The value of one deck. -/
def PerDeck.get {α : Type} (p : PerDeck α) : Deck → α
  | .d0 => p.d0
  | .d1 => p.d1

/-- `p` with the value of one deck replaced. -/
def PerDeck.set {α : Type} (p : PerDeck α) (d : Deck) (v : α) : PerDeck α :=
  match d with
  | .d0 => { p with d0 := v }
  | .d1 => { p with d1 := v }

/-- `f` of both decks' values. -/
def PerDeck.map {α β : Type} (f : α → β) (p : PerDeck α) : PerDeck β :=
  { d0 := f p.d0, d1 := f p.d1 }

/-- The value of one station. -/
def PerStation.get {α : Type} (p : PerStation α) : Station → α
  | .s0 => p.s0
  | .s1 => p.s1
  | .s2 => p.s2

/-- `p` with the value of one station replaced. -/
def PerStation.set {α : Type} (p : PerStation α) (s : Station) (v : α) : PerStation α :=
  match s with
  | .s0 => { p with s0 := v }
  | .s1 => { p with s1 := v }
  | .s2 => { p with s2 := v }

/-- The value that `f` gives each station. -/
def PerStation.ofFn {α : Type} (f : Station → α) : PerStation α :=
  { s0 := f .s0, s1 := f .s1, s2 := f .s2 }

/-- The lanes, L0 first. -/
def Lane.all : List Lane := [.l0, .l1, .l2, .l3]

/-- The decks, D0 first. -/
def Deck.all : List Deck := [.d0, .d1]

/-- The stations, S0 first. -/
def Station.all : List Station := [.s0, .s1, .s2]

namespace Machine

/-- What the monitor holds of one condition. -/
def Conditions.get (c : Conditions) : Condition → CondState
  | .estop => c.estop
  | .mainsFail => c.mainsFail
  | .sealAccess => c.sealAccess
  | .storeFault => c.storeFault
  | .cellLink0 => c.cellLink0
  | .cellLink1 => c.cellLink1
  | .calBad0 => c.calBad0
  | .calBad1 => c.calBad1
  | .configDefaulted => c.configDefaulted
  | .recordsRebuilt => c.recordsRebuilt

/-- `c` with one condition replaced. -/
def Conditions.set (c : Conditions) (k : Condition) (v : CondState) : Conditions :=
  match k with
  | .estop => { c with estop := v }
  | .mainsFail => { c with mainsFail := v }
  | .sealAccess => { c with sealAccess := v }
  | .storeFault => { c with storeFault := v }
  | .cellLink0 => { c with cellLink0 := v }
  | .cellLink1 => { c with cellLink1 := v }
  | .calBad0 => { c with calBad0 := v }
  | .calBad1 => { c with calBad1 := v }
  | .configDefaulted => { c with configDefaulted := v }
  | .recordsRebuilt => { c with recordsRebuilt := v }

/-- One barrier of a lane. -/
def LaneUnit.barrier (l : LaneUnit) : BarrierId → Barrier
  | .a => l.barrierA
  | .x => l.barrierX

/-- `l` with one barrier replaced. -/
def LaneUnit.setBarrier (l : LaneUnit) (i : BarrierId) (b : Barrier) : LaneUnit :=
  match i with
  | .a => { l with barrierA := b }
  | .x => { l with barrierX := b }

/-- A lane's controller. -/
def State.lane (s : State) (l : Lane) : LaneUnit := s.lanes.get l

/-- `s` with a lane's controller replaced. -/
def State.setLane (s : State) (l : Lane) (v : LaneUnit) : State := { s with lanes := s.lanes.set l v }

/-- A lane's settings. -/
def State.laneSettings (s : State) (l : Lane) : LaneSettings := s.settings.lanes.get l

/-- A deck. -/
def State.deck (s : State) (d : Deck) : DeckUnit := s.decks.get d

/-- `s` with a deck replaced. -/
def State.setDeck (s : State) (d : Deck) (v : DeckUnit) : State := { s with decks := s.decks.set d v }

/-- A station port. -/
def State.port (s : State) (st : Station) : Port := s.ports.get st

/-- `s` with a station port replaced. -/
def State.setPort (s : State) (st : Station) (v : Port) : State := { s with ports := s.ports.set st v }

/-- A condition. -/
def State.condition (s : State) (k : Condition) : CondState := s.conditions.get k

/-- `s` with a condition replaced. -/
def State.setCondition (s : State) (k : Condition) (v : CondState) : State := { s with conditions := s.conditions.set k v }

/-- Whether the seal switch position is ACCESS: the position the condition monitor has taken (R24, R164). -/
def State.sealOpen (s : State) : Bool := s.conditions.sealAccess.active

/-- Whether condition ESTOP is active. -/
def State.estop (s : State) : Bool := s.conditions.estop.active

/-- The condition CELL_LINK_Dn of a deck. -/
def cellLinkCondition : Deck → Condition
  | .d0 => .cellLink0
  | .d1 => .cellLink1

/-- The condition CAL_BAD_Dn of a deck. -/
def calBadCondition : Deck → Condition
  | .d0 => .calBad0
  | .d1 => .calBad1

/-- How far start-up has come: 0 while the configuration area is the next to load, 8 at READY (R157). -/
def Phase.rank : Phase → Nat
  | .loading .configuration => 0
  | .loading .calibration => 1
  | .loading .vehicle => 2
  | .loading .site => 3
  | .loading .indexTotals => 4
  | .loading .journal => 5
  | .loading .counter => 6
  | .recovering => 7
  | .ready => 8

/-- Whether the configuration area has been loaded or defaulted: from then on there are debounced levels, barrier states
and routing (R42, R59, R157). -/
def State.configLoaded (s : State) : Bool := decide (1 ≤ s.phase.rank)

/-- Whether the calibration area has been loaded: from then on the cell link receivers and sample timers run (R6). -/
def State.calibrationLoaded (s : State) : Bool := decide (2 ≤ s.phase.rank)

end Machine

end Sys2Proof
end

