-- ==== Sys2Proof/Machine/Operands.lean ====
section
/-! DEFINITION. Operands: the numbering of every enumeration (R187, R188, and the stored layouts of R144), raw operands
turned into values or found outside their sets (R165 step 1), and the clamping of numeric configuration values (R192). -/

namespace Sys2Proof

/-! ### Numbers of the identities -/

/-- L0 to L3 as 0 to 3. -/
def Lane.toNat : Lane → Nat
  | .l0 => 0
  | .l1 => 1
  | .l2 => 2
  | .l3 => 3

/-- The lane of a number below 4. -/
def Lane.ofNat? : Nat → Option Lane
  | 0 => some .l0
  | 1 => some .l1
  | 2 => some .l2
  | 3 => some .l3
  | _ => none

/-- D0 and D1 as 0 and 1. -/
def Deck.toNat : Deck → Nat
  | .d0 => 0
  | .d1 => 1

/-- The deck of a number below 2. -/
def Deck.ofNat? : Nat → Option Deck
  | 0 => some .d0
  | 1 => some .d1
  | _ => none

/-- S0 to S2 as 0 to 2. -/
def Station.toNat : Station → Nat
  | .s0 => 0
  | .s1 => 1
  | .s2 => 2

/-- Barriers A 0 and X 1 (R188). -/
def BarrierId.toNat : BarrierId → Nat
  | .a => 0
  | .x => 1

/-- The barrier of a number below 2. -/
def BarrierId.ofNat? : Nat → Option BarrierId
  | 0 => some .a
  | 1 => some .x
  | _ => none

namespace Machine

/-! ### Numbers of the enumerations -/

/-- A scope's place in a scope set (R162, layout in R144): L0 to L3, then YARD. -/
def Scope.toNat : Scope → Nat
  | .lane l => l.toNat
  | .yard => 4

/-- A class's place in a class set: LANE, TICKET, REGISTER, DECK, YARD. -/
def Cls.toNat : Cls → Nat
  | .lane => 0
  | .ticket => 1
  | .register => 2
  | .deck => 3
  | .yard => 4

/-- 00H CONTROL, 01H WATCH, 02H NONE. -/
def Access.toNat : Access → Nat
  | .control => 0
  | .watch => 1
  | .none => 2

/-- The access of a number below 3. -/
def Access.ofNat? : Nat → Option Access
  | 0 => some .control
  | 1 => some .watch
  | 2 => some .none
  | _ => Option.none

/-- 00H DELIVERY, 01H COLLECTION. -/
def Kind.toNat : Kind → Nat
  | .delivery => 0
  | .collection => 1

/-- The kind of a number below 2. -/
def Kind.ofNat? : Nat → Option Kind
  | 0 => some .delivery
  | 1 => some .collection
  | _ => none

/-- 00H D0, 01H D1, 02H BOTH. -/
def DeckSel.toNat : DeckSel → Nat
  | .d0 => 0
  | .d1 => 1
  | .both => 2

/-- The deck selection of a number below 3. -/
def DeckSel.ofNat? : Nat → Option DeckSel
  | 0 => some .d0
  | 1 => some .d1
  | 2 => some .both
  | _ => none

/-- The decks a selection uses, D0 first. -/
def DeckSel.decks : DeckSel → List Deck
  | .d0 => [.d0]
  | .d1 => [.d1]
  | .both => [.d0, .d1]

/-- 00H INBOUND, 01H OUTBOUND. -/
def Direction.toNat : Direction → Nat
  | .inbound => 0
  | .outbound => 1

/-- The direction of a number below 2. -/
def Direction.ofNat? : Nat → Option Direction
  | 0 => some .inbound
  | 1 => some .outbound
  | _ => none

/-- 00H OFF or clear, 01H ON or set. -/
def flagNat (b : Bool) : Nat := if b then 1 else 0

/-- The option of a number below 2: 0 OFF, 1 ON. -/
def flagOfNat? : Nat → Option Bool
  | 0 => some false
  | 1 => some true
  | _ => none

/-- The conditions numbered in the order of R182. -/
def Condition.ofNat? : Nat → Option Condition
  | 0 => some .estop
  | 1 => some .mainsFail
  | 2 => some .sealAccess
  | 3 => some .storeFault
  | 4 => some .cellLink0
  | 5 => some .cellLink1
  | 6 => some .calBad0
  | 7 => some .calBad1
  | 8 => some .configDefaulted
  | 9 => some .recordsRebuilt
  | _ => none

/-- Whether a condition has a notice of its own, so that SET_CONDITION_ENABLE is taken for it (R185). -/
def Condition.hasNotice : Condition → Bool
  | .estop | .mainsFail | .sealAccess | .storeFault | .calBad0 | .calBad1 => true
  | .cellLink0 | .cellLink1 | .configDefaulted | .recordsRebuilt => false

/-- ON and OFF of SET_CONDITION_ENABLE (R185) as the stored layouts number them, 00H OFF and 01H ON (R187, R144): DEDUCED,
assumption 19. -/
def enableOfNat? (v : Nat) : Option Bool := flagOfNat? v

/-- COMMITTED and EDIT of READ_CAL, numbered in the order of R36; true is EDIT. -/
def copyOfNat? : Nat → Option Bool
  | 0 => some false
  | 1 => some true
  | _ => none

/-- The capture modes in the order of R90. -/
def CaptureMode.toNat : CaptureMode → Nat
  | .first => 0
  | .intermediate => 1
  | .final => 2

/-- The capture mode of a number below 3. -/
def CaptureMode.ofNat? : Nat → Option CaptureMode
  | 0 => some .first
  | 1 => some .intermediate
  | 2 => some .final
  | _ => none

/-- The origin of a capture: 0 for AUTO, 1 for S0, 2 for S1 and 3 for S2 (R188). -/
def originNat : Option Station → Nat
  | none => 0
  | some st => st.toNat + 1

/-- The reasons of a capture in the order of R106. -/
def CaptureReason.toNat : CaptureReason → Nat
  | .status => 0
  | .motion => 1
  | .position => 2
  | .belowMin => 3
  | .aboveMax => 4
  | .storeFault => 5
  | .storeBusy => 6
  | .held => 7
  | .sentBack => 8
  | .estop => 9

/-- The lane states in the order of R63. -/
def LaneState.toNat : LaneState → Nat
  | .closed => 0
  | .idle => 1
  | .admitting => 2
  | .entering => 3
  | .positioning => 4
  | .onDeck => 5
  | .weighing => 6
  | .leaving => 7
  | .retreating => 8
  | .clearing => 9
  | .hold => 10

/-- The hold reasons in the order of R63. -/
def HoldReason.toNat : HoldReason → Nat
  | .station => 0
  | .estop => 1
  | .barrierFault => 2
  | .obstructed => 3
  | .timeout => 4
  | .deckOut => 5
  | .startup => 6

/-- The barrier states in the order of R45. -/
def BarrierState.toNat : BarrierState → Nat
  | .down => 0
  | .rising => 1
  | .up => 2
  | .falling => 3
  | .stopped => 4
  | .fault => 5

/-- The barrier fault causes in the order of R45. -/
def FaultCause.toNat : FaultCause → Nat
  | .limitStuck => 0
  | .travel => 1
  | .limits => 2

/-- The weight statuses: VALID 00H to CELL_FAULT 04H (R187). -/
def WeightStatus.toNat : WeightStatus → Nat
  | .valid => 0
  | .over => 1
  | .under => 2
  | .stale => 3
  | .cellFault => 4

/-- The deck states in the order of R25. -/
def DeckState.toNat : DeckState → Nat
  | .inService => 0
  | .calEdit => 1
  | .outOfService => 2

/-- The areas in the order of R143. -/
def Area.toNat : Area → Nat
  | .configuration => 0
  | .calibration => 1
  | .counter => 2
  | .indexTotals => 3
  | .site => 4
  | .vehicle => 5
  | .journal => 6

/-- A ready timeout is 0, a compare failure 1 (R188). -/
def FailCause.toNat : FailCause → Nat
  | .readyTimeout => 0
  | .compareFailure => 1

/-- The engine states in the order of R147. -/
def EngineState.toNat : EngineState → Nat
  | .idle => 0
  | .writing => 1
  | .waitReady => 2
  | .fault => 3

/-- The start-up phases in the order of R157. -/
def Phase.toNat : Phase → Nat
  | .loading _ => 0
  | .recovering => 1
  | .ready => 2

/-- The site entry states in the order of R118. -/
def SiteState.toNat : SiteState → Nat
  | .reserved => 0
  | .opened => 1
  | .suspect => 2

/-- The tare states in the order of R108. -/
def TareState.toNat : TareState → Nat
  | .none => 0
  | .valid => 1
  | .expired => 2
  | .unset => 3

/-- 00H NORMAL, 01H STORED_TARE, 02H NET_NEGATIVE, 03H VOID. -/
def CloseCondition.toNat : CloseCondition → Nat
  | .normal => 0
  | .storedTare => 1
  | .netNegative => 2
  | .void => 3

/-- The close condition of a stored byte. The part writes 0 to 3; a good record with another byte is none of its own and
reads as VOID, which is not credited (DESIGN CHOICE, assumption 17). -/
def CloseCondition.ofCode : Nat → CloseCondition
  | 0 => .normal
  | 1 => .storedTare
  | 2 => .netNegative
  | _ => .void

/-- The source of a weighing as stored: 0 DECK0, 1 DECK1, 2 COUPLED, 3 STORED_TARE. -/
def WeighSource.toNat : WeighSource → Nat
  | .deck0 => 0
  | .deck1 => 1
  | .coupled => 2
  | .storedTare => 3
  | .unknown c => c

/-- The source of a stored code. -/
def WeighSource.ofCode : Nat → WeighSource
  | 0 => .deck0
  | 1 => .deck1
  | 2 => .coupled
  | 3 => .storedTare
  | c => .unknown c

/-- The notice kinds in the order of R174. -/
def NoticeKind.toNat : NoticeKind → Nat
  | .estopChange => 0
  | .storeFault => 1
  | .deckOut => 2
  | .mainsChange => 3
  | .laneHold => 4
  | .obstructed => 5
  | .barrierFault => 6
  | .admitRefused => 7
  | .captureFailed => 8
  | .permitCap => 9
  | .journalLow => 10
  | .deckStatus => 11
  | .zeroLimit => 12
  | .calCommitted => 13
  | .sealChange => 14
  | .captured => 15
  | .tagRead => 16
  | .ticketOpened => 17
  | .ticketClosed => 18
  | .ticketVoided => 19
  | .admitted => 20
  | .laneCleared => 21
  | .startupReport => 22
  | .dayRolled => 23

/-- The fixed class of each kind (R174). -/
def NoticeKind.cls : NoticeKind → Cls
  | .estopChange | .storeFault | .mainsChange | .sealChange | .startupReport | .dayRolled => .yard
  | .deckOut | .deckStatus | .zeroLimit | .calCommitted => .deck
  | .laneHold | .obstructed | .barrierFault | .admitRefused | .captureFailed | .captured | .tagRead | .admitted
  | .laneCleared => .lane
  | .permitCap | .journalLow | .ticketOpened | .ticketClosed | .ticketVoided => .ticket

/-- The value of each result code (R191). -/
def Result.toNat : Result → Nat
  | .ok => 0x00
  | .accepted => 0x01
  | .notPermitted => 0x02
  | .attended => 0x03
  | .wrongState => 0x04
  | .busy => 0x05
  | .notReady => 0x06
  | .range => 0x07
  | .notFound => 0x08
  | .duplicate => 0x09
  | .full => 0x0A
  | .sealClosed => 0x0B
  | .deckClaimed => 0x0C
  | .motion => 0x0D
  | .status => 0x0E
  | .storeBusy => 0x0F
  | .storeFault => 0x10
  | .clockUnset => 0x11
  | .noAdmit => 0x12
  | .permitCap => 0x13
  | .barred => 0x14
  | .notRegistered => 0x16
  | .noWasteCode => 0x17
  | .alreadyOnSite => 0x18
  | .bound => 0x19
  | .onSite => 0x1A
  | .journalFull => 0x1B
  | .counterExhausted => 0x1C
  | .stillActive => 0x1D
  | .lastControl => 0x1E
  | .frameError => 0x1F
  | .unknownRequest => 0x20

/-! ### Ranges -/

/-- Whether `lo ≤ v ≤ hi`. -/
def within (lo hi v : Nat) : Bool := decide (lo ≤ v) && decide (v ≤ hi)

/-- `v` taken at the nearer limit of `lo` to `hi` (R192). -/
def clampNat (lo hi v : Nat) : Nat := if v < lo then lo else if hi < v then hi else v

/-- Whether a waste code is 1 to 32. -/
def wasteOk (v : Nat) : Bool := within 1 32 v

/-- Whether an optional waste code, where given, is 1 to 32. -/
def wasteOptOk (v : Option Byte) : Bool := (v.map fun w => wasteOk w.toNat).getD true

/-- Whether a hazard declaration's code is 1 to 255 and its container count 0 to 99 (R66, R118, R131). -/
def hazardOk (h : Byte × Byte) : Bool := within 1 255 h.1.toNat && within 0 99 h.2.toNat

/-- A hazard declaration in range, as a value. -/
def hazardOf (h : Byte × Byte) : Hazard := { code := h.1.toNat, containers := h.2.toNat }

/-- A fleet reference of 0 to 12 characters, each 20H to 7EH (R107). -/
def fleetOk (v : List Byte) : Bool := decide (v.length ≤ 12) && v.all fun c => within 0x20 0x7E c.toNat

/-- A tare weight of 20 to 150,000 kg and a validity of 1 to 365 days (R107). -/
def tareOk (t : BitVec 32 × BitVec 16) : Bool :=
  decide (20 ≤ t.1.toInt) && decide (t.1.toInt ≤ 150000) && within 1 365 t.2.toNat

/-! ### Configuration values -/

/-- A lane group's bytes as settings, its numbers not yet clamped; `none` when an enumeration or option is outside its set
(R61, R192). The group has eight dwell limits. -/
def laneSettingsOf? (g : LaneGroup) : Option LaneSettings := do
  let deck ← DeckSel.ofNat? g.deck.toNat
  let direction ← Direction.ofNat? g.direction.toNat
  let autoCapture ← flagOfNat? g.autoCapture.toNat
  let tagAdmission ← flagOfNat? g.tagAdmission.toNat
  let storedTare ← flagOfNat? g.storedTare.toNat
  let defaultKind ← Kind.ofNat? g.defaultKind.toNat
  let openAtStart ← flagOfNat? g.openAtStart.toNat
  match g.dwell with
  | [d0, d1, d2, d3, d4, d5, d6, d7] =>
    some {
      deck := deck
      direction := direction
      autoCapture := autoCapture
      tagAdmission := tagAdmission
      storedTare := storedTare
      defaultKind := defaultKind
      debounce := g.debounce.toNat
      travel := g.travel.toNat
      clear := g.clear.toNat
      dwell := {
        admitting := d0.toNat
        entering := d1.toNat
        positioning := d2.toNat
        onDeck := d3.toNat
        weighing := d4.toNat
        leaving := d5.toNat
        retreating := d6.toNat
        clearing := d7.toNat }
      openAtStart := openAtStart }
  | _ => none

/-- Each numeric setting of a lane at the nearer limit of its range (R61, R64). -/
def LaneSettings.clamp (c : LaneSettings) : LaneSettings :=
  { c with
    debounce := clampNat 20 500 c.debounce
    travel := clampNat 1 15 c.travel
    clear := clampNat 0 5 c.clear
    dwell := {
      admitting := clampNat 1 3600 c.dwell.admitting
      entering := clampNat 1 600 c.dwell.entering
      positioning := clampNat 1 600 c.dwell.positioning
      onDeck := clampNat 1 3600 c.dwell.onDeck
      weighing := clampNat 1 30 c.dwell.weighing
      leaving := clampNat 1 600 c.dwell.leaving
      retreating := clampNat 1 600 c.dwell.retreating
      clearing := clampNat 1 600 c.dwell.clearing } }

/-- A window's bytes as a window; `none` when a field is outside its set (R162, R192: a set byte with any of bits 5 to 7 set
is outside its set). -/
def windowOf? (w : WindowBytes) : Option Window := do
  let enabled ← flagOfNat? w.enabled.toNat
  let access ← Access.ofNat? w.access.toNat
  if w.scopes.toNat < 32 && w.classes.toNat < 32 then
    some {
      enabled := enabled
      scopes := w.scopes.setWidth 5
      classes := w.classes.setWidth 5
      access := access }
  else none

/-- A window group: eight windows, each in its set (R162). -/
def windowsOf? (ws : List WindowBytes) : Option (List Window) :=
  if ws.length = 8 then ws.mapM windowOf? else none

/-- A notice level at the nearer limit of 1 to 7 (R175). -/
def clampLevel (v : Nat) : Nat := clampNat 1 7 v

/-- A roll second at the nearer limit of 0 to 86,399 (R141). -/
def clampRoll (v : Nat) : Nat := clampNat 0 86399 v

/-- A deck sample timeout at the nearer limit of 20 to 2,000 ms (R22). -/
def clampTimeout (v : Nat) : Nat := clampNat 20 2000 v

/-! ### Calibration values -/

/-- The permitted divisions (R23). -/
def divisionOk (v : Nat) : Bool := v == 5 || v == 10 || v == 20 || v == 50 || v == 100

/-- The permitted filter lengths (R23). -/
def filterOk (v : Nat) : Bool := v == 1 || v == 2 || v == 4 || v == 8 || v == 16

/-- Whether a CAL_WRITE pair names a field and a cell it has, and its value lies in the range of R23. -/
def CalPair.ok : CalPair → Bool
  | .cellCount v => within 1 8 v.toNat
  | .zeroOffset c _ => within 1 8 c.toNat
  | .span c v => within 1 8 c.toNat && within 1 16777215 v.toNat
  | .division v => divisionOk v.toNat
  | .capacity v => within 1000 150000 v.toNat
  | .filterLength v => filterOk v.toNat
  | .motionBand v => within 1 5 v.toNat
  | .stabilityCount v => within 2 32 v.toNat
  | .zeroTracking v => within 0 1 v.toNat
  | .unknownField _ => false

/-- Whether every field but the offsets and spans lies in its range (R23). -/
def CalRecord.scalarsOk (r : CalRecord) : Bool :=
  within 1 8 r.cellCount && divisionOk r.division && within 1000 150000 r.capacity && filterOk r.filterLength
    && within 1 5 r.motionBand && within 2 32 r.stabilityCount && within 0 1 r.zeroTracking && within 0 65535 r.counter

/-- Whether the offsets and spans of the first `n` cells lie in their ranges (R23). -/
def CalRecord.cellsOk (r : CalRecord) (n : Nat) : Bool :=
  (r.zeros.take n).all (fun z => decide (-8388608 ≤ z) && decide (z ≤ 8388607))
    && (r.spans.take n).all (fun k => within 1 16777215 k)

/-- The two cross-checks of R23: Max is a whole multiple of d, and Max / d is at most 10,000. -/
def CalRecord.crossOk (r : CalRecord) : Bool :=
  decide (0 < r.division) && decide (r.capacity % r.division = 0) && decide (r.capacity / r.division ≤ 10000)

/-- The checks of R28, 2: every field in its range, offsets and spans of cells 1 to n only. -/
def CalRecord.commitOk (r : CalRecord) : Bool := r.scalarsOk && r.cellsOk r.cellCount

/-- The range checks of R40: every field in its range, for all eight cells (assumption 18). -/
def CalRecord.loadOk (r : CalRecord) : Bool := r.scalarsOk && r.cellsOk 8

/-- The edit copy with one pair of CAL_WRITE written into it (R27). -/
def CalPair.write (p : CalPair) (r : CalRecord) : CalRecord :=
  match p with
  | .cellCount v => { r with cellCount := v.toNat }
  | .zeroOffset c v => { r with zeros := r.zeros.set (c.toNat - 1) v.toInt }
  | .span c v => { r with spans := r.spans.set (c.toNat - 1) v.toNat }
  | .division v => { r with division := v.toNat }
  | .capacity v => { r with capacity := v.toNat }
  | .filterLength v => { r with filterLength := v.toNat }
  | .motionBand v => { r with motionBand := v.toNat }
  | .stabilityCount v => { r with stabilityCount := v.toNat }
  | .zeroTracking v => { r with zeroTracking := v.toNat }
  | .unknownField _ => r

end Machine

end Sys2Proof
end

