-- ==== Sys2Proof/Machine/Records.lean ====
section
/-! DEFINITION. The record memory: the areas and addresses (R143) and the stored layouts (8.2, part of R144), written as
bytes and read back. -/

namespace Sys2Proof.Machine

/-! ### Calibration record -/

/-- Bytes 0 to 59 of a calibration record, the bytes its checksum covers. -/
def CalRecord.body (r : CalRecord) : List Byte :=
  natBytes 1 r.cellCount ++ (r.zeros.take 8).flatMap (intBytes 3) ++ (r.spans.take 8).flatMap (natBytes 3)
    ++ natBytes 1 r.division ++ natBytes 4 r.capacity ++ natBytes 1 r.filterLength ++ natBytes 1 r.motionBand
    ++ natBytes 1 r.stabilityCount ++ natBytes 1 r.zeroTracking ++ natBytes 2 r.counter

/-- The checksum recomputed over the record's fields in the stored layout (R23, R33). -/
def CalRecord.computedChecksum (r : CalRecord) : BitVec 16 := crc16 r.body

/-- The integrity check of R33. -/
def CalRecord.intact (r : CalRecord) : Bool := decide (r.computedChecksum = r.checksum)

/-- The 64 bytes of a calibration record. -/
def CalRecord.bytes (r : CalRecord) : List Byte :=
  r.body ++ natBytes 2 r.checksum.toNat ++ [0, 0]

/-- A calibration record as read, whatever its values. -/
def CalRecord.ofBytes (bs : List Byte) : CalRecord where
  cellCount := byteAt bs 0
  zeros := (List.range 8).map fun i => intAt bs (1 + 3 * i) 3
  spans := (List.range 8).map fun i => natAt bs (25 + 3 * i) 3
  division := byteAt bs 49
  capacity := natAt bs 50 4
  filterLength := byteAt bs 54
  motionBand := byteAt bs 55
  stabilityCount := byteAt bs 56
  zeroTracking := byteAt bs 57
  counter := natAt bs 58 2
  checksum := BitVec.ofNat 16 (natAt bs 60 2)

/-! ### Weighings -/

/-- The 13 bytes of a weighing. -/
def Weighing.bytes (w : Weighing) : List Byte :=
  natBytes 3 w.weight ++ natBytes 1 (w.source.toNat * 4 + w.lane.toNat) ++ natBytes 4 w.time ++ natBytes 2 w.counter0
    ++ natBytes 2 w.counter1 ++ natBytes 1 w.sectionCode

/-- The weighing at offset `i`. -/
def Weighing.at (bs : List Byte) (i : Nat) : Weighing where
  weight := natAt bs i 3
  source := WeighSource.ofCode (byteAt bs (i + 3) / 4)
  lane := (Lane.ofNat? (byteAt bs (i + 3) % 4)).getD .l0
  time := natAt bs (i + 4) 4
  counter0 := natAt bs (i + 8) 2
  counter1 := natAt bs (i + 10) 2
  sectionCode := byteAt bs (i + 12)

/-- Five weighings' bytes, those beyond the list as fill. -/
def weighingsBytes (ws : List Weighing) : List Byte :=
  padTo 65 ((ws.take 5).flatMap Weighing.bytes)

/-- The first `n` weighings from offset `i`; a count above five, which R121 substitutes in a site slot, is read as five in a
journal record too (assumption 17). -/
def weighingsAt (bs : List Byte) (i n : Nat) : List Weighing :=
  (List.range (min n 5)).map fun k => Weighing.at bs (i + 13 * k)

/-! ### Optional fields as stored -/

/-- A tag's 8 bytes, all zero for none. -/
def optTagBytes (t : Option Tag) : List Byte := tagBytes (t.getD 0)

/-- The tag at offset `i`, `none` when all zero. -/
def optTagAt (bs : List Byte) (i : Nat) : Option Tag :=
  if tagAt bs i = 0 then none else some (tagAt bs i)

/-- Hazard code and container count. Without a declaration the layout gives the code 00H (R144) and no container count, which is
written 00H (DESIGN CHOICE, assumption 49). -/
def hazardBytes (h : Option Hazard) : List Byte :=
  match h with
  | none => [0, 0]
  | some h => natBytes 1 h.code ++ natBytes 1 h.containers

/-- The declaration at offset `i`, `none` when the code is 00H. -/
def hazardAt (bs : List Byte) (i : Nat) : Option Hazard :=
  if byteAt bs i = 0 then none else some { code := byteAt bs i, containers := byteAt bs (i + 1) }

/-! ### Site slot, journal entry, vehicle slot -/

/-- The 96 bytes of a site slot: an entry, or the empty mark. -/
def siteSlotBytes (e : Option SiteEntry) : List Byte :=
  match e with
  | none => withCrc (List.replicate 94 0)
  | some e =>
    withCrc ([1] ++ natBytes 4 e.ticket ++ natBytes 1 e.kind.toNat ++ optTagBytes e.tag ++ natBytes 2 e.account
      ++ natBytes 1 e.waste ++ hazardBytes e.hazard ++ natBytes 4 e.ordinal ++ natBytes 1 e.weighings.length
      ++ weighingsBytes e.weighings ++ List.replicate 5 0)

/-- The 96 bytes of a journal entry. -/
def JournalEntry.bytes (e : JournalEntry) : List Byte :=
  withCrc (natBytes 4 e.seq ++ natBytes 4 e.ticket ++ natBytes 1 e.close.toNat ++ natBytes 1 e.voidReason
    ++ natBytes 1 e.kind.toNat ++ optTagBytes e.tag ++ natBytes 2 e.account ++ hazardBytes e.hazard
    ++ natBytes 4 e.closeTime ++ natBytes 1 e.weighings.length ++ weighingsBytes e.weighings) ++ [0]

/-- The journal entry of a record, whatever its check. What a byte gives that the part never writes (a close, kind or weighing count
outside its range) is the model's choice (assumption 17). -/
def JournalEntry.ofBytes (bs : List Byte) : JournalEntry where
  seq := natAt bs 0 4
  ticket := natAt bs 4 4
  close := CloseCondition.ofCode (byteAt bs 8)
  voidReason := byteAt bs 9
  kind := (Kind.ofNat? (byteAt bs 10)).getD .delivery
  tag := optTagAt bs 11
  account := natAt bs 19 2
  hazard := hazardAt bs 21
  closeTime := natAt bs 23 4
  weighings := weighingsAt bs 28 (byteAt bs 27)

/-- The journal ring has 4,096 positions (R143). -/
def ringSize : Nat := 4096

/-- The entry at a ring position when its record is valid: good, and its seq modulo 4,096 is the position (R144). -/
def validJournalAt (position : Nat) (bs : List Byte) : Option JournalEntry :=
  let e := JournalEntry.ofBytes bs
  if crcGood 93 bs && decide (e.seq % ringSize = position) then some e else none

/-- What a read of the position of `seq` gives READ_JOURNAL (R156). -/
def journalReport (seq : Nat) (bs : List Byte) : JournalReport :=
  match validJournalAt (seq % ringSize) bs with
  | some e => if e.seq = seq then .full e else .damaged seq
  | none => .damaged seq

/-- The 40 bytes of a vehicle slot: an entry, or the empty mark. Without a tare the layout gives the weight 0 (R144) and neither
time stamp nor validity, which are written 00H (DESIGN CHOICE, assumption 49). -/
def vehicleSlotBytes (e : Option VehicleData) : List Byte :=
  match e with
  | none => withCrc (List.replicate 38 0)
  | some v =>
    withCrc ([1] ++ tagBytes v.tag ++ natBytes 1 v.fleet.length ++ padTo 12 v.fleet ++ natBytes 2 v.account
      ++ natBytes 1 (v.waste.getD 0) ++ natBytes 1 v.kind.toNat ++ natBytes 1 (flagNat v.barred)
      ++ (match v.tare with
          | none => List.replicate 10 0
          | some t => natBytes 4 t.weight ++ natBytes 4 t.stamp ++ natBytes 2 t.validity)
      ++ [0])

/-! ### Counter and index/totals -/

/-- The 6 bytes of the counter record. -/
def counterBytes (n : Nat) : List Byte := withCrc (natBytes 4 n)

/-- The counter of a good record. -/
def counterOf? (bs : List Byte) : Option Nat :=
  if crcGood 4 bs then some (natAt bs 0 4) else none

/-- The 275 bytes of the index/totals record. While the stored day index is unknown the layout gives byte 12 as 00H (R144) and no
value for bytes 13 to 16, which are written 00H (DESIGN CHOICE, assumption 49). -/
def IndexTotals.bytes (t : IndexTotals) : List Byte :=
  withCrc (natBytes 4 t.nextSeq ++ natBytes 4 t.archivedSeq ++ natBytes 4 t.lastCredited
    ++ (match t.storedDay with
        | none => [0, 0, 0, 0, 0]
        | some d => [1] ++ intBytes 4 d)
    ++ (t.totals.take 32).flatMap fun d => natBytes 4 d.today ++ natBytes 4 d.previous)

/-- The index/totals record where it is good: its check matches, archived_seq does not exceed next_seq, and the
stored-day-index-known byte is 00H or 01H (R158). -/
def IndexTotals.ofBytes? (bs : List Byte) : Option IndexTotals :=
  if crcGood 273 bs && decide (natAt bs 4 4 ≤ natAt bs 0 4) && within 0 1 (byteAt bs 12) then
    some {
      nextSeq := natAt bs 0 4
      archivedSeq := natAt bs 4 4
      lastCredited := natAt bs 8 4
      storedDay := if byteAt bs 12 = 1 then some (intAt bs 13 4) else none
      totals := (List.range 32).map fun i => { today := natAt bs (17 + 8 * i) 4, previous := natAt bs (21 + 8 * i) 4 } }
  else none

/-! ### Configuration -/

/-- Bytes 0 to 26 of a lane group. -/
def LaneSettings.groupBytes (c : LaneSettings) : List Byte :=
  natBytes 1 c.deck.toNat ++ natBytes 1 c.direction.toNat ++ natBytes 1 (flagNat c.autoCapture)
    ++ natBytes 1 (flagNat c.tagAdmission) ++ natBytes 1 (flagNat c.storedTare) ++ natBytes 1 c.defaultKind.toNat
    ++ natBytes 2 c.debounce ++ natBytes 1 c.travel ++ natBytes 1 c.clear
    ++ natBytes 2 c.dwell.admitting ++ natBytes 2 c.dwell.entering ++ natBytes 2 c.dwell.positioning
    ++ natBytes 2 c.dwell.onDeck ++ natBytes 2 c.dwell.weighing ++ natBytes 2 c.dwell.leaving
    ++ natBytes 2 c.dwell.retreating ++ natBytes 2 c.dwell.clearing ++ natBytes 1 (flagNat c.openAtStart)

/-- The lane group of 27 bytes at offset `i`, as CONFIG_WRITE carries it. -/
def laneGroupAt (bs : List Byte) (i : Nat) : LaneGroup where
  deck := bs.getD i 0
  direction := bs.getD (i + 1) 0
  autoCapture := bs.getD (i + 2) 0
  tagAdmission := bs.getD (i + 3) 0
  storedTare := bs.getD (i + 4) 0
  defaultKind := bs.getD (i + 5) 0
  debounce := BitVec.ofNat 16 (natAt bs (i + 6) 2)
  travel := bs.getD (i + 8) 0
  clear := bs.getD (i + 9) 0
  dwell := (List.range 8).map fun k => BitVec.ofNat 16 (natAt bs (i + 10 + 2 * k) 2)
  openAtStart := bs.getD (i + 26) 0

/-- The four bytes of a window. -/
def Window.bytes (w : Window) : List Byte :=
  natBytes 1 (flagNat w.enabled) ++ natBytes 1 w.scopes.toNat ++ natBytes 1 w.classes.toNat ++ natBytes 1 w.access.toNat

/-- The eight windows of four bytes from offset `i`. -/
def windowGroupAt (bs : List Byte) (i : Nat) : List WindowBytes :=
  (List.range 8).map fun k =>
    { enabled := bs.getD (i + 4 * k) 0
      scopes := bs.getD (i + 4 * k + 1) 0
      classes := bs.getD (i + 4 * k + 2) 0
      access := bs.getD (i + 4 * k + 3) 0 }

/-- The bytes of the notice levels group. -/
def Settings.levelBytes (c : Settings) : List Byte := c.levels.flatMap (natBytes 1)

/-- The bytes of the waste caps group. -/
def Settings.capBytes (c : Settings) : List Byte := c.caps.flatMap (natBytes 4)

/-- The 512 bytes of the configuration record. -/
def Settings.bytes (c : Settings) : List Byte :=
  withCrc (padTo 510 (
    padTo 32 c.lanes.l0.groupBytes ++ padTo 32 c.lanes.l1.groupBytes ++ padTo 32 c.lanes.l2.groupBytes
      ++ padTo 32 c.lanes.l3.groupBytes
      ++ padTo 32 (c.windows.s0.flatMap Window.bytes) ++ padTo 32 (c.windows.s1.flatMap Window.bytes)
      ++ padTo 32 (c.windows.s2.flatMap Window.bytes)
      ++ padTo 24 c.levelBytes ++ padTo 128 c.capBytes
      ++ natBytes 4 c.rollSecond ++ natBytes 1 (flagNat c.verify)
      ++ natBytes 2 c.sampleTimeout.d0 ++ natBytes 2 c.sampleTimeout.d1))

/-- A lane group as loaded: every enumeration in its set and every number in its range (R158). -/
def loadLaneGroup? (g : LaneGroup) : Option LaneSettings :=
  match laneSettingsOf? g with
  | some c => if c.clamp = c then some c else none
  | none => none

/-- The access that a station's windows give to a pair of scope and class, by steps 2 and 3 of R163. -/
def windowAccess (ws : List Window) (scope : Scope) (cls : Cls) : Access :=
  match ws.find? fun w => w.enabled && w.scopes.getLsbD scope.toNat && w.classes.getLsbD cls.toNat with
  | some w => w.access
  | none => .watch

/-- Whether some station's windows give CONTROL over (YARD, YARD) (R167, R168). -/
def someYardControl (ws : PerStation (List Window)) : Bool :=
  Station.all.any fun st => decide (windowAccess (ws.get st) .yard .yard = .control)

/-- The settings of a good configuration record: its check matches, every value lies in its range or set, and some station's
windows give CONTROL over (YARD, YARD) (R158, R168). -/
def Settings.ofBytes? (bs : List Byte) : Option Settings := do
  let l0 ← loadLaneGroup? (laneGroupAt bs 0)
  let l1 ← loadLaneGroup? (laneGroupAt bs 32)
  let l2 ← loadLaneGroup? (laneGroupAt bs 64)
  let l3 ← loadLaneGroup? (laneGroupAt bs 96)
  let w0 ← windowsOf? (windowGroupAt bs 128)
  let w1 ← windowsOf? (windowGroupAt bs 160)
  let w2 ← windowsOf? (windowGroupAt bs 192)
  let verify ← flagOfNat? (byteAt bs 380)
  let c : Settings := {
    lanes := { l0 := l0, l1 := l1, l2 := l2, l3 := l3 }
    windows := { s0 := w0, s1 := w1, s2 := w2 }
    levels := (List.range 24).map fun i => byteAt bs (224 + i)
    caps := (List.range 32).map fun i => natAt bs (248 + 4 * i) 4
    rollSecond := natAt bs 376 4
    verify := verify
    sampleTimeout := { d0 := natAt bs 381 2, d1 := natAt bs 383 2 } }
  if crcGood 510 bs && c.levels.all (within 1 7) && decide (c.rollSecond ≤ 86399) && within 20 2000 c.sampleTimeout.d0
      && within 20 2000 c.sampleTimeout.d1 && someYardControl c.windows
  then some c else none

/-! ### Extents -/

/-- The area an extent lies in (R143). -/
def Record.area : Record → Area
  | .configuration _ => .configuration
  | .calibration _ _ => .calibration
  | .counter _ => .counter
  | .indexTotals _ => .indexTotals
  | .siteSlot _ _ => .site
  | .vehicleSlot _ _ => .vehicle
  | .journal _ => .journal

/-- The address an extent is written to (R143). -/
def Record.address : Record → Nat
  | .configuration _ => 0x000000
  | .calibration d _ => 0x000200 + 64 * d.toNat
  | .counter _ => 0x000280
  | .indexTotals _ => 0x000300
  | .siteSlot i _ => 0x000800 + 96 * i
  | .vehicleSlot i _ => 0x002000 + 40 * i
  | .journal e => 0x020000 + 96 * (e.seq % ringSize)

/-- The bytes an extent writes, CRC included (R145). -/
def Record.bytes : Record → List Byte
  | .configuration c => c.bytes
  | .calibration _ r => r.bytes
  | .counter n => counterBytes n
  | .indexTotals t => t.bytes
  | .siteSlot _ e => siteSlotBytes e
  | .vehicleSlot _ e => vehicleSlotBytes e
  | .journal e => e.bytes

/-- The address a journal read of `seq` reads 96 bytes from (R152). -/
def journalAddress (seq : Nat) : Nat := 0x020000 + 96 * (seq % ringSize)

end Sys2Proof.Machine
end

