-- ==== Sys2Proof/Machine/Flags.lean ====
section
/-! DEFINITION. Flags and output pins that follow the state: barrier outputs, lamps, attention lines, free slots of the
write queue, the free journal capacity, the day index, the validity of a tare. -/

namespace Sys2Proof.Machine

/-! ### Barrier outputs and lamps -/

/-- The raise output: on in RISING alone (R45). -/
def Barrier.raiseOut (b : Barrier) : Bool := decide (b.state = .rising)

/-- The lower output: on in FALLING alone (R45). -/
def Barrier.lowerOut (b : Barrier) : Bool := decide (b.state = .falling)

/-- Whether the safety beam is settled: clear, and the clear-delay timer stopped (R48). -/
def Barrier.settled (b : Barrier) : Bool := !b.beamBroken && b.clearDelay.isNone

/-- The green lamp: on in ENTERING or POSITIONING with go set (R58). -/
def LaneUnit.green (l : LaneUnit) : Bool :=
  (decide (l.state = .entering) || decide (l.state = .positioning)) && l.go

/-- The red lamp: on in every state but CLOSED, where both are off, and where green is on (R58). -/
def LaneUnit.red (l : LaneUnit) : Bool := decide (l.state ≠ .closed) && !l.green

/-! ### Attention -/

/-- A station's attention line (R180): some queued notice has an unmasked level smaller than every level in progress, and
start-up is READY. -/
def NoticeState.calls (n : NoticeState) : Bool :=
  n.queue.any fun q => !n.mask.contains q.level && n.inProgress.all fun p => decide (q.level < p)

/-- The attention output of a station port. -/
def State.attention (s : State) (st : Station) : Bool :=
  decide (s.phase = .ready) && (s.notices.get st).calls

/-! ### Write queue and journal capacity -/

/-- How many of the 16 ordinary slots are filled (R145). -/
def StoreEngine.ordinaryFilled (e : StoreEngine) : Nat := (e.queue.filter fun i => !i.reserved).length

/-- Whether the reserved slot is filled. -/
def StoreEngine.reservedFilled (e : StoreEngine) : Bool := e.queue.any fun i => i.reserved

/-- Whether an ordinary slot is free (R146). -/
def State.slotFree (s : State) : Bool := decide (s.store.ordinaryFilled < 16)

/-- The free journal capacity: 4,096 − (next_seq − archived_seq) − number of site entries (R153). -/
def State.freeCapacity (s : State) : Int :=
  (ringSize : Int) - ((s.index.nextSeq : Int) - s.index.archivedSeq) - s.site.entries.length

/-- The readable range of the journal (R153): from next_seq − 4,096, or 0, up to next_seq − 1. -/
def State.readable (s : State) (seq : Nat) : Bool :=
  decide (s.index.nextSeq - ringSize ≤ seq) && decide (seq < s.index.nextSeq)

/-! ### The clock -/

/-- The day index: the floor of (count − R) / 86,400 (R141). -/
def dayIndex (count rollSecond : Nat) : Int := ((count : Int) - rollSecond) / 86400

/-- The current day index. -/
def State.currentDay (s : State) : Int := dayIndex s.clock.count s.settings.rollSecond

/-- The expiry of a tare, formed exactly (R108). -/
def Tare.expiry (t : Tare) : Nat := t.stamp + t.validity * 86400

/-- Whether a tare is valid at a clock count (R108). -/
def Tare.validAt (t : Tare) (count : Nat) : Bool := decide (count < t.expiry)

/-- How a tare is reported (R108). -/
def tareState (clock : Clock) : Option Tare → TareState
  | none => .none
  | some t => if clock.set then (if t.validAt clock.count then .valid else .expired) else .unset

/-! ### Registers -/

/-- The vehicle entry that holds a tag (R107). -/
def State.vehicle? (s : State) (t : Tag) : Option VehicleEntry := s.vehicles.find? fun v => decide (v.data.tag = t)

/-- The site entry that holds a tag, in any state (R118). -/
def State.siteByTag? (s : State) (t : Tag) : Option SiteEntry := s.site.entries.find? fun e => decide (e.tag = some t)

/-- The OPEN or SUSPECT entry that holds a ticket number (R130). -/
def State.siteByTicket? (s : State) (n : Nat) : Option SiteEntry :=
  s.site.entries.find? fun e => decide (e.state ≠ .reserved) && decide (e.ticket = n)

/-- The site entry bound to a lane: the lane's binding (R63). -/
def State.boundEntry? (s : State) (l : Lane) : Option SiteEntry :=
  s.site.entries.find? fun e => decide (e.boundLane = some l)

/-! ### Claims -/

/-- Whether a lane has a claim in the queues (R63). -/
def State.hasClaim (s : State) (l : Lane) : Bool := s.claims.d0.contains l || s.claims.d1.contains l

/-- Whether a lane is holder of a deck (R63). -/
def State.isHolder (s : State) (l : Lane) : Bool :=
  decide (s.holders.d0 = some l) || decide (s.holders.d1 = some l)

/-! ### The reading a lane watches -/

/-- The reading that a lane's deck setting selects (R61): displayed weight, status, stable, division and capacity. -/
structure LaneReading where
  w : Int
  status : WeightStatus
  stable : Bool
  division : Nat
  capacity : Nat
  deriving DecidableEq, Repr

/-- A single deck's reading for a lane (R61). -/
def DeckUnit.laneReading (d : DeckUnit) : LaneReading where
  w := d.weight.reading.w
  status := d.weight.reading.status
  stable := d.weight.reading.stable
  division := d.cal.committed.division
  capacity := d.cal.committed.capacity

/-- The coupled reading for a tandem lane (R61). -/
def CoupledReading.laneReading (c : CoupledReading) : LaneReading where
  w := c.w
  status := c.status
  stable := c.stable
  division := c.division
  capacity := c.capacity

/-- The reading a lane watches. -/
def State.laneReading (s : State) (l : Lane) : LaneReading :=
  match (s.laneSettings l).deck with
  | .d0 => s.decks.d0.laneReading
  | .d1 => s.decks.d1.laneReading
  | .both => s.coupled.laneReading

/-- Whether a reading shows a vehicle: W ≥ 20 d. -/
def LaneReading.loaded (r : LaneReading) : Bool := decide (20 * (r.division : Int) ≤ r.w)

end Sys2Proof.Machine
end

