-- ==== Sys2Proof/Machine/Ops.lean ====
section
/-! DEFINITION. The operations that commands share: decisions of authority, raising a notice, forming a response, taking a
request, conditions, joining the write queue, the journal-low comparison, the claim queues and the site register. -/

namespace Sys2Proof.Machine

/-! ### Authority -/

/-- The decision for a station and a pair of scope and class (R163, with the seal override of R164). -/
def State.decision (s : State) (st : Station) (scope : Scope) (cls : Cls) : Access :=
  if scope = .yard ∧ cls = .yard ∧ s.sealOpen = true then .control
  else windowAccess (s.settings.windows.get st) scope cls

/-- The scope of a matter of a lane, YARD where there is none. -/
def scopeOf (l : Option Lane) : Scope :=
  match l with
  | some l => .lane l
  | none => .yard

/-! ### Notices -/

/-- The largest level number in a queue: the lowest priority present. -/
def lowestPriority (q : List Notice) : Nat := q.foldl (fun m n => max m n.level) 0

/-- A notice arrives at a station's queue (R177). -/
def NoticeState.join (ns : NoticeState) (n : Notice) : NoticeState :=
  if ns.queue.length < 32 then { ns with queue := ns.queue ++ [n] }
  else if n.level < lowestPriority ns.queue then
    { ns with
      queue := ns.queue.eraseP (fun q => decide (q.level = lowestPriority ns.queue)) ++ [n]
      overrun := true }
  else { ns with overrun := true }

/-- Queue a notice to each station whose decision for its scope and class is CONTROL or WATCH (R166, R176). -/
def State.route (s : State) (scope : Scope) (n : Notice) : State :=
  { s with
    notices := PerStation.ofFn fun st =>
      if s.decision st scope n.kind.cls = .none then s.notices.get st else (s.notices.get st).join n }

/-- Raise a notice (R173): its level is the one the working configuration gives its kind now, its time the clock count. Its
scope is its lane, or YARD for a kind that carries none (R174). -/
def State.raiseNotice (s : State) (kind : NoticeKind) (lane : Option Lane) (deck : Option Deck) (ticket detail : Nat)
    (values : List Int) : State :=
  s.route (scopeOf lane) {
    kind := kind
    level := s.settings.levels.getD kind.toNat 7
    lane := lane
    deck := deck
    ticket := ticket
    detail := detail
    values := values
    time := s.clock.count }

/-! ### Responses -/

/-- A response is formed: it begins to be sent, or follows the ones formed before it (R189). -/
def Port.form (p : Port) (r : Response) : Port :=
  match p.sending with
  | none => { p with sending := some r }
  | some _ => { p with waiting := p.waiting ++ [r] }

/-- Form a response on a station's port. -/
def State.respond (s : State) (st : Station) (r : Response) : State := s.setPort st ((s.port st).form r)

/-- What the block that owns a request answers when it takes it: a response now, or a deferred one (R189 step 5). -/
inductive Answer where
  | reply (result : Result) (clamped : Bool) (body : RespBody)
  | deferred
  deriving DecidableEq, Repr

/-- A result without a body. -/
def Answer.plain (r : Result) : Answer := .reply r false .none

/-- OK with a body. -/
def Answer.okBody (b : RespBody) : Answer := .reply .ok false b

/-- A block's taking of a request: the state it leaves and its answer. -/
abbrev Handler := State → State × Answer

/-- Refuse a request: nothing changes (R191). -/
def refuse (r : Result) : Handler := fun s => (s, .plain r)

/-- Set the deferred marker of a port (R189). -/
def State.setMarker (s : State) (st : Station) (m : Option Marker) : State :=
  s.setPort st { s.port st with marker := m }

/-- Whether a port has four formed responses that have not begun: a frame received then is discarded (R189). -/
def Port.full (p : Port) : Bool := decide (4 ≤ p.waiting.length)

/-- The end of a station frame: the receiver returns to HUNT (R186). -/
def State.endFrame (s : State) (st : Station) : State := s.setPort st { s.port st with rx := [] }

/-- A request arrival (R189, and R165 step 1 for a malformed body): BUSY behind a deferred response, NOT_READY before READY
but for GET_STATUS, RANGE for a body that does not hold its fields, and otherwise the block that owns the request takes
it. -/
def State.takeRequest (s0 : State) (r : Req) (code : Byte) (anyPhase : Bool) (handler : Handler) : State :=
  let s := s0.endFrame r.station
  if (s.port r.station).full then s
  else if (s.port r.station).marker.isSome then s.respond r.station ⟨code, r.tag, .busy, false, .none⟩
  else if s.phase ≠ .ready ∧ anyPhase = false then s.respond r.station ⟨code, r.tag, .notReady, false, .none⟩
  else if r.bodyOk = false then s.respond r.station ⟨code, r.tag, .range, false, .none⟩
  else
    match handler s with
    | (s', .reply result clamped body) => s'.respond r.station ⟨code, r.tag, result, clamped, body⟩
    | (s', .deferred) => s'.setMarker r.station (some ⟨code, r.tag⟩)

/-- Whether a lane is attended by a station other than `st` (R170). -/
def State.attendedByOther (s : State) (st : Station) (scope : Scope) : Bool :=
  match scope with
  | .lane l => (s.attending.get l).any fun a => decide (a ≠ st)
  | .yard => false

/-- A request that needs CONTROL (R165 steps 2 and 3): NOT_PERMITTED unless the decision is CONTROL, then ATTENDED for a
class LANE or TICKET request on a lane that another station attends (R170). -/
def needControl (st : Station) (scope : Scope) (cls : Cls) (k : Handler) : Handler := fun s =>
  if s.decision st scope cls ≠ .control then (s, .plain .notPermitted)
  else if (cls = .lane ∨ cls = .ticket) ∧ s.attendedByOther st scope = true then (s, .plain .attended)
  else k s

/-- A request that needs WATCH (R165 step 2): NOT_PERMITTED when the decision is NONE. -/
def needWatch (st : Station) (scope : Scope) (cls : Cls) (k : Handler) : Handler := fun s =>
  if s.decision st scope cls = .none then (s, .plain .notPermitted) else k s

/-- A request whose lane operand must name a lane (R165 step 1). -/
def withLane (b : Byte) (k : Lane → Handler) : Handler :=
  match Lane.ofNat? b.toNat with
  | some l => k l
  | none => refuse .range

/-- A request whose deck operand must name a deck. -/
def withDeck (b : Byte) (k : Deck → Handler) : Handler :=
  match Deck.ofNat? b.toNat with
  | some d => k d
  | none => refuse .range

/-- A value that must lie in its set or range (R165 step 1). -/
def inRange (ok : Bool) (k : Handler) : Handler := if ok then k else refuse .range

/-- A request that is refused while no ordinary write queue slot is free (R146). -/
def needSlot (k : Handler) : Handler := fun s => if s.slotFree then k s else (s, .plain .storeBusy)

/-! ### Conditions -/

/-- A condition becomes active: every activation sets the latch (R182). -/
def State.activate (s : State) (k : Condition) : State :=
  s.setCondition k { s.condition k with active := true, latched := (s.condition k).latched || !(s.condition k).active }

/-- A condition becomes inactive; its latch stays (R182). -/
def State.deactivate (s : State) (k : Condition) : State := s.setCondition k { s.condition k with active := false }

/-- A condition that is active only at the instant it is raised: its latch is set (R182). -/
def State.latch (s : State) (k : Condition) : State := s.setCondition k { s.condition k with latched := true }

/-! ### Write queue -/

/-- The engine enters WRITING when the memory port is free, and waits in the state it has while reads are being served (R147,
R150, R152). -/
def StoreEngine.enterWriting (e : StoreEngine) : StoreEngine :=
  if e.serving.isEmpty then { e with state := .writing } else e

/-- An item joins the queue; where the queue was empty and the engine IDLE, its first extent becomes current and the engine
enters WRITING as soon as the memory port is free (R147). -/
def StoreEngine.join (e : StoreEngine) (i : WriteItem) : StoreEngine :=
  if e.state = .idle ∧ e.queue = [] then
    { e with queue := [i], current := some { index := 0, attempt := 1 } }.enterWriting
  else { e with queue := e.queue ++ [i] }

/-- Queue an item of these extents in an ordinary slot (R146). -/
def State.enqueue (s : State) (extents : List Record) : State :=
  { s with store := s.store.join { extents := extents, reserved := false } }

/-- Queue the configuration record as it now stands. -/
def State.enqueueSettings (s : State) : State := s.enqueue [.configuration s.settings]

/-- Queue a day-roll item (R142): in the reserved slot when it is free, else in an ordinary slot, else the
roll-write-pending flag is set and the item is queued at the next freeing. A roll taken while the flag is set is served by
the one item that waits. -/
def State.enqueueRoll (s : State) : State :=
  if s.tickets.rollPending then s
  else if s.store.reservedFilled = false then
    { s with store := s.store.join { extents := [.indexTotals s.index], reserved := true } }
  else if s.slotFree then s.enqueue [.indexTotals s.index]
  else { s with tickets := { s.tickets with rollPending := true } }

/-! ### Journal low -/

/-- The comparison of R155, at each change of next_seq, archived_seq or the number of site entries. -/
def State.journalLowCheck (s : State) : State :=
  if s.freeCapacity ≤ 256 then
    if s.journalLow then s
    else { s with journalLow := true }.raiseNotice .journalLow none none 0 0 [s.freeCapacity]
  else { s with journalLow := false }

/-! ### Site register -/

/-- Replace a site entry, found by its slot. -/
def State.updateSite (s : State) (slot : Nat) (f : SiteEntry → SiteEntry) : State :=
  { s with site := { s.site with entries := s.site.entries.map fun e => if e.slot = slot then f e else e } }

/-- Release an entry: it leaves the register, its slot is free and its binding ends (R120). -/
def State.releaseSite (s : State) (slot : Nat) : State :=
  { s with site := { s.site with entries := s.site.entries.filter fun e => decide (e.slot ≠ slot) } }

/-- End a lane's binding (R79, R85, R86): the entry stays as it stands. -/
def State.unbind (s : State) (l : Lane) : State :=
  { s with
    site := { s.site with
      entries := s.site.entries.map fun e => if e.boundLane = some l then { e with boundLane := none } else e } }

/-- Let go of the entry a lane is bound to: a RESERVED entry is released, another is unbound (R85, R86). -/
def State.dropBinding (s : State) (l : Lane) : State :=
  match s.boundEntry? l with
  | none => s
  | some e => if e.state = .reserved then (s.releaseSite e.slot).journalLowCheck else s.unbind l

/-- Insert an entry in admission order: by ordinal, and among equal ordinals by slot number (R119). -/
def insertSite (e : SiteEntry) : List SiteEntry → List SiteEntry
  | [] => [e]
  | x :: xs =>
    if e.ordinal < x.ordinal ∨ (e.ordinal = x.ordinal ∧ e.slot < x.slot) then e :: x :: xs else x :: insertSite e xs

/-- The lowest-numbered slot below `n` that no slot number of `used` names. -/
def lowestFree (n : Nat) (used : List Nat) : Option Nat := (List.range n).find? fun i => !used.contains i

/-- How many entries are RESERVED. -/
def SiteRegister.reserved (r : SiteRegister) : Nat := (r.entries.filter fun e => decide (e.state = .reserved)).length

/-! ### Claim queues -/

/-- A lane's claim joins the tail of the queue of each deck of its setting (R71). -/
def State.joinClaim (s : State) (l : Lane) : State :=
  match (s.laneSettings l).deck with
  | .d0 => { s with claims := { s.claims with d0 := s.claims.d0 ++ [l] } }
  | .d1 => { s with claims := { s.claims with d1 := s.claims.d1 ++ [l] } }
  | .both => { s with claims := { d0 := s.claims.d0 ++ [l], d1 := s.claims.d1 ++ [l] } }

/-- A lane's claim leaves its queue or queues; the claims behind it move up in order (R75). -/
def State.leaveClaim (s : State) (l : Lane) : State :=
  { s with claims := s.claims.map fun q => q.filter fun m => decide (m ≠ l) }

/-- A holder releases its deck or decks (R75). -/
def State.releaseDecks (s : State) (l : Lane) : State :=
  { s with holders := s.holders.map fun h => if h = some l then none else h }

end Sys2Proof.Machine
end

