-- ==== Sys2Proof/Machine/Barrier.lean ====
section
/-! DEFINITION. The barrier controller (03_lane_sensors_barriers_and_lights.md, 3.3 and 3.4) as functions of one barrier.
Each answers the barrier and what it reports: that it entered FALLING (the light, R58), a third safety reversal (R53), a
new fault (R52), or a request refused because it is in FAULT (R46, R47). The lane controller acts on the report in
Sys2Proof/Machine/Lane.lean. -/

namespace Sys2Proof.Machine

/-- What a barrier controller answers to a request or an event. -/
structure BarrierStep where
  barrier : Barrier
  fell : Bool
  obstructed : Bool
  fault : Option FaultCause
  refused : Bool
  deriving DecidableEq, Repr

/-- The timings of a barrier that start with a movement or a beam: its lane's travel timeout and clear delay in s (R48,
R51). -/
structure BarrierTimes where
  travel : Nat
  clear : Nat
  deriving DecidableEq, Repr

/-- A lane's barrier timings as its settings hold them. -/
def LaneSettings.times (c : LaneSettings) : BarrierTimes := { travel := c.travel, clear := c.clear }

/-- A barrier with nothing to report. -/
def Barrier.quiet (b : Barrier) : BarrierStep :=
  { barrier := b, fell := false, obstructed := false, fault := none, refused := false }

/-- A barrier that has entered FALLING. -/
def Barrier.fallen (b : Barrier) : BarrierStep := { b.quiet with fell := true }

/-! ### Movements -/

/-- Arrival in DOWN (R49). -/
def Barrier.arriveDown (b : Barrier) : Barrier :=
  { b with state := .down, travel := none, leaveLimit := false, reversals := 0, lowerPending := false }

/-- Entry to FALLING (R47, R50, R51): the travel timer starts, the lower-pending flag is cleared, and a lowering from UP
starts the leave-limit timer. A movement whose end limit is active ends at once (R49). -/
def Barrier.enterFalling (t : BarrierTimes) (fromUp : Bool) (b : Barrier) : Barrier :=
  let m := { b with state := .falling, lowerPending := false, travel := some t.travel, leaveLimit := fromUp }
  if m.downLimit then m.arriveDown else m

/-- Arrival in UP (R49): with the lower-pending flag set and the beam settled, the barrier enters FALLING at once. -/
def Barrier.arriveUp (t : BarrierTimes) (b : Barrier) : BarrierStep :=
  let m := { b with state := .up, travel := none, leaveLimit := false }
  if m.lowerPending && m.settled then (m.enterFalling t true).fallen else m.quiet

/-- Entry to RISING (R46, R50, R51): the travel timer starts, and a raising from DOWN starts the leave-limit timer. A
movement whose end limit is active ends at once (R49). -/
def Barrier.enterRising (t : BarrierTimes) (fromDown : Bool) (b : Barrier) : BarrierStep :=
  let m := { b with state := .rising, travel := some t.travel, leaveLimit := fromDown }
  if m.upLimit then m.arriveUp t else m.quiet

/-- Entry to FAULT (R52): timers of movement stop, lower-pending is cleared, the reversal count is kept. -/
def Barrier.enterFault (cause : FaultCause) (b : Barrier) : BarrierStep :=
  { ({ b with state := .fault, cause := some cause, travel := none, leaveLimit := false, lowerPending := false } :
      Barrier).quiet with fault := some cause }

/-! ### Requests -/

/-- A raise request (R46); refused in FAULT, and in every state while ESTOP is active (R56). -/
def Barrier.raiseRequest (t : BarrierTimes) (estop : Bool) (b : Barrier) : BarrierStep :=
  if b.state = .fault then { b.quiet with refused := true }
  else if estop then b.quiet
  else
    let m := { b with lowerPending := false }
    match m.state with
    | .down => m.enterRising t true
    | .stopped | .falling => m.enterRising t false
    | .rising | .up | .fault => m.quiet

/-- A new lower request in UP or STOPPED (R47): the reversal count is set to 0; with a settled beam the barrier falls at
once, otherwise the lower-pending flag is set. -/
def Barrier.newLower (t : BarrierTimes) (b : Barrier) : BarrierStep :=
  let m := { b with reversals := 0 }
  if m.settled then (m.enterFalling t (decide (m.state = .up))).fallen
  else { m with lowerPending := true }.quiet

/-- A lower request (R47); refused in FAULT, and in every state while ESTOP is active (R56). -/
def Barrier.lowerRequest (t : BarrierTimes) (estop : Bool) (b : Barrier) : BarrierStep :=
  if b.state = .fault then { b.quiet with refused := true }
  else if estop then b.quiet
  else
    match b.state with
    | .up | .stopped => if b.lowerPending then b.quiet else b.newLower t
    | .rising => if b.lowerPending then b.quiet else { b with reversals := 0, lowerPending := true }.quiet
    | .falling | .down | .fault => b.quiet

/-! ### Input changes and expiries -/

/-- Whether a lower-pending barrier at rest may fall: the beam is settled. -/
def Barrier.resumeFall (t : BarrierTimes) (fromUp : Bool) (b : Barrier) : BarrierStep :=
  if b.lowerPending && b.settled then (b.enterFalling t fromUp).fallen else b.quiet

/-- The effects of a limit change on a barrier that is not in FAULT and has not both limits active (R49, R50, R54). -/
def Barrier.limitMove (t : BarrierTimes) (limit : Limit) (active : Bool) (b : Barrier) : BarrierStep :=
  match b.state, limit, active with
  | .rising, .up, true => b.arriveUp t
  | .rising, .down, false => { b with leaveLimit := false }.quiet
  | .falling, .down, true => b.arriveDown.quiet
  | .falling, .up, false => { b with leaveLimit := false }.quiet
  | .down, .down, false => { b with state := .stopped }.quiet
  | .up, .up, false => { b with state := .stopped }.quiet
  | .stopped, .down, true => b.arriveDown.quiet
  | .stopped, .up, true => ({ b with state := .up } : Barrier).resumeFall t true
  | _, _, _ => b.quiet

/-- The debounced level of a limit. -/
def Barrier.setLimit (limit : Limit) (active : Bool) (b : Barrier) : Barrier :=
  match limit with
  | .up => { b with upLimit := active }
  | .down => { b with downLimit := active }

/-- An input change of a limit: both limits active at once give FAULT with cause LIMITS in every state but FAULT, where no
limit change has an effect (R52). While ESTOP is active a barrier takes limit changes as R54 states; no movement begins
(R56). -/
def Barrier.limitChange (t : BarrierTimes) (limit : Limit) (active : Bool) (b : Barrier) : BarrierStep :=
  let m := b.setLimit limit active
  if m.state = .fault then m.quiet
  else if m.upLimit && m.downLimit then m.enterFault .limits
  else m.limitMove t limit active

/-- A safety reversal (R53): the barrier enters RISING and the count goes up; below 3 the lower-pending flag is set, unless
the lane is in HOLD (R55); at 3 the obstruction is reported. -/
def Barrier.reverse (t : BarrierTimes) (held : Bool) (b : Barrier) : BarrierStep :=
  let n := b.reversals + 1
  let m := { b with reversals := n, lowerPending := decide (n < 3) && !held }
  { m.enterRising t false with obstructed := decide (n = 3) }

/-- The expiry of the clear-delay timer (R48): with the lower-pending flag set in UP or STOPPED, the barrier falls. -/
def Barrier.clearExpired (t : BarrierTimes) (b : Barrier) : BarrierStep :=
  let m := { b with clearDelay := none }
  if m.lowerPending && (decide (m.state = .up) || decide (m.state = .stopped)) then
    (m.enterFalling t (decide (m.state = .up))).fallen
  else m.quiet

/-- An input change of the safety beam (R48, R53). A change to clear starts the clear-delay timer, which expires as it
starts when the clear delay is 0; a change to broken stops it, and during FALLING is a safety reversal. -/
def Barrier.beamChange (t : BarrierTimes) (held broken : Bool) (b : Barrier) : BarrierStep :=
  if broken then
    let m := { b with beamBroken := true, clearDelay := none }
    if m.state = .falling then m.reverse t held else m.quiet
  else
    let m := { b with beamBroken := false, clearDelay := some t.clear }
    if t.clear = 0 then m.clearExpired t else m.quiet

/-- The state a barrier's limits show: DOWN, UP, or STOPPED with neither active. -/
def Barrier.limitState (b : Barrier) : BarrierState :=
  if b.downLimit then .down else if b.upLimit then .up else .stopped

/-- ESTOP becomes active (R56): a moving barrier stops in the state its limits show, and lower-pending is cleared. -/
def Barrier.estopStop (b : Barrier) : Barrier :=
  let m := { b with lowerPending := false }
  if b.state = .rising ∨ b.state = .falling then { m with state := b.limitState, travel := none, leaveLimit := false }
  else m

/-- The entry of the lane to HOLD (R55): lower-pending is cleared; a movement goes on, the clear-delay timer runs on. -/
def Barrier.onHold (b : Barrier) : Barrier := { b with lowerPending := false }

/-- The manual CLEAR of a barrier in FAULT whose limits are not both active (R57). -/
def Barrier.cleared (b : Barrier) : Barrier :=
  { b with state := b.limitState, cause := none, lowerPending := false, reversals := 0 }

/-- The first state of a barrier from its limits (R59). -/
def Barrier.first (p : BarrierPins) : Barrier :=
  let b : Barrier := { Barrier.reset with upLimit := p.up, downLimit := p.down, beamBroken := p.beam }
  if p.up && p.down then { b with state := .fault, cause := some .limits } else { b with state := b.limitState }

/-- What READ_LANE_IO reports of a barrier (R60). -/
def Barrier.report (b : Barrier) : BarrierReport where
  upLimit := b.upLimit
  downLimit := b.downLimit
  beamBroken := b.beamBroken
  raiseOut := b.raiseOut
  lowerOut := b.lowerOut
  state := b.state
  cause := b.cause
  lowerPending := b.lowerPending
  reversals := b.reversals
  settled := b.settled

end Sys2Proof.Machine
end

