-- ==== Sys2Proof/Machine/Weight.lean ====
section
/-! DEFINITION. Deck weight computation (01_deck_weight_computation.md): from cell counts to the displayed weight, weight
status, stability, zero tracking (R38, R39), the coupled reading, and the commands of the cell link and READ_WEIGHT,
READ_RAW. -/

namespace Sys2Proof.Machine

/-! ### Rounding -/

/-- `num / den` to the nearest integer, ties away from zero (R7, R8). -/
def roundAway (num : Int) (den : Nat) : Int :=
  if 0 ≤ num then (2 * num + den) / (2 * (den : Int)) else -((-(2 * num) + den) / (2 * (den : Int)))

/-- The quotient q of R11: W_g / (1000 d) to the nearest integer, an exact half toward plus infinity. -/
def roundDivision (wG : Int) (d : Nat) : Int := (wG + 500 * d) / (1000 * (d : Int))

/-- The rounded weight q × d of R11. A division of 0, which only a record that failed its checks holds, leaves it open: a free
value (assumption 39). -/
def roundedWeight (wG : Int) (d : Nat) : Int := if d = 0 then Config.weightOfNoDivision wG else roundDivision wG d * d

/-! ### A good sample through the stages -/

/-- The exact sum S of the products (r_c − z_c) × k_c over the frame's cells (R7). -/
def sampleSum (r : CalRecord) (cells : List CellSample) : Int :=
  ((cells.zip (r.zeros.zip r.spans)).map fun c => (c.1.raw.toInt - c.2.1) * (c.2.2 : Int)).foldl (· + ·) 0

/-- W_raw in grams (R7). -/
def rawWeight (r : CalRecord) (cells : List CellSample) : Int := roundAway (sampleSum r cells) 1024

/-- The newest `n` values of a history. -/
def lastN {α : Type} (n : Nat) (l : List α) : List α := l.drop (l.length - n)

/-- The mean of the values of a filter history (R8). -/
def mean (l : List Int) : Int := roundAway (l.foldl (· + ·) 0) l.length

/-- W_avg of a filter history whose newest value was `wRaw` (R8). With F = 0, which only a record that failed its checks holds,
the history is empty and has no mean: a free value (assumption 39). -/
def filteredWeight (wRaw : Int) (history : List Int) : Int :=
  if history.isEmpty then Config.meanOfNone wRaw else mean history

/-- The status of a good sample (R12, cases 3 to 5). -/
def goodStatus (wG : Int) (d capacity : Nat) : WeightStatus :=
  if ((capacity : Int) + 9 * d) * 1000 < wG then .over
  else if wG < -(20 * (d : Int) * 1000) then .under
  else .valid

/-- The largest W_avg of a history minus the smallest (R14), `wAvg` being the newest. With N = 0, which only a record that failed
its checks holds, the history is empty and has neither: a free value (assumption 39). -/
def spread (wAvg : Int) : List StabEntry → Int
  | [] => Config.spreadOfNone wAvg
  | e :: es => es.foldl (fun m x => max m x.wAvg) e.wAvg - es.foldl (fun m x => min m x.wAvg) e.wAvg

/-- Whether a reading of this W_avg is stable (R14). -/
def isStable (r : CalRecord) (status : WeightStatus) (wAvg : Int) (history : List StabEntry) : Bool :=
  decide (status = .valid) && decide (history.length = r.stabilityCount) && history.all (fun e => e.valid)
    && decide (spread wAvg history ≤ (r.motionBand : Int) * r.division * 1000)

/-- Whether a reading is at centre of zero (R15). -/
def atCentreZero (status : WeightStatus) (wG : Int) (d : Nat) : Bool :=
  decide (status = .valid) && decide ((wG.natAbs : Int) ≤ 250 * d)

/-- The histories emptied together (R9). -/
def WeightUnit.empty (u : WeightUnit) : WeightUnit := { u with filter := [], stability := [] }

/-- Whether a sample is a CELL_FAULT sample (R4). -/
def faultSample (c : DeckCal) (cells : List CellSample) : Bool :=
  decide (cells.length ≠ c.committed.cellCount) || cells.any (fun x => decide (x.status ≠ 0))
    || decide (c.state = .outOfService)

/-- Whether a frame's sequence number makes a gap (R3). -/
def seqGap (held : Option Nat) (seq : Nat) : Bool := held.any fun p => decide (seq ≠ (p + 1) % 256)

/-- The weight unit after the sequence comparison (R3). -/
def WeightUnit.sequence (u : WeightUnit) (seq : Nat) : WeightUnit :=
  { (if seqGap u.lastSeq seq then u.empty else u) with lastSeq := some seq }

/-- The weight unit after a CELL_FAULT sample (R4). -/
def WeightUnit.faultReading (u : WeightUnit) (time : Nat) : WeightUnit :=
  { u with
    refill := true
    reading := { u.reading with status := .cellFault, stable := false, centreZero := false, time := some time } }

/-- The weight unit after a good sample, computed against the committed record (R7 to R15). What a damaged record in CAL_EDIT
leaves open (F, d or N of 0) is a free value (assumption 39). -/
def WeightUnit.goodReading (u0 : WeightUnit) (r : CalRecord) (cells : List CellSample) (time : Nat) : WeightUnit :=
  let u := if u0.refill then u0.empty else u0
  let wRaw := rawWeight r cells
  let filter := lastN r.filterLength (u.filter ++ [wRaw])
  let wAvg := filteredWeight wRaw filter
  let wG := wAvg - u.zero
  let status := goodStatus wG r.division r.capacity
  let stability := lastN r.stabilityCount (u.stability ++ [{ wAvg := wAvg, valid := decide (status = .valid) }])
  { u with
    filter := filter
    stability := stability
    refill := false
    reading := {
      w := if status = .valid then roundedWeight wG r.division else u.reading.w
      status := status
      stable := isStable r status wAvg stability
      centreZero := atCentreZero status wG r.division
      wRaw := some wRaw
      wAvg := some wAvg
      wG := some wG
      calCounter := r.counter
      time := some time } }

/-- The weight unit after a sample arrival (R3, R4). -/
def WeightUnit.sample (u : WeightUnit) (c : DeckCal) (seq : Nat) (cells : List CellSample) (time : Nat) : WeightUnit :=
  if faultSample c cells then (u.sequence seq).faultReading time
  else (u.sequence seq).goodReading c.committed cells time

/-- The weight unit after an expiry of the sample timer (R5). -/
def WeightUnit.expire (u : WeightUnit) : WeightUnit :=
  { u with
    refill := true
    reading := { u.reading with status := .stale, stable := false, centreZero := false } }

/-! ### Coupled reading -/

/-- The coupled status (R19). -/
def coupledStatus (a b : WeightStatus) (wG : Option Int) (d capacity : Nat) : WeightStatus :=
  if a = .stale ∨ b = .stale then .stale
  else if a = .cellFault ∨ b = .cellFault then .cellFault
  else if a = .over ∨ b = .over then .over
  else if a = .under ∨ b = .under then .under
  else if wG.any (fun g => decide (((capacity : Int) + 9 * d) * 1000 < g)) then .over
  else .valid

/-- W_gc, formed only when both decks have a W_g (R18). -/
def coupledGrams (a b : Option Int) : Option Int :=
  match a, b with
  | some x, some y => some (x + y)
  | _, _ => none

/-- The coupled reading formed from both decks' readings as they stand (R18, R19). -/
def formCoupled (old : CoupledReading) (a b : DeckUnit) : CoupledReading :=
  let division := max a.cal.committed.division b.cal.committed.division
  let capacity := a.cal.committed.capacity + b.cal.committed.capacity
  let wG := coupledGrams a.weight.reading.wG b.weight.reading.wG
  let status := coupledStatus a.weight.reading.status b.weight.reading.status wG division capacity
  { w := if status = .valid then (wG.map fun g => roundedWeight g division).getD old.w else old.w
    status := status
    stable := a.weight.reading.stable && b.weight.reading.stable
    wG := wG
    division := division
    capacity := capacity
    counter0 := a.weight.reading.calCounter
    counter1 := b.weight.reading.calCounter }

/-- Form the coupled reading again. -/
def State.recouple (s : State) : State := { s with coupled := formCoupled s.coupled s.decks.d0 s.decks.d1 }

/-! ### A new reading of a deck -/

/-- Replace a deck's unit by one with a new reading: DECK_STATUS when the status differs from the one before (R17), then the
coupled reading is formed again (R18). -/
def State.newReading (s : State) (d : Deck) (u : DeckUnit) : State :=
  let t := s.setDeck d u
  (if u.weight.reading.status = (s.deck d).weight.reading.status then t
   else t.raiseNotice .deckStatus none (some d) 0 u.weight.reading.status.toNat []).recouple

/-- The deck's part of a sample arrival (R2): the latest frame is recorded, the sample timer restarts with the timeout in
force, CELL_LINK_Dn becomes inactive, and the weight unit forms a new reading. -/
def State.takeSample (s : State) (d : Deck) (seq : Nat) (cells : List CellSample) : State :=
  let u := s.deck d
  (s.deactivate (cellLinkCondition d)).newReading d {
    u with
    link := { u.link with
      rx := []
      latest := some { seq := seq, cells := cells, time := s.clock.count }
      timer := .running (s.settings.sampleTimeout.get d) }
    weight := u.weight.sample u.cal seq cells s.clock.count }

/-- The deck's part of an expiry of its sample timer (R5). -/
def State.takeExpiry (s : State) (d : Deck) : State :=
  let u := s.deck d
  (s.activate (cellLinkCondition d)).newReading d { u with link := { u.link with timer := .expired }, weight := u.weight.expire }

/-! ### Zero tracking -/

/-- The limit of the deck zero: Max_g / 50 = Max × 1000 / 50 (R10). -/
def zeroLimitOf (capacity : Nat) : Int := (capacity : Int) * 1000 / 50

/-- Whether a tracking step is taken at a sample arrival (R38). -/
def State.trackingDue (s : State) (d : Deck) : Bool :=
  let u := s.deck d
  decide (u.cal.committed.zeroTracking = 1) && decide (u.cal.state = .inService)
    && (s.holders.get d).isNone && (s.claims.get d).isEmpty
    && decide (u.weight.reading.status = .valid) && u.weight.reading.stable
    && (u.weight.reading.wG.any fun g => decide ((g.natAbs : Int) ≤ 500 * u.cal.committed.division))
    && (u.weight.trackMs.all fun ms => decide (1000 ≤ ms))

/-- A value limited to the range of R10. -/
def limitZero (limit v : Int) : Int := if limit < v then limit else if v < -limit then -limit else v

/-- A tracking step (R39): Z + W_g becomes the new zero, limited; a cut step sets the zero limit flag, and raises ZERO_LIMIT
when the flag was clear. -/
def State.trackingStep (s : State) (d : Deck) : State :=
  let u := s.deck d
  let target := u.weight.zero + u.weight.reading.wG.getD 0
  let z := limitZero (zeroLimitOf u.cal.committed.capacity) target
  let cut := decide (z ≠ target)
  let t := s.setDeck d { u with
    weight := { u.weight with zero := z, zeroLimit := u.weight.zeroLimit || cut, trackMs := some 0 } }
  if cut && !u.weight.zeroLimit then t.raiseNotice .zeroLimit none (some d) 0 0 [] else t

/-- Zero tracking as it is considered at each sample arrival of a deck (R38). -/
def State.track (s : State) (d : Deck) : State := if s.trackingDue d then s.trackingStep d else s

/-- One millisecond of a tracking interval, counted up to 1,000 (R38). -/
def trackTick (ms : Option Nat) : Option Nat := ms.map fun n => if n < 1000 then n + 1 else n

/-! ### Commands of the cell link -/

/-- Count a discarded frame, up to 65,535, and return the receiver to HUNT (R1). -/
def CellLink.discard (k : CellLink) : CellLink :=
  { k with rx := [], discarded := if k.discarded < max16 then k.discarded + 1 else k.discarded }

/-- A discarded frame of a deck's receiver; frames before the calibration area has been loaded are not counted (R6). -/
def State.discardCellFrame (s : State) (d : Deck) : State :=
  if s.calibrationLoaded then
    let u := s.deck d
    s.setDeck d { u with link := u.link.discard }
  else s

/-- CELL_FRAME_REFUSED (R2): the frame is discarded and counted, and nothing else changes. -/
def execCellFrameRefused (d : Deck) (s : State) : Host.Outcome State Fault Refusal := .next (s.discardCellFrame d)

/-- CELL_FRAME_GAP (R1): the abandoned frame is discarded and counted. -/
def execCellFrameGap (d : Deck) (s : State) : Host.Outcome State Fault Refusal := .next (s.discardCellFrame d)

/-- CELL_FRAME_BAD_COUNT (R1): the abandoned frame is discarded and counted. -/
def execCellFrameBadCount (d : Deck) (s : State) : Host.Outcome State Fault Refusal := .next (s.discardCellFrame d)

/-! ### READ_WEIGHT and READ_RAW -/

/-- What READ_WEIGHT reports of one deck (R20). -/
def DeckUnit.weightReport (u : DeckUnit) : WeightReport where
  reading := u.weight.reading
  zero := u.weight.zero
  filterCount := u.weight.filter.length
  stabilityCount := u.weight.stability.length
  deckState := u.cal.state
  zeroLimit := u.weight.zeroLimit

/-- What READ_WEIGHT reports of each deck for BOTH (R20). -/
def DeckUnit.brief (u : DeckUnit) : DeckBrief where
  w := u.weight.reading.w
  status := u.weight.reading.status
  stable := u.weight.reading.stable

/-- What READ_RAW reports (R21). -/
def DeckUnit.rawReport (u : DeckUnit) : RawReport where
  frame := u.link.latest
  cellCount := u.cal.committed.cellCount
  discarded := u.link.discarded
  expired := decide (u.link.timer = .expired)

/-- READ_WEIGHT (R20), code 10H. -/
def execReadWeight (r : Req) (selection : Byte) (s : State) : Host.Outcome State Fault Refusal :=
  .next (s.takeRequest r 0x10 false (
    match DeckSel.ofNat? selection.toNat with
    | some .d0 => needWatch r.station .yard .deck fun s => (s, .okBody (.weight s.decks.d0.weightReport))
    | some .d1 => needWatch r.station .yard .deck fun s => (s, .okBody (.weight s.decks.d1.weightReport))
    | some .both =>
      needWatch r.station .yard .deck fun s => (s, .okBody (.coupled s.coupled s.decks.d0.brief s.decks.d1.brief))
    | none => refuse .range))

/-- READ_RAW (R21), code 11H. -/
def execReadRaw (r : Req) (deck : Byte) (s : State) : Host.Outcome State Fault Refusal :=
  .next (s.takeRequest r 0x11 false (
    withDeck deck fun d => needWatch r.station .yard .deck fun s => (s, .okBody (.raw (s.deck d).rawReport))))

end Sys2Proof.Machine
end

