-- ==== Sys2Proof/Machine/Tickets.lean ====
section
/-! DEFINITION. The ticket engine, the yard clock and the day roll (07_tickets_site_register_and_permit_totals.md):
sections and net, applying a weighing, closing, voiding and editing tickets, permit totals, SET_CLOCK and the clock tick,
READ_SITE, READ_TOTALS, and ARCHIVE (R154). -/

namespace Sys2Proof.Machine

/-! ### Sections, net and close condition -/

/-- The sections of a ticket's weighings (R127). -/
def sectionsOf (kind : Kind) : List Weighing → List TicketSection
  | w :: v :: rest =>
    { net := match kind with
        | .delivery => (w.weight : Int) - v.weight
        | .collection => (v.weight : Int) - w.weight
      code := v.sectionCode } :: sectionsOf kind (v :: rest)
  | _ => []

/-- The total net (R127). -/
def totalNet (secs : List TicketSection) : Int := (secs.map fun x => x.net).foldl (· + ·) 0

/-- The close condition of a ticket closed by a weighing (R128). -/
def closeConditionOf (single : Bool) (secs : List TicketSection) : CloseCondition :=
  if single then .storedTare
  else if secs.any fun x => decide (x.net < 0) then .netNegative
  else .normal

/-- The ticket number of a bound entry as a notice carries it: absent while RESERVED. -/
def SiteEntry.noticeTicket (e : SiteEntry) : Nat := if e.state = .reserved then 0 else e.ticket

/-! ### Permit totals -/

/-- `a + b`, saturated at 4,294,967,295 (R136). -/
def satAdd (a b : Nat) : Nat := min (a + b) max32

/-- One section's net added to the today total of its waste code (R136). A code outside 1 to 32 names no total. -/
def creditSection (totals : List DayTotals) (x : TicketSection) : List DayTotals :=
  if wasteOk x.code then
    match totals[x.code - 1]? with
    | some t => totals.set (x.code - 1) { t with today := satAdd t.today x.net.toNat }
    | none => totals
  else totals

/-- Whether a closed ticket is credited (R136). -/
def isCredited (close : CloseCondition) (kind : Kind) : Bool :=
  (decide (close = .normal) || decide (close = .storedTare)) && decide (kind = .delivery)

/-- The totals after a ticket's close (R136). -/
def creditTotals (totals : List DayTotals) (e : JournalEntry) : List DayTotals :=
  if isCredited e.close e.kind then (sectionsOf e.kind e.weighings).foldl creditSection totals else totals

/-- PERMIT_CAP for one credited code: raised when its today total is at or above a cap that is not 0 and its cap notice flag
is clear, which is then set (R137). -/
def State.permitCapOf (ticket : Nat) (s : State) (x : TicketSection) : State :=
  let today := ((s.index.totals[x.code - 1]?).map fun t => t.today).getD 0
  let cap := s.settings.caps.getD (x.code - 1) 0
  if wasteOk x.code && decide (cap ≠ 0) && decide (cap ≤ today) && !(s.tickets.capNotice.getD (x.code - 1) true) then
    { s with tickets := { s.tickets with capNotice := s.tickets.capNotice.set (x.code - 1) true } }.raiseNotice
      .permitCap none none ticket x.code [(today : Int), (cap : Int)]
  else s

/-- The PERMIT_CAP notices that a closed ticket's credit causes, in the order of its sections (assumption 12). -/
def State.permitCaps (s : State) (e : JournalEntry) : State :=
  if isCredited e.close e.kind then (sectionsOf e.kind e.weighings).foldl (State.permitCapOf e.ticket) s else s

/-- Whether admission under a waste code is held back by its cap (R137, R67 check 10). -/
def State.capReached (s : State) (code : Nat) : Bool :=
  let today := ((s.index.totals[code - 1]?).map fun t => t.today).getD 0
  let cap := s.settings.caps.getD (code - 1) 0
  decide (cap ≠ 0) && decide (cap ≤ today)

/-! ### Closing -/

/-- A pair joins the recently closed list: at most 16 pairs, none with a seq below next_seq − 4,096 (R134). -/
def joinRecent (nextSeq : Nat) (l : List RecentTicket) (p : RecentTicket) : List RecentTicket :=
  (lastN 16 (l ++ [p])).filter fun q => decide (nextSeq - ringSize ≤ q.seq)

/-- The journal entry a site entry closes into (R129), with seq next_seq and the clock as close time. -/
def State.journalEntryOf (s : State) (e : SiteEntry) (close : CloseCondition) (voidReason : Nat) : JournalEntry where
  seq := s.index.nextSeq
  ticket := e.ticket
  close := close
  voidReason := voidReason
  kind := e.kind
  tag := e.tag
  account := e.account
  hazard := e.hazard
  closeTime := s.clock.count
  weighings := e.weighings

/-- A journal entry is taken into the index/totals working copy (R129, R130, R160): next_seq goes up by 1, the credit of R136
is applied, and last-credited takes the ticket number. -/
def IndexTotals.close (t : IndexTotals) (e : JournalEntry) : IndexTotals :=
  { t with nextSeq := t.nextSeq + 1, lastCredited := e.ticket, totals := creditTotals t.totals e }

/-- A ticket closes into the journal (R129, R130): index/totals, release of its site entry, recently closed list. -/
def State.closeEntry (s : State) (slot : Nat) (j : JournalEntry) : State :=
  let index := s.index.close j
  { s with
    index := index
    tickets := { s.tickets with recent := joinRecent index.nextSeq s.tickets.recent { ticket := j.ticket, seq := j.seq } }
  }.releaseSite slot

/-- The notices of a ticket closed by a weighing (R129): TICKET_CLOSED, then any PERMIT_CAP; then the journal-low
comparison. -/
def State.closeNotices (s : State) (l : Lane) (j : JournalEntry) : State :=
  ((s.raiseNotice .ticketClosed (some l) none j.ticket j.close.toNat [totalNet (sectionsOf j.kind j.weighings)]).permitCaps
    j).journalLowCheck

/-! ### Applying a weighing -/

/-- An ordinary first weighing (R123). -/
def State.firstWeighing (s : State) (l : Lane) (e : SiteEntry) (w : Weighing) : State :=
  let n := s.tickets.counter + 1
  let opened : SiteEntry := { e with state := .opened, ticket := n, weighings := [w] }
  (({ s with tickets := { s.tickets with counter := n } }.updateSite e.slot fun _ => opened).enqueue
    [.counter n, .siteSlot e.slot (some opened)]).raiseNotice .ticketOpened (some l) none n 0 []

/-- A single weigh (R124), with the captured weighing and the stored-tare weighing. -/
def State.singleWeigh (s : State) (l : Lane) (e : SiteEntry) (w tare : Weighing) : State :=
  let n := s.tickets.counter + 1
  let closing : SiteEntry := { e with ticket := n, weighings := [w, tare] }
  let j := s.journalEntryOf closing (closeConditionOf true (sectionsOf e.kind [w, tare])) 0
  let t := { s with tickets := { s.tickets with counter := n } }.closeEntry e.slot j
  (t.enqueue [.counter n, .journal j, .indexTotals t.index]).closeNotices l j

/-- An intermediate weighing (R125). -/
def State.intermediateWeighing (s : State) (e : SiteEntry) (w : Weighing) : State :=
  let longer : SiteEntry := { e with weighings := e.weighings ++ [w] }
  (s.updateSite e.slot fun _ => longer).enqueue [.siteSlot e.slot (some longer)]

/-- A final weighing (R126, R129). -/
def State.finalWeighing (s : State) (l : Lane) (e : SiteEntry) (w : Weighing) : State :=
  let ws := e.weighings ++ [w]
  let j := s.journalEntryOf { e with weighings := ws } (closeConditionOf false (sectionsOf e.kind ws)) 0
  let t := s.closeEntry e.slot j
  (t.enqueue [.journal j, .indexTotals t.index, .siteSlot e.slot none]).closeNotices l j

/-- The ticket engine applies a weighing to a lane's bound entry (7.3); `tare` is the stored-tare weighing of a single weigh.
-/
def State.applyWeighing (s : State) (l : Lane) (mode : CaptureMode) (e : SiteEntry) (w : Weighing) (tare : Option Weighing) :
    State :=
  match mode, tare with
  | .first, none => s.firstWeighing l e w
  | .first, some t => s.singleWeigh l e w t
  | .intermediate, _ => s.intermediateWeighing e w
  | .final, _ => s.finalWeighing l e w

/-! ### The day roll -/

/-- The totals after a roll across `days` days (R141). -/
def rollTotals (days : Int) (totals : List DayTotals) : List DayTotals :=
  totals.map fun t => { today := 0, previous := if days = 1 then t.today else 0 }

/-- The day rolls to the current index (R141, R142). -/
def State.rollDay (s : State) (stored : Int) : State :=
  let current := s.currentDay
  ({ s with
    index := { s.index with storedDay := some current, totals := rollTotals (current - stored) s.index.totals }
    tickets := { s.tickets with capNotice := s.tickets.capNotice.map fun _ => false } }.raiseNotice
      .dayRolled none none 0 0 [current, current - stored]).enqueueRoll

/-- The day index is examined (R141): at each tick, SET_CLOCK and accepted write of the roll second, while SET is true. An
unknown stored day index takes the current one without a roll, and the record is written (R140, R142). -/
def State.examineDay (s : State) : State :=
  if s.clock.set then
    match s.index.storedDay with
    | none => { s with index := { s.index with storedDay := some s.currentDay } }.enqueueRoll
    | some d => if d < s.currentDay then s.rollDay d else s
  else s

/-- SET_CLOCK (R140), code 09H. -/
def execSetClock (r : Req) (value : BitVec 32) (s : State) : Host.Outcome State Fault Refusal :=
  .next (s.takeRequest r 0x09 false (
    needControl r.station .yard .yard fun s =>
      ({ s with clock := { count := value.toNat, set := true } }.examineDay, .plain .ok)))

/-- CLOCK_TICK (R139): the count goes up by 1, and stays at 4,294,967,295; the day index is examined (R141). -/
def execClockTick (s : State) : Host.Outcome State Fault Refusal :=
  .next ({ s with
    clock := { s.clock with count := if s.clock.count < max32 then s.clock.count + 1 else s.clock.count } }.examineDay)

/-! ### Voiding and editing -/

/-- The scope of a TICKET request that names a ticket (R165): the bound lane of the entry that holds it, or YARD. -/
def State.ticketScope (s : State) (n : Nat) : Scope :=
  match s.siteByTicket? n with
  | some e => scopeOf e.boundLane
  | none => .yard

/-- An accepted void (R130). -/
def State.voidEntry (s : State) (e : SiteEntry) (reason : Nat) : State :=
  let j := s.journalEntryOf e .void reason
  let t := s.closeEntry e.slot j
  ((t.enqueue [.journal j, .indexTotals t.index, .siteSlot e.slot none]).raiseNotice
    .ticketVoided none none e.ticket reason []).journalLowCheck

/-- VOID_TICKET (R130), code 3AH. -/
def execVoidTicket (r : Req) (ticket : BitVec 32) (reason : Byte) (s : State) : Host.Outcome State Fault Refusal :=
  .next (s.takeRequest r 0x3A false (
    inRange (decide (ticket ≠ 0)) fun s =>
      needControl r.station (s.ticketScope ticket.toNat) .ticket (fun s =>
        match s.siteByTicket? ticket.toNat with
        | none => (s, .plain .notFound)
        | some e =>
          if e.boundLane.isSome then (s, .plain .bound)
          else needSlot (fun s => (s.voidEntry e reason.toNat, .plain .ok)) s) s))

/-- Whether a change of EDIT_TICKET names a field it may change and a value in its range (R131). -/
def TicketChange.ok : TicketChange → Bool
  | .account _ => true
  | .waste v => wasteOk v.toNat
  | .hazard none => true
  | .hazard (some h) => hazardOk h
  | .otherField _ => false

/-- A change of EDIT_TICKET applied to an entry. -/
def TicketChange.apply (e : SiteEntry) : TicketChange → SiteEntry
  | .account v => { e with account := v.toNat }
  | .waste v => { e with waste := v.toNat }
  | .hazard h => { e with hazard := h.map hazardOf }
  | .otherField _ => e

/-- An accepted edit (R131): every change in the order given, and the slot queued. -/
def State.editEntry (s : State) (e : SiteEntry) (changes : List TicketChange) : State :=
  let edited := changes.foldl TicketChange.apply e
  (s.updateSite e.slot fun _ => edited).enqueue [.siteSlot e.slot (some edited)]

/-- EDIT_TICKET (R131), code 3BH. -/
def execEditTicket (r : Req) (ticket : BitVec 32) (changes : List TicketChange) (s : State) :
    Host.Outcome State Fault Refusal :=
  .next (s.takeRequest r 0x3B false (
    inRange (decide (ticket ≠ 0) && !changes.isEmpty && changes.all TicketChange.ok) fun s =>
      needControl r.station (s.ticketScope ticket.toNat) .ticket (fun s =>
        match s.siteByTicket? ticket.toNat with
        | none => (s, .plain .notFound)
        | some e =>
          if e.state = .suspect then (s, .plain .wrongState)
          else if e.boundLane.isSome then (s, .plain .bound)
          else needSlot (fun s => (s.editEntry e changes, .plain .ok)) s) s))

/-! ### Reading -/

/-- What READ_SITE reports of an entry (R132). -/
def SiteEntry.report (e : SiteEntry) : SiteReport where
  state := e.state
  ordinal := e.ordinal
  ticket := e.noticeTicket
  kind := e.kind
  tag := e.tag
  account := e.account
  waste := e.waste
  hazard := e.hazard
  weighings := e.weighings.length
  lastWeighing := e.weighings.getLast?.map fun w => (w.weight, w.time)
  boundLane := e.boundLane

/-- The entries that follow `after` in admission order (R132): a greater ordinal, or the same ordinal and behind the first
entry that holds it. 0 stands for "from the start". Where several entries share the ordinal 4,294,967,295, R132 does not say
which of them is the entry holding it; the first, of the lowest slot, is the model's choice (assumption 44). -/
def entriesAfter (after : Nat) (es : List SiteEntry) : List SiteEntry :=
  if after = 0 then es
  else
    match es.find? fun e => decide (e.ordinal = after) with
    | some h => es.filter fun e => decide (after < e.ordinal) || (decide (e.ordinal = after) && decide (h.slot < e.slot))
    | none => es.filter fun e => decide (after < e.ordinal)

/-- READ_SITE (R132), code 38H. -/
def execReadSite (r : Req) (after : BitVec 32) (count : Byte) (s : State) : Host.Outcome State Fault Refusal :=
  .next (s.takeRequest r 0x38 false (
    inRange (within 1 4 count.toNat) (
      needWatch r.station .yard .ticket fun s =>
        let es := entriesAfter after.toNat s.site.entries
        (s, .okBody (.site ((es.take count.toNat).map SiteEntry.report) s.site.entries.length s.site.reserved
          (s.site.entries.filter fun e => decide (e.state = .suspect)).length (decide (count.toNat < es.length)))))))

/-- What READ_TOTALS reports (R138). -/
def State.totalsReport (s : State) : TotalsReport where
  lines := (List.range 32).map fun i =>
    { cap := s.settings.caps.getD i 0
      today := ((s.index.totals[i]?).map fun t => t.today).getD 0
      previous := ((s.index.totals[i]?).map fun t => t.previous).getD 0
      capNotice := s.tickets.capNotice.getD i false }
  counter := s.tickets.counter
  storedDay := s.index.storedDay
  currentDay := if s.clock.set then some s.currentDay else none
  rollSecond := s.settings.rollSecond
  lastCredited := s.index.lastCredited

/-- READ_TOTALS (R138), code 3CH. -/
def execReadTotals (r : Req) (s : State) : Host.Outcome State Fault Refusal :=
  .next (s.takeRequest r 0x3C false (
    needWatch r.station .yard .ticket fun s => (s, .okBody (.totals s.totalsReport))))

/-- ARCHIVE (R154), code 3EH. The range of n, archived_seq to next_seq as they stand, is compared before the decision (R165
step 1). -/
def execArchive (r : Req) (n : BitVec 32) (s : State) : Host.Outcome State Fault Refusal :=
  .next (s.takeRequest r 0x3E false (
    inRange (decide (s.index.archivedSeq ≤ n.toNat) && decide (n.toNat ≤ s.index.nextSeq)) (
      needControl r.station .yard .ticket (needSlot fun s =>
        let t := { s with index := { s.index with archivedSeq := n.toNat } }
        ((t.enqueue [.indexTotals t.index]).journalLowCheck, .plain .ok)))))

end Sys2Proof.Machine
end

