-- ==== Sys2Proof/Machine/Lane.lean ====
section
/-! DEFINITION. The lane controller, the deck claim arbiter and weight capture (04_lane_sequence_and_deck_claims.md,
05_weight_capture.md): requests to barriers, holding, passage, capture, admission and grants, as operations of the whole
state. The commands stand in Sys2Proof/Machine/LaneCommands.lean and Sys2Proof/Machine/LaneEvents.lean. Each operation
calls only those above it: a lane that enters a state looks at that state's condition in the same event (R76), and a chain
of entries always runs forward along the passage. -/

namespace Sys2Proof.Machine

/-! ### Requests to barriers -/

/-- Put a barrier back with what it reports to the light: go is cleared when barrier A enters FALLING (R58). -/
def State.putBarrier (s : State) (l : Lane) (i : BarrierId) (r : BarrierStep) : State :=
  let u := (s.lane l).setBarrier i r.barrier
  s.setLane l (if r.fell && decide (i = .a) then { u with go := false } else u)

/-- A raise request to a barrier of a lane (R46): what it answers. -/
def State.raiseStep (s : State) (l : Lane) (i : BarrierId) : BarrierStep :=
  ((s.lane l).barrier i).raiseRequest (s.laneSettings l).times s.estop

/-- A lower request to a barrier of a lane (R47): what it answers. -/
def State.lowerStep (s : State) (l : Lane) (i : BarrierId) : BarrierStep :=
  ((s.lane l).barrier i).lowerRequest (s.laneSettings l).times s.estop

/-- A raise request is made. -/
def State.askRaise (s : State) (l : Lane) (i : BarrierId) : State := s.putBarrier l i (s.raiseStep l i)

/-- A lower request is made. -/
def State.askLower (s : State) (l : Lane) (i : BarrierId) : State := s.putBarrier l i (s.lowerStep l i)

/-- Whether a barrier of a lane is in FAULT, so that it refuses a request of the lane (R46, R47). -/
def State.faulted (s : State) (l : Lane) (i : BarrierId) : Bool := decide (((s.lane l).barrier i).state = .fault)

/-- The lower request to barrier A at a RESUME: made when A is neither DOWN nor FALLING (R84). -/
def State.askLowerUnlessDown (s : State) (l : Lane) : State :=
  if (s.lane l).barrierA.state = .down ∨ (s.lane l).barrierA.state = .falling then s else s.askLower l .a

/-! ### Captures that end without a weighing -/

/-- The deck a notice of a lane carries: absent for a tandem lane (R106). -/
def DeckSel.noticeDeck : DeckSel → Option Deck
  | .d0 => some .d0
  | .d1 => some .d1
  | .both => none

/-- The ticket number of a lane's bound entry, absent (0) while it is RESERVED or there is none (R106). -/
def State.boundTicket (s : State) (l : Lane) : Nat := ((s.boundEntry? l).map SiteEntry.noticeTicket).getD 0

/-- CAPTURE_FAILED (R106, R188). -/
def State.captureFailed (s : State) (l : Lane) (c : CaptureContext) (reason : CaptureReason) : State :=
  s.raiseNotice .captureFailed (some l) (s.laneSettings l).deck.noticeDeck (s.boundTicket l)
    (reason.toNat + 10 * (c.mode.toNat + 3 * originNat c.origin)) []

/-- A capture in progress is abandoned (R103, R104); without one nothing happens. -/
def State.abandon (s : State) (l : Lane) (reason : CaptureReason) : State :=
  match (s.lane l).capture with
  | none => s
  | some c => (s.setLane l { s.lane l with capture := none }).captureFailed l c reason

/-! ### Holding -/

/-- LANE_HOLD (R82, R188). -/
def State.laneHold (s : State) (l : Lane) (reason : HoldReason) (heldFrom : LaneState) : State :=
  s.raiseNotice .laneHold (some l) none 0 (reason.toNat + 8 * heldFrom.toNat) []

/-- The lane's part of an entry to HOLD (R82): held-from, reason, the dwell timer stopped, go cleared, the barriers told
(R55). The last refused tag returns to none as the lane leaves IDLE (R65). -/
def LaneUnit.held (u : LaneUnit) (reason : HoldReason) : LaneUnit :=
  { u with
    state := .hold
    holdReason := some reason
    heldFrom := some u.state
    dwell := none
    lastRefused := none
    go := false
    barrierA := u.barrierA.onHold
    barrierX := u.barrierX.onHold }

/-- An entry to HOLD from another state (R82): a capture is abandoned first (R103). -/
def State.enterHold (s : State) (l : Lane) (reason : HoldReason) : State :=
  let t := s.abandon l (if reason = .estop then .estop else .held)
  (t.setLane l ((t.lane l).held reason)).laneHold l reason (s.lane l).state

/-- A cause to hold a lane is met (R82): CLOSED stays CLOSED, IDLE is held for BARRIER_FAULT and STARTUP alone, and a lane
in HOLD takes the new reason and announces it again. -/
def State.hold (s : State) (l : Lane) (reason : HoldReason) : State :=
  match (s.lane l).state with
  | .closed => s
  | .idle => if reason = .barrierFault ∨ reason = .startup then s.enterHold l reason else s
  | .hold =>
    (s.setLane l { s.lane l with holdReason := some reason }).laneHold l reason (((s.lane l).heldFrom).getD .hold)
  | _ => s.enterHold l reason

/-- What a barrier reports to its lane after an input change or an expiry: a new fault (R52) with BARRIER_FAULT, a third
safety reversal (R53) with OBSTRUCTED; the lane is held. -/
def State.takeBarrier (s : State) (l : Lane) (i : BarrierId) (r : BarrierStep) : State :=
  let t := s.putBarrier l i r
  let t :=
    match r.fault with
    | some c => (t.raiseNotice .barrierFault (some l) none 0 (3 * i.toNat + c.toNat) []).hold l .barrierFault
    | none => t
  if r.obstructed then (t.raiseNotice .obstructed (some l) none 0 i.toNat []).hold l .obstructed else t

/-! ### Entries to states -/

/-- The dwell limit of a timed state (R64). -/
def DwellLimits.of (d : DwellLimits) : LaneState → Option Nat
  | .admitting => some d.admitting
  | .entering => some d.entering
  | .positioning => some d.positioning
  | .onDeck => some d.onDeck
  | .weighing => some d.weighing
  | .leaving => some d.leaving
  | .retreating => some d.retreating
  | .clearing => some d.clearing
  | .closed | .idle | .hold => none

/-- The marks a state takes from the input levels at its entry (R63): EB seen in ENTERING (R77), the AL stage in RETREATING
(R81). -/
def LaneUnit.entryMarks (u : LaneUnit) (st : LaneState) : Marks where
  ebSeen := decide (st = .entering) && u.eb
  leavingStep := 0
  alStage := if st = .retreating ∧ u.al = true then 1 else 0
  reposition := false

/-- An entry to a state other than HOLD (R63, R64): a fresh dwell timer, the marks of the entry unless they are kept through
a hold (R84), go set on ENTERING and left as it stands on POSITIONING (R58), no capture context, and the last refused tag
none (R65). -/
def LaneUnit.enter (u : LaneUnit) (c : LaneSettings) (st : LaneState) (keepMarks : Bool) : LaneUnit :=
  { u with
    state := st
    holdReason := none
    heldFrom := none
    dwell := c.dwell.of st
    marks := if keepMarks then u.marks else u.entryMarks st
    lastRefused := none
    go := decide (st = .entering) || (decide (st = .positioning) && u.go)
    capture := none }

/-- A lane enters a state other than HOLD. -/
def State.enter (s : State) (l : Lane) (st : LaneState) (keepMarks : Bool) : State :=
  s.setLane l ((s.lane l).enter (s.laneSettings l) st keepMarks)

/-! ### Capture -/

/-- A lane enters LEAVING and asks barrier X to rise (R79, R99). A refusal by a barrier in FAULT holds the lane from
LEAVING. -/
def State.enterLeaving (s : State) (l : Lane) : State :=
  let t := (s.askRaise l .x).enter l .leaving false
  if s.faulted l .x then t.hold l .barrierFault else t

/-- The source of a weighing of a lane (R98). -/
def DeckSel.source : DeckSel → WeighSource
  | .d0 => .deck0
  | .d1 => .deck1
  | .both => .coupled

/-- The calibration counters a weighing of a lane carries: those that the reading carries (R98), also where a commit has taken
place since the reading was formed, for which R29 speaks of the new counter (DEDUCED, assumption 47). -/
def State.weighCounters (s : State) (l : Lane) : Nat × Nat :=
  match (s.laneSettings l).deck with
  | .d0 => (s.decks.d0.weight.reading.calCounter, 0)
  | .d1 => (s.decks.d1.weight.reading.calCounter, 0)
  | .both => (s.coupled.counter0, s.coupled.counter1)

/-- The section code of a weighing (R98). -/
def sectionCodeOf (c : CaptureContext) (e : SiteEntry) : Nat :=
  match c.mode with
  | .first => 0
  | .intermediate | .final => c.sectionCode.getD e.waste

/-- The weighing record of a success (R98). -/
def State.weighingOf (s : State) (l : Lane) (c : CaptureContext) (e : SiteEntry) : Weighing where
  weight := (s.laneReading l).w.toNat
  source := (s.laneSettings l).deck.source
  lane := l
  time := s.clock.count
  counter0 := (s.weighCounters l).1
  counter1 := (s.weighCounters l).2
  sectionCode := sectionCodeOf c e

/-- The registered tare of an entry's vehicle, where the vehicle register holds one (R100, R115). -/
def State.tareOf (s : State) (e : SiteEntry) : Option Tare :=
  match e.tag with
  | none => none
  | some t =>
    match s.vehicle? t with
    | none => none
    | some v => v.data.tare

/-- The tare of a single weigh, where the capture decides for one (R100). -/
def State.singleTare (s : State) (l : Lane) (c : CaptureContext) (e : SiteEntry) : Option Tare :=
  let r := s.laneReading l
  if c.mode = .first ∧ (s.laneSettings l).storedTare = true ∧ (s.laneSettings l).direction = .inbound ∧ e.kind = .delivery then
    (s.tareOf e).filter fun t => t.validAt s.clock.count && decide ((t.weight : Int) ≤ r.w - 20 * (r.division : Int))
  else none

/-- The stored-tare weighing (R101). -/
def State.tareWeighing (s : State) (l : Lane) (e : SiteEntry) (t : Tare) : Weighing where
  weight := t.weight
  source := .storedTare
  lane := l
  time := s.clock.count
  counter0 := 0
  counter1 := 0
  sectionCode := e.waste

/-- CAPTURED (R106, R188). -/
def State.captured (s : State) (l : Lane) (c : CaptureContext) (closed : Bool) (ticket : Nat) : State :=
  s.raiseNotice .captured (some l) (s.laneSettings l).deck.noticeDeck ticket
    (c.mode.toNat + 3 * originNat c.origin + 12 * flagNat closed) []

/-- Steps 1 to 3 of a success (R99): the capture context ends, the ticket engine applies the weighing, CAPTURED is raised.
A lane in WEIGHING has a bound entry (R63); without one there is nothing to apply. -/
def State.recordCapture (s0 : State) (l : Lane) (c : CaptureContext) : State :=
  let s := s0.setLane l { s0.lane l with capture := none, dwell := none }
  match s.boundEntry? l with
  | none => s
  | some e =>
    let tare := s.singleTare l c e
    let t := s.applyWeighing l c.mode e (s.weighingOf l c e) (tare.map (s.tareWeighing l e))
    t.captured l c (decide (c.mode = .final) || tare.isSome) (if c.mode = .first then t.tickets.counter else e.ticket)

/-- The first capture condition unmet (R95, R97); `none` when all are met. -/
def State.unmet (s : State) (l : Lane) : Option CaptureReason :=
  let r := s.laneReading l
  if r.status ≠ .valid then some .status
  else if r.stable = false then some .motion
  else if (s.lane l).eb = true ∨ (s.lane l).xb = true then some .position
  else if r.w < 20 * (r.division : Int) then some .belowMin
  else if (r.capacity : Int) < r.w then some .aboveMax
  else if s.conditions.storeFault.latched = true then some .storeFault
  else if s.slotFree = false then some .storeBusy
  else none

/-- An evaluation of the capture conditions in WEIGHING (R95): a pending reason, or the success (R99). -/
def State.evalCapture (s : State) (l : Lane) : State :=
  match (s.lane l).capture with
  | none => s
  | some c =>
    match s.unmet l with
    | some r => s.setLane l { s.lane l with capture := some { c with pending := r } }
    | none => (s.recordCapture l c).enterLeaving l

/-- A capture begins (R92, R94): the armed flag is set, the context is created, the lane enters WEIGHING, and the conditions
are evaluated at once. -/
def State.beginCapture (s : State) (l : Lane) (mode : CaptureMode) (code : Option Nat) (origin : Option Station) : State :=
  let t := s.enter l .weighing false
  (t.setLane l { t.lane l with
    armed := true
    capture := some { mode := mode, sectionCode := code, origin := origin, pending := .status } }).evalCapture l

/-- The mode of a capture that names none (R91, R94). -/
def defaultMode : Direction → CaptureMode
  | .inbound => .first
  | .outbound => .final

/-- Whether auto-capture begins a capture (R94). -/
def State.autoDue (s : State) (l : Lane) : Bool :=
  decide ((s.lane l).state = .onDeck) && (s.laneSettings l).autoCapture && (s.lane l).armed && (s.attending.get l).isNone
    && (s.boundEntry? l).any fun e => decide (e.weighings.length < 5)

/-- Auto-capture as it is looked at (R94). -/
def State.autoCapture (s : State) (l : Lane) : State :=
  if s.autoDue l then s.beginCapture l (defaultMode (s.laneSettings l).direction) none none else s

/-! ### Passage -/

/-- An entry to ON_DECK that arms auto-capture (R78, R93, R94). -/
def State.enterOnDeck (s : State) (l : Lane) (keepMarks : Bool) : State :=
  let t := s.enter l .onDeck keepMarks
  (t.setLane l { t.lane l with armed := true }).autoCapture l

/-- POSITIONING (R78). -/
def State.evalPositioning (s : State) (l : Lane) : State :=
  let u := s.lane l
  let r := s.laneReading l
  if u.eb = false ∧ u.xb = false ∧ r.status = .valid ∧ r.loaded = true then s.enterOnDeck l false else s

/-- ENTERING (R77). -/
def State.evalEntering (s : State) (l : Lane) : State :=
  let u := s.lane l
  if u.al = false ∧ u.marks.ebSeen = true ∧ u.barrierA.beamBroken = false then
    let t := (s.askLower l .a).enter l .positioning false
    if s.faulted l .a then t.hold l .barrierFault else t.evalPositioning l
  else s

/-! ### The arbiter -/

/-- The decks a lane claims. -/
def State.claimed (s : State) (l : Lane) : List Deck := (s.laneSettings l).deck.decks

/-- Whether a lane's claim is grantable (R72). -/
def State.grantable (s : State) (l : Lane) : Bool :=
  decide ((s.lane l).state = .admitting)
    && (s.claimed l).all fun d =>
      decide ((s.claims.get d).head? = some l) && (s.holders.get d).isNone && decide ((s.deck d).cal.state = .inService)

/-- A lane becomes holder of its deck or decks (R73). -/
def State.takeDecks (s : State) (l : Lane) : State :=
  { s with holders := {
      d0 := if (s.claimed l).contains .d0 then some l else s.holders.d0
      d1 := if (s.claimed l).contains .d1 then some l else s.holders.d1 } }

/-- A grant (R73). A refusal by barrier A in FAULT holds the lane from ENTERING, and it stays holder. -/
def State.grant (s : State) (l : Lane) : State :=
  let t := (((s.leaveClaim l).takeDecks l).askRaise l .a).enter l .entering false
  if s.faulted l .a then t.hold l .barrierFault else t.evalEntering l

/-- A condition with a notice becomes active (R182): a condition already active keeps its state and raises nothing, and the
notice is raised when the enable is set. -/
def State.activateWith (s : State) (k : Condition) (notice : State → State) : State :=
  if (s.condition k).active then s
  else if (s.condition k).enable then notice (s.activate k)
  else s.activate k

/-- A condition with a notice at both changes becomes inactive. -/
def State.deactivateWith (s : State) (k : Condition) (notice : State → State) : State :=
  if (s.condition k).active then
    if (s.condition k).enable then notice (s.deactivate k) else s.deactivate k
  else s

/-- A deck goes OUT_OF_SERVICE because its integrity check failed (R34, R40): CAL_BAD_Dn, and DECK_OUT with the cause. -/
def State.deckOut (s : State) (d : Deck) (cause : Nat) : State :=
  let u := s.deck d
  (s.setDeck d { u with cal := { u.cal with state := .outOfService } }).activateWith (calBadCondition d)
    fun t => t.raiseNotice .deckOut none (some d) 0 cause []

/-- The lanes with a claim in a queue of one of these decks, L0 first. -/
def State.claimants (s : State) (ds : List Deck) : List Lane :=
  Lane.all.filter fun l => ds.any fun d => (s.claims.get d).contains l

/-- A grant's integrity check fails for these decks (R34, R74): they go out of service, the claims in their queues leave
every queue, and each of their lanes goes to HOLD(DECK_OUT), L0 first (R176). Of two decks that fail, D0 raises its DECK_OUT first;
the rules give no order between decks (DEDUCED, assumption 15). -/
def State.failGrant (s : State) (ds : List Deck) : State :=
  let t := ds.foldl (fun t d => t.deckOut d 0) s
  let ls := s.claimants ds
  ls.foldl (fun t l => t.hold l .deckOut) (ls.foldl State.leaveClaim t)

/-- The first grantable claim, the head of D0's queue before that of D1's. -/
def State.nextGrant (s : State) : Option Lane :=
  (s.claims.d0.head?.toList ++ s.claims.d1.head?.toList).find? s.grantable

/-- A grantable claim is taken: granted, or its check fails (R73). -/
def State.takeGrant (s : State) (l : Lane) : State :=
  match (s.claimed l).filter fun d => !(s.deck d).cal.committed.intact with
  | [] => s.grant l
  | ds => s.failGrant ds

/-- The arbiter examines its queues until no claim is grantable (R72). Each round takes at least one claim out of the
queues, which hold at most eight between them. -/
def State.examineFor : Nat → State → State
  | 0, s => s
  | n + 1, s =>
    match s.nextGrant with
    | none => s
    | some l => State.examineFor n (s.takeGrant l)

/-- An examination of the claim queues (R72). -/
def State.examine (s : State) : State := s.examineFor 8

/-! ### The end of the passage -/

/-- CLEARING (R80): release, IDLE, LANE_CLEARED, and the examination that a release makes (R75). -/
def State.evalClearing (s : State) (l : Lane) : State :=
  let u := s.lane l
  let r := s.laneReading l
  if u.barrierA.state = .down ∧ u.barrierX.state = .down ∧ r.status = .valid ∧ r.stable = true ∧ r.loaded = false then
    (((s.releaseDecks l).enter l .idle false).raiseNotice .laneCleared (some l) none 0 0 []).examine
  else s

/-- RETREATING (R81). -/
def State.evalRetreating (s : State) (l : Lane) : State :=
  let u := s.lane l
  let r := s.laneReading l
  if u.eb = false ∧ u.marks.alStage = 2 ∧ r.status = .valid ∧ r.loaded = false then
    let t := (s.askLower l .a).enter l .clearing false
    if s.faulted l .a then t.hold l .barrierFault else t.evalClearing l
  else s

/-- LEAVING (R79): at its last step the lane lowers X, ends its binding and enters CLEARING. -/
def State.evalLeaving (s : State) (l : Lane) : State :=
  if (s.lane l).marks.leavingStep = 4 then
    let t := ((s.askLower l .x).unbind l).enter l .clearing false
    if s.faulted l .x then t.hold l .barrierFault else t.evalClearing l
  else s

/-- The condition of the lane's state is evaluated (R76). -/
def State.evalPassage (s : State) (l : Lane) : State :=
  match (s.lane l).state with
  | .entering => s.evalEntering l
  | .positioning => s.evalPositioning l
  | .leaving => s.evalLeaving l
  | .retreating => s.evalRetreating l
  | .clearing => s.evalClearing l
  | .closed | .idle | .admitting | .onDeck | .weighing | .hold => s

/-- A lane takes a new reading of its deck (R76, R95, R96). -/
def State.takeReading (s : State) (l : Lane) : State :=
  if (s.lane l).state = .weighing then s.evalCapture l else s.evalPassage l

/-- The lanes that watch a deck take its new reading, L0 first. -/
def State.lanesTakeReading (s : State) (d : Deck) : State :=
  Lane.all.foldl (fun t l => if (t.claimed l).contains d then t.takeReading l else t) s

/-! ### Input changes -/

/-- The level of one of the lane's own inputs. -/
def LaneUnit.input (u : LaneUnit) : LaneInput → Bool
  | .al => u.al
  | .eb => u.eb
  | .xb => u.xb
  | .xl => u.xl

/-- `u` with the level of one of its inputs replaced. -/
def LaneUnit.setInput (u : LaneUnit) (i : LaneInput) (broken : Bool) : LaneUnit :=
  match i with
  | .al => { u with al := broken }
  | .eb => { u with eb := broken }
  | .xb => { u with xb := broken }
  | .xl => { u with xl := broken }

/-- The next step of LEAVING after an input change (R79). -/
def nextLeavingStep (step : Nat) (i : LaneInput) (broken : Bool) : Nat :=
  match step, i, broken with
  | 0, .xb, true => 1
  | 1, .xb, false => 2
  | 2, .xl, true => 3
  | 3, .xl, false => 4
  | n, _, _ => n

/-- The AL stage after an input change (R81). -/
def nextAlStage (stage : Nat) (i : LaneInput) (broken : Bool) : Nat :=
  match i, broken with
  | .al, true => 1
  | .al, false => if stage = 1 then 2 else stage
  | _, _ => stage

/-- The reposition mark of ON_DECK at an input change (R93), on a unit that has taken the new level: the mark is set by a
break of EB or XB while the armed flag is clear, and completes, setting the flag, when a change to clear leaves both
clear. -/
def LaneUnit.reposition (u : LaneUnit) (i : LaneInput) (broken : Bool) : LaneUnit :=
  if u.armed ∨ (i ≠ .eb ∧ i ≠ .xb) then u
  else if broken then { u with marks := { u.marks with reposition := true } }
  else if u.marks.reposition = true ∧ u.eb = false ∧ u.xb = false then
    { u with armed := true, marks := { u.marks with reposition := false } }
  else u

/-- The passage marks of state `st` take an input change (R77, R79, R81, R93). -/
def LaneUnit.mark (u : LaneUnit) (st : LaneState) (i : LaneInput) (broken : Bool) : LaneUnit :=
  match st with
  | .entering => { u with marks := { u.marks with ebSeen := u.marks.ebSeen || (decide (i = .eb) && broken) } }
  | .leaving => { u with marks := { u.marks with leavingStep := nextLeavingStep u.marks.leavingStep i broken } }
  | .retreating => { u with marks := { u.marks with alStage := nextAlStage u.marks.alStage i broken } }
  | .onDeck => u.reposition i broken
  | .closed | .idle | .admitting | .positioning | .weighing | .clearing | .hold => u

/-- The state whose marks a lane keeps: its own, or in HOLD its held-from state (R82). -/
def LaneUnit.markState (u : LaneUnit) : LaneState :=
  if u.state = .hold then u.heldFrom.getD .hold else u.state

/-- A lane takes an input change of AL, EB, XB or XL: the level, the marks, and the last refused tag, which AL changing to
clear returns to none (R65). -/
def LaneUnit.takeInput (u : LaneUnit) (i : LaneInput) (broken : Bool) : LaneUnit :=
  let v := (u.setInput i broken).mark u.markState i broken
  if i = .al ∧ broken = false then { v with lastRefused := none } else v

/-! ### Admission -/

/-- What an identity gives (R66): whether it came by a tag arrival, and its fields. A ticket number of 0 is absent. -/
structure Identity where
  byTag : Bool
  tag : Option Tag
  ticket : Nat
  kind : Option Kind
  waste : Option Nat
  account : Option Nat
  hazard : Option Hazard
  deriving DecidableEq, Repr

/-- The identity of a tag arrival. -/
def Identity.ofTag (t : Tag) : Identity where
  byTag := true
  tag := some t
  ticket := 0
  kind := none
  waste := none
  account := none
  hazard := none

/-- The register entry of an identity's vehicle (R114). -/
def State.identityVehicle (s : State) (i : Identity) : Option VehicleData :=
  match i.tag with
  | none => none
  | some t => (s.vehicle? t).map fun v => v.data

/-- The kind the entry would take (R69). -/
def State.admitKind (s : State) (l : Lane) (i : Identity) : Kind :=
  (i.kind <|> (s.identityVehicle i).map fun v => v.kind).getD (s.laneSettings l).defaultKind

/-- The account the entry would take (R69). -/
def State.admitAccount (s : State) (i : Identity) : Nat :=
  (i.account <|> (s.identityVehicle i).map fun v => v.account).getD 0

/-- The waste code of check 9 (R67, R114). -/
def State.admitWaste (s : State) (i : Identity) : Option Nat :=
  i.waste <|> (s.identityVehicle i).bind fun v => v.waste

/-- The lowest unused site slot (R119). -/
def State.freeSiteSlot (s : State) : Option Nat := lowestFree 64 (s.site.entries.map fun e => e.slot)

/-- Whether the site register has a free slot (R119). -/
def State.siteHasRoom (s : State) : Bool :=
  s.freeSiteSlot.isSome && decide (s.tickets.counter + s.site.reserved < max32)

/-- The first failing admission check of an INBOUND lane (R67); `none` when all pass. -/
def State.inboundRefusal (s : State) (l : Lane) (i : Identity) : Option Result :=
  if s.clock.set = false then some .clockUnset
  else if s.conditions.estop.active = true ∨ s.conditions.mainsFail.active = true then some .noAdmit
  else if s.conditions.storeFault.latched = true then some .storeFault
  else if i.byTag = true ∧ (s.identityVehicle i).isNone = true then some .notRegistered
  else if (s.identityVehicle i).any (fun v => v.barred) = true then some .barred
  else if i.tag.any (fun t => (s.siteByTag? t).isSome) = true then some .alreadyOnSite
  else if s.siteHasRoom = false then some .full
  else if s.freeCapacity < 1 then some .journalFull
  else
    match s.admitWaste i with
    | none => some .noWasteCode
    | some w => if s.admitKind l i = .delivery ∧ s.capReached w = true then some .permitCap else none

/-- The OPEN entry an identity finds on an OUTBOUND lane (R68). -/
def State.outboundEntry (s : State) (i : Identity) : Option SiteEntry :=
  s.site.entries.find? fun e =>
    decide (e.state = .opened)
      && (if i.ticket = 0 then i.tag.isSome else decide (e.ticket = i.ticket))
      && i.tag.all (fun t => decide (e.tag = some t))

/-- The first failing admission check of an OUTBOUND lane (R68). -/
def State.outboundRefusal (s : State) (i : Identity) : Option Result :=
  match s.outboundEntry i with
  | none => some .notFound
  | some e =>
    if e.boundLane.isSome then some .bound
    else if s.conditions.estop.active then some .noAdmit
    else none

/-- The admission checks of a lane. -/
def State.admitRefusal (s : State) (l : Lane) (i : Identity) : Option Result :=
  match (s.laneSettings l).direction with
  | .inbound => s.inboundRefusal l i
  | .outbound => s.outboundRefusal i

/-- The RESERVED entry of an INBOUND admission (R69). -/
def State.reservedEntry (s : State) (l : Lane) (i : Identity) : SiteEntry where
  slot := s.freeSiteSlot.getD 0
  state := .reserved
  ticket := 0
  kind := s.admitKind l i
  tag := i.tag
  account := s.admitAccount i
  waste := (s.admitWaste i).getD 0
  hazard := i.hazard
  weighings := []
  boundLane := some l
  ordinal := s.site.nextOrdinal

/-- The entry of an admission is created or bound (R69, R119): the state, and the ticket number ADMITTED carries. -/
def State.bindAdmission (s : State) (l : Lane) (i : Identity) : State × Nat :=
  match (s.laneSettings l).direction with
  | .inbound =>
    ({ s with site := {
        entries := insertSite (s.reservedEntry l i) s.site.entries
        nextOrdinal := if s.site.nextOrdinal < max32 then s.site.nextOrdinal + 1 else s.site.nextOrdinal } }, 0)
  | .outbound =>
    match s.outboundEntry i with
    | none => (s, 0)
    | some e => (s.updateSite e.slot fun x => { x with boundLane := some l }, e.ticket)

/-- An admission (R69): the entry, the claim, ADMITTING, ADMITTED; then the journal-low comparison (R155) and the
examination that a joining claim makes (R72). -/
def State.accept (s : State) (l : Lane) (i : Identity) : State :=
  let b := s.bindAdmission l i
  (((b.1.joinClaim l).enter l .admitting false).raiseNotice .admitted (some l) none b.2 0 []).journalLowCheck.examine

/-- An admission is refused (R69): ADMIT_REFUSED with the reason's result code. -/
def State.refuseAdmission (s : State) (l : Lane) (reason : Result) : State :=
  s.raiseNotice .admitRefused (some l) none 0 reason.toNat []

/-! ### Attendance -/

/-- A lane's attendance ends (R171): the lane looks again at what attendance held back (R88, R94). -/
def State.endAttendance (s : State) (l : Lane) : State :=
  ({ s with attending := s.attending.set l none }).autoCapture l

/-- Every attendance of a station over these lanes ends, L0 first (assumption 15). -/
def State.endAttendances (s : State) (st : Station) (which : State → Lane → Bool) : State :=
  Lane.all.foldl (fun t l => if t.attending.get l = some st ∧ which t l = true then t.endAttendance l else t) s

end Sys2Proof.Machine
end

