-- ==== Sys2Proof/Machine/Calibration.lean ====
section
/-! DEFINITION. The calibration table (02_calibration_zero_and_deck_integrity.md): READ_CAL, ZERO, the staged edit, and the
seal switch. -/

namespace Sys2Proof.Machine

/-- A DECK class request that needs CONTROL, with the deck it names (R165). -/
def deckControl (r : Req) (deck : Byte) (k : Deck → Handler) : Handler :=
  withDeck deck fun d => needControl r.station .yard .deck (k d)

/-! ### READ_CAL and ZERO -/

/-- What READ_CAL reports of the committed record (R36). -/
def DeckCal.committedReport (c : DeckCal) : CalReport where
  record := c.committed
  deckState := c.state
  preEdit := c.preEdit
  matching := some c.committed.intact

/-- What READ_CAL reports of an edit copy (R36). -/
def DeckCal.editReport (c : DeckCal) (e : CalRecord) : CalReport where
  record := e
  deckState := c.state
  preEdit := c.preEdit
  matching := none

/-- READ_CAL (R36), code 12H. -/
def execReadCal (r : Req) (deck copy : Byte) (s : State) : Host.Outcome State Fault Refusal :=
  .next (s.takeRequest r 0x12 false (
    withDeck deck fun d =>
      match copyOfNat? copy.toNat with
      | none => refuse .range
      | some edit =>
        needWatch r.station .yard .deck fun s =>
          let c := (s.deck d).cal
          if edit then
            match c.state, c.edit with
            | .calEdit, some e => (s, .okBody (.calibration (c.editReport e)))
            | _, _ => (s, .plain .wrongState)
          else (s, .okBody (.calibration c.committedReport))))

/-- ZERO is taken (R37, R38). -/
def State.zeroDeck (s : State) (d : Deck) : State :=
  let u := s.deck d
  s.setDeck d { u with
    weight := { u.weight with zero := u.weight.reading.wAvg.getD 0, zeroLimit := false, trackMs := some 0 } }

/-- The first failing check of ZERO (R37). -/
def State.zeroRefusal (s : State) (d : Deck) : Option Result :=
  let u := s.deck d
  if u.cal.state ≠ .inService then some .wrongState
  else if (s.holders.get d).isSome then some .deckClaimed
  else if u.weight.reading.status ≠ .valid then some .status
  else if u.weight.reading.stable = false then some .motion
  else if zeroLimitOf u.cal.committed.capacity < ((u.weight.reading.wAvg.getD 0).natAbs : Int) then some .range
  else none

/-- ZERO (R37), code 13H. -/
def execZero (r : Req) (deck : Byte) (s : State) : Host.Outcome State Fault Refusal :=
  .next (s.takeRequest r 0x13 false (
    deckControl r deck fun d s =>
      match s.zeroRefusal d with
      | some reason => (s, .plain reason)
      | none => (s.zeroDeck d, .plain .ok)))

/-! ### The staged edit -/

/-- An edit is opened (R26). -/
def State.openEdit (s : State) (d : Deck) : State :=
  let u := s.deck d
  s.setDeck d { u with
    cal := { u.cal with state := .calEdit, preEdit := some u.cal.state, edit := some u.cal.committed } }

/-- CAL_OPEN (R26), code 14H. -/
def execCalOpen (r : Req) (deck : Byte) (s : State) : Host.Outcome State Fault Refusal :=
  .next (s.takeRequest r 0x14 false (
    deckControl r deck fun d s =>
      if s.sealOpen = false then (s, .plain .sealClosed)
      else if (s.deck d).cal.state = .calEdit then (s, .plain .wrongState)
      else if (s.holders.get d).isSome then (s, .plain .deckClaimed)
      else (s.openEdit d, .plain .ok)))

/-- The edit copy of a deck in CAL_EDIT. -/
def State.editCopy? (s : State) (d : Deck) : Option CalRecord :=
  if (s.deck d).cal.state = .calEdit then (s.deck d).cal.edit else none

/-- CAL_WRITE (R27), code 15H. Every pair is compared with its set and range first (R165 step 1), and at least one pair is
carried. -/
def execCalWrite (r : Req) (deck : Byte) (pairs : List CalPair) (s : State) : Host.Outcome State Fault Refusal :=
  .next (s.takeRequest r 0x15 false (
    withDeck deck fun d =>
      inRange (!pairs.isEmpty && pairs.all CalPair.ok) (
        needControl r.station .yard .deck fun s =>
          match s.editCopy? d with
          | none => (s, .plain .wrongState)
          | some e =>
            let u := s.deck d
            (s.setDeck d { u with cal := { u.cal with edit := some (pairs.foldl (fun r p => CalPair.write p r) e) } },
              .plain .ok))))

/-- The record a commit makes (R29): the edit copy with the next counter and a fresh checksum. -/
def commitRecord (old edit : CalRecord) : CalRecord :=
  let r := { edit with counter := old.counter + 1 }
  { r with checksum := r.computedChecksum }

/-- The first failing check of CAL_COMMIT on an edit copy (R28, checks 2 to 5). -/
def State.commitRefusal (s : State) (d : Deck) (e : CalRecord) : Option Result :=
  if e.commitOk = false then some .range
  else if e.crossOk = false then some .range
  else if max16 ≤ (s.deck d).cal.committed.counter then some .counterExhausted
  else if s.slotFree = false then some .storeBusy
  else none

/-- CAL_COMMIT is taken (R29): the record, the histories, Z and its flag, the write item, the deck state, CAL_BAD_Dn and the
notice; then the arbiter examines the queues, since the deck is IN_SERVICE (R72). -/
def State.commit (s : State) (d : Deck) (e : CalRecord) : State :=
  let u := s.deck d
  let record := commitRecord u.cal.committed e
  let t := (s.setDeck d { u with
    weight := { u.weight.empty with zero := 0, zeroLimit := false }
    cal := { state := .inService, preEdit := none, committed := record, edit := none } }).enqueue [.calibration d record]
  ((t.deactivate (calBadCondition d)).raiseNotice .calCommitted none (some d) 0 0 [(record.counter : Int)]).examine

/-- CAL_COMMIT (R28, R29), code 16H. -/
def execCalCommit (r : Req) (deck : Byte) (s : State) : Host.Outcome State Fault Refusal :=
  .next (s.takeRequest r 0x16 false (
    deckControl r deck fun d s =>
      match s.editCopy? d with
      | none => (s, .plain .wrongState)
      | some e =>
        match s.commitRefusal d e with
        | some reason => (s, .plain reason)
        | none => (s.commit d e, .plain .ok)))

/-- The edit of a deck in CAL_EDIT is dropped and its pre-edit state returns (R31). -/
def DeckUnit.discardEdit (u : DeckUnit) : DeckUnit :=
  if u.cal.state = .calEdit then
    { u with cal := { u.cal with state := u.cal.preEdit.getD .outOfService, preEdit := none, edit := none } }
  else u

/-- CAL_DISCARD (R31), code 17H. A deck that is IN_SERVICE again lets the arbiter examine its queues (R72). -/
def execCalDiscard (r : Req) (deck : Byte) (s : State) : Host.Outcome State Fault Refusal :=
  .next (s.takeRequest r 0x17 false (
    deckControl r deck fun d s =>
      if (s.deck d).cal.state = .calEdit then ((s.setDeck d (s.deck d).discardEdit).examine, .plain .ok)
      else (s, .plain .wrongState)))

/-! ### The seal switch -/

/-- SEAL_SWITCH_CHANGE (R24, R31, R164): the condition, SEAL_CHANGE routed under the new position, and at a change to SEALED
the edits of both decks discarded and the queues examined. Before the configuration area has been loaded the monitor has
taken no position. -/
def execSealSwitchChange (access : Bool) (s : State) : Host.Outcome State Fault Refusal :=
  .next (
    if s.configLoaded = false ∨ s.sealOpen = access then s
    else if access then s.activateWith .sealAccess fun t => t.raiseNotice .sealChange none none 0 1 []
    else
      let t := s.deactivateWith .sealAccess fun t => t.raiseNotice .sealChange none none 0 0 []
      ({ t with decks := t.decks.map DeckUnit.discardEdit }).examine)

end Sys2Proof.Machine
end

