-- ==== Sys2Proof/Machine/Configuration.lean ====
section
/-! DEFINITION. The configuration groups (R192): CONFIG_READ, and CONFIG_WRITE of each group (R22, R61, R135, R141, R151,
R167, R175). -/

namespace Sys2Proof.Machine

/-- A YARD class request that needs CONTROL (R165). -/
def yardControl (r : Req) (k : Handler) : Handler := needControl r.station .yard .yard k

/-! ### CONFIG_READ -/

/-- The configuration groups by their identifiers (R192). -/
inductive Group where
  | lane (l : Lane)
  | windows (st : Station)
  | levels | caps | rollSecond | verify | sampleTimeout
  deriving DecidableEq, Repr

/-- The group of an identifier (R192). -/
def Group.ofNat? : Nat → Option Group
  | 0x00 => some (.lane .l0)
  | 0x01 => some (.lane .l1)
  | 0x02 => some (.lane .l2)
  | 0x03 => some (.lane .l3)
  | 0x10 => some (.windows .s0)
  | 0x11 => some (.windows .s1)
  | 0x12 => some (.windows .s2)
  | 0x20 => some .levels
  | 0x21 => some .caps
  | 0x22 => some .rollSecond
  | 0x23 => some .verify
  | 0x24 => some .sampleTimeout
  | _ => none

/-- The scope of a group (R165): its lane, or YARD. -/
def Group.scope : Group → Scope
  | .lane l => .lane l
  | .windows _ | .levels | .caps | .rollSecond | .verify | .sampleTimeout => .yard

/-- The class of a group (R165). -/
def Group.cls : Group → Cls
  | .lane _ => .lane
  | .windows _ | .levels | .caps | .rollSecond | .verify | .sampleTimeout => .yard

/-- The bytes of a group as the stored layout gives them, without fill (R192, R144). -/
def Settings.groupBytes (c : Settings) : Group → List Byte
  | .lane l => (c.lanes.get l).groupBytes
  | .windows st => (c.windows.get st).flatMap Window.bytes
  | .levels => c.levelBytes
  | .caps => c.capBytes
  | .rollSecond => natBytes 4 c.rollSecond
  | .verify => natBytes 1 (flagNat c.verify)
  | .sampleTimeout => natBytes 2 c.sampleTimeout.d0 ++ natBytes 2 c.sampleTimeout.d1

/-- CONFIG_READ (R192), code 02H. -/
def execConfigRead (r : Req) (group : Byte) (s : State) : Host.Outcome State Fault Refusal :=
  .next (s.takeRequest r 0x02 false (
    match Group.ofNat? group.toNat with
    | none => refuse .range
    | some g => needWatch r.station g.scope g.cls fun s => (s, .okBody (.group (s.settings.groupBytes g)))))

/-! ### CONFIG_WRITE -/

/-- An accepted write (R192): the working configuration takes new values and one extent, the configuration record as it then
stands, joins the queue. -/
def State.writeSettings (s : State) (c : Settings) : State := { s with settings := c }.enqueueSettings

/-- CONFIG_WRITE of a lane group is taken (R61): the open-at-start setting is left as it stands. -/
def State.writeLane (s : State) (l : Lane) (c : LaneSettings) : State :=
  s.writeSettings { s.settings with
    lanes := s.settings.lanes.set l { c.clamp with openAtStart := (s.laneSettings l).openAtStart } }

/-- CONFIG_WRITE of a lane group (R61, R192), code 03H. -/
def execConfigWriteLane (r : Req) (lane : Lane) (values : LaneGroup) (s : State) : Host.Outcome State Fault Refusal :=
  .next (s.takeRequest r 0x03 false (
    match laneSettingsOf? values with
    | none => refuse .range
    | some c =>
      needControl r.station (.lane lane) .lane fun s =>
        if (s.lane lane).state ≠ .closed then (s, .plain .wrongState)
        else needSlot (fun s => (s.writeLane lane c, .reply .ok (decide (c.clamp ≠ c)) .none)) s))

/-- The windows of all stations with one station's replaced. -/
def State.windowsWith (s : State) (st : Station) (ws : List Window) : PerStation (List Window) :=
  s.settings.windows.set st ws

/-- CONFIG_WRITE of windows is taken (R167): each attendance of the station that the new windows no longer allow ends. -/
def State.writeWindows (s : State) (st : Station) (ws : List Window) : State :=
  (s.writeSettings { s.settings with windows := s.windowsWith st ws }).endAttendances st fun t l =>
    decide (t.decision st (.lane l) .lane ≠ .control)

/-- CONFIG_WRITE of the windows of a station (R167, R192), code 03H. -/
def execConfigWriteWindows (r : Req) (station : Station) (values : List WindowBytes) (s : State) :
    Host.Outcome State Fault Refusal :=
  .next (s.takeRequest r 0x03 false (
    match windowsOf? values with
    | none => refuse .range
    | some ws =>
      yardControl r fun s =>
        if someYardControl (s.windowsWith station ws) = false then (s, .plain .lastControl)
        else needSlot (fun s => (s.writeWindows station ws, .plain .ok)) s))

/-- CONFIG_WRITE of the notice levels (R175, R192), code 03H. The group holds 24 levels. -/
def execConfigWriteNoticeLevels (r : Req) (levels : List Byte) (s : State) : Host.Outcome State Fault Refusal :=
  .next (s.takeRequest r 0x03 false (
    inRange (decide (levels.length = 24)) (
      yardControl r (needSlot fun s =>
        let given := levels.map fun v => v.toNat
        (s.writeSettings { s.settings with levels := given.map clampLevel },
          .reply .ok (decide (given.map clampLevel ≠ given)) .none)))))

/-- The cap notice flags after a write of the caps: a code whose cap takes a new value has its flag cleared (R135, R137). -/
def clearedFlags (old new : List Nat) (flags : List Bool) : List Bool :=
  (flags.zip (old.zip new)).map fun x => x.1 && decide (x.2.1 = x.2.2)

/-- CONFIG_WRITE of the waste caps is taken (R135). -/
def State.writeCaps (s : State) (caps : List Nat) : State :=
  { s with tickets := { s.tickets with capNotice := clearedFlags s.settings.caps caps s.tickets.capNotice } }.writeSettings
    { s.settings with caps := caps }

/-- CONFIG_WRITE of the waste caps (R135, R192), code 03H. The group holds 32 caps, and every value is in range. -/
def execConfigWriteWasteCaps (r : Req) (caps : List (BitVec 32)) (s : State) : Host.Outcome State Fault Refusal :=
  .next (s.takeRequest r 0x03 false (
    inRange (decide (caps.length = 32)) (
      yardControl r (needSlot fun s => (s.writeCaps (caps.map fun v => v.toNat), .plain .ok)))))

/-- CONFIG_WRITE of the roll second (R141, R192), code 03H: the day index is examined. -/
def execConfigWriteRollSecond (r : Req) (value : BitVec 32) (s : State) : Host.Outcome State Fault Refusal :=
  .next (s.takeRequest r 0x03 false (
    yardControl r (needSlot fun s =>
      ((s.writeSettings { s.settings with rollSecond := clampRoll value.toNat }).examineDay,
        .reply .ok (decide (clampRoll value.toNat ≠ value.toNat)) .none))))

/-- CONFIG_WRITE of the verify option (R151, R192), code 03H. -/
def execConfigWriteVerifyOption (r : Req) (value : Byte) (s : State) : Host.Outcome State Fault Refusal :=
  .next (s.takeRequest r 0x03 false (
    match flagOfNat? value.toNat with
    | none => refuse .range
    | some v => yardControl r (needSlot fun s => (s.writeSettings { s.settings with verify := v }, .plain .ok))))

/-- CONFIG_WRITE of the deck sample timeouts (R22, R192), code 03H. A running timer keeps the timeout it started with. -/
def execConfigWriteSampleTimeout (r : Req) (d0 d1 : BitVec 16) (s : State) : Host.Outcome State Fault Refusal :=
  .next (s.takeRequest r 0x03 false (
    yardControl r (needSlot fun s =>
      (s.writeSettings { s.settings with sampleTimeout := { d0 := clampTimeout d0.toNat, d1 := clampTimeout d1.toNat } },
        .reply .ok (decide (clampTimeout d0.toNat ≠ d0.toNat) || decide (clampTimeout d1.toNat ≠ d1.toNat)) .none))))

end Sys2Proof.Machine
end

