-- ==== Sys2Proof/Machine/LaneCommands.lean ====
section
/-! DEFINITION. The station requests of LANE class: READ_LANE_IO, BARRIER, OPEN_LANE, CLOSE_LANE, ADMIT, HOLD, RESUME,
SEND_BACK, LANE_RESET, CAPTURE, ATTEND, ATTEND_END (03_lane_sensors_barriers_and_lights.md,
04_lane_sequence_and_deck_claims.md, 05_weight_capture.md, 09_station_authority.md). -/

namespace Sys2Proof.Machine

/-- A LANE class request that needs CONTROL over the lane it names (R165). -/
def laneControl (r : Req) (lane : Byte) (k : Lane → Handler) : Handler :=
  withLane lane fun l => needControl r.station (.lane l) .lane (k l)

/-! ### READ_LANE_IO -/

/-- What READ_LANE_IO reports (R60). -/
def State.laneIoReport (s : State) (l : Lane) : LaneIoReport where
  al := (s.lane l).al
  eb := (s.lane l).eb
  xb := (s.lane l).xb
  xl := (s.lane l).xl
  red := (s.lane l).red
  green := (s.lane l).green
  a := (s.lane l).barrierA.report
  x := (s.lane l).barrierX.report
  debounce := (s.laneSettings l).debounce
  travel := (s.laneSettings l).travel
  clear := (s.laneSettings l).clear
  lastTag := (s.lane l).tagRx.last
  discarded := (s.lane l).tagRx.discarded

/-- READ_LANE_IO (R60), code 20H. -/
def execReadLaneIo (r : Req) (lane : Byte) (s : State) : Host.Outcome State Fault Refusal :=
  .next (s.takeRequest r 0x20 false (
    withLane lane fun l => needWatch r.station (.lane l) .lane fun s => (s, .okBody (.laneIo (s.laneIoReport l)))))

/-! ### BARRIER -/

/-- A manual BARRIER request (R57): lane and barrier in their sets, the decision, and checks 1 and 2. -/
def barrierRequest (r : Req) (lane barrier : Byte) (k : Lane → BarrierId → Handler) : Handler :=
  withLane lane fun l =>
    match BarrierId.ofNat? barrier.toNat with
    | none => refuse .range
    | some i =>
      needControl r.station (.lane l) .lane fun s =>
        if (s.lane l).state ≠ .hold then (s, .plain .wrongState)
        else if s.estop then (s, .plain .wrongState)
        else k l i s

/-- BARRIER with action RAISE (R57), code 21H. -/
def execBarrierRaise (r : Req) (lane barrier : Byte) (s : State) : Host.Outcome State Fault Refusal :=
  .next (s.takeRequest r 0x21 false (
    barrierRequest r lane barrier fun l i s =>
      if s.faulted l i then (s, .plain .wrongState) else (s.askRaise l i, .plain .ok)))

/-- BARRIER with action LOWER (R57), code 21H. -/
def execBarrierLower (r : Req) (lane barrier : Byte) (s : State) : Host.Outcome State Fault Refusal :=
  .next (s.takeRequest r 0x21 false (
    barrierRequest r lane barrier fun l i s =>
      if s.faulted l i then (s, .plain .wrongState) else (s.askLower l i, .plain .ok)))

/-- `s` with one barrier of a lane replaced. -/
def State.setBarrier (s : State) (l : Lane) (i : BarrierId) (b : Barrier) : State :=
  s.setLane l ((s.lane l).setBarrier i b)

/-- BARRIER with action CLEAR (R57), code 21H. A refusal at check 5 sets the cause to LIMITS. -/
def execBarrierClear (r : Req) (lane barrier : Byte) (s : State) : Host.Outcome State Fault Refusal :=
  .next (s.takeRequest r 0x21 false (
    barrierRequest r lane barrier fun l i s =>
      let b := (s.lane l).barrier i
      if s.faulted l i = false then (s, .plain .wrongState)
      else if b.upLimit && b.downLimit then (s.setBarrier l i { b with cause := some .limits }, .plain .wrongState)
      else (s.setBarrier l i b.cleared, .plain .ok)))

/-! ### OPEN_LANE and CLOSE_LANE -/

/-- Set a lane's open-at-start setting (R62). -/
def State.setOpenAtStart (s : State) (l : Lane) (v : Bool) : State :=
  { s with settings := { s.settings with lanes := s.settings.lanes.set l { s.laneSettings l with openAtStart := v } } }

/-- OPEN_LANE is taken (R62): the setting is stored, the lane enters IDLE and lowers both barriers, and a barrier in FAULT
holds it at once. -/
def State.openLane (s : State) (l : Lane) : State :=
  let t := ((((s.setOpenAtStart l true).enqueueSettings).enter l .idle false).askLower l .a).askLower l .x
  if s.faulted l .a || s.faulted l .x then t.hold l .barrierFault else t

/-- OPEN_LANE (R62), code 22H. -/
def execOpenLane (r : Req) (lane : Byte) (s : State) : Host.Outcome State Fault Refusal :=
  .next (s.takeRequest r 0x22 false (
    laneControl r lane fun l s =>
      if (s.lane l).state ≠ .closed then (s, .plain .wrongState)
      else needSlot (fun s => (s.openLane l, .plain .ok)) s))

/-- CLOSE_LANE is taken (R62, R171). -/
def State.closeLane (s : State) (l : Lane) : State :=
  let t := ((s.setOpenAtStart l false).enqueueSettings).enter l .closed false
  { t with attending := t.attending.set l none }

/-- CLOSE_LANE (R62), code 23H. -/
def execCloseLane (r : Req) (lane : Byte) (s : State) : Host.Outcome State Fault Refusal :=
  .next (s.takeRequest r 0x23 false (
    laneControl r lane fun l s =>
      if (s.lane l).state ≠ .idle then (s, .plain .wrongState)
      else needSlot (fun s => (s.closeLane l, .plain .ok)) s))

/-! ### ADMIT -/

/-- The first case of R66: every field that is given lies in its set or range, and a tag is not all zero. -/
def AdmitFields.ok (f : AdmitFields) : Bool :=
  (f.kind.all fun k => (Kind.ofNat? k.toNat).isSome) && wasteOptOk f.waste && f.hazard.all hazardOk
    && f.tag.all fun t => decide (t ≠ 0)

/-- The identity that ADMIT gives. -/
def AdmitFields.identity (f : AdmitFields) : Identity where
  byTag := false
  tag := f.tag
  ticket := f.ticket.toNat
  kind := f.kind.bind fun k => Kind.ofNat? k.toNat
  waste := f.waste.map fun w => w.toNat
  account := f.account.map fun a => a.toNat
  hazard := f.hazard.map hazardOf

/-- Whether the fields suit the lane's direction (R66, second and third case). -/
def AdmitFields.suits (f : AdmitFields) : Direction → Bool
  | .inbound => decide (f.ticket = 0)
  | .outbound =>
    f.kind.isNone && f.waste.isNone && f.account.isNone && f.hazard.isNone && (f.tag.isSome || decide (f.ticket ≠ 0))

/-- ADMIT (R66 to R69), code 24H. -/
def execAdmit (r : Req) (lane : Byte) (fields : AdmitFields) (s : State) : Host.Outcome State Fault Refusal :=
  .next (s.takeRequest r 0x24 false (
    withLane lane fun l =>
      inRange (AdmitFields.ok fields) (
        needControl r.station (.lane l) .lane fun s =>
          if AdmitFields.suits fields (s.laneSettings l).direction = false then (s, .plain .range)
          else if (s.lane l).state ≠ .idle then (s, .plain .wrongState)
          else if (s.lane l).al = false then (s, .plain .wrongState)
          else
            match s.admitRefusal l (AdmitFields.identity fields) with
            | some reason => (s.refuseAdmission l reason, .plain reason)
            | none => (s.accept l (AdmitFields.identity fields), .plain .accepted))))

/-! ### HOLD, RESUME, SEND_BACK, LANE_RESET -/

/-- The states in which HOLD is accepted (R83): the timed states. -/
def LaneState.timed : LaneState → Bool
  | .admitting | .entering | .positioning | .onDeck | .weighing | .leaving | .retreating | .clearing => true
  | .closed | .idle | .hold => false

/-- HOLD (R83), code 25H. -/
def execHold (r : Req) (lane : Byte) (s : State) : Host.Outcome State Fault Refusal :=
  .next (s.takeRequest r 0x25 false (
    laneControl r lane fun l s =>
      if (s.lane l).state.timed then (s.hold l .station, .plain .ok) else (s, .plain .wrongState)))

/-- The checks of RESUME (R84): the lane is in HOLD, ESTOP is not active, neither barrier is in FAULT, no deck the lane uses
is OUT_OF_SERVICE. -/
def State.resumable (s : State) (l : Lane) : Bool :=
  decide ((s.lane l).state = .hold) && !s.estop && !s.faulted l .a && !s.faulted l .x
    && (s.claimed l).all fun d => decide ((s.deck d).cal.state ≠ .outOfService)

/-- A lane returns to its held-from state (R84). -/
def State.resumeLane (s : State) (l : Lane) : State :=
  match (s.lane l).heldFrom with
  | some .idle => ((s.askLower l .a).askLower l .x).enter l .idle true
  | some .admitting =>
    let t := s.enter l .admitting true
    (if t.hasClaim l then t else t.joinClaim l).examine
  | some .entering => ((s.askRaise l .a).enter l .entering true).evalEntering l
  | some .positioning => ((s.askLowerUnlessDown l).enter l .positioning true).evalPositioning l
  | some .onDeck => (s.askLowerUnlessDown l).enterOnDeck l true
  | some .weighing => (s.askLowerUnlessDown l).enterOnDeck l false
  | some .leaving => (((s.askRaise l .x).askLowerUnlessDown l).enter l .leaving true).evalLeaving l
  | some .retreating => ((s.askRaise l .a).enter l .retreating true).evalRetreating l
  | some .clearing => (((s.askLower l .a).askLower l .x).enter l .clearing true).evalClearing l
  | some .closed | some .hold | none => s

/-- RESUME (R84), code 26H. -/
def execResume (r : Req) (lane : Byte) (s : State) : Host.Outcome State Fault Refusal :=
  .next (s.takeRequest r 0x26 false (
    laneControl r lane fun l s =>
      if s.resumable l then (s.resumeLane l, .plain .ok) else (s, .plain .wrongState)))

/-- The states from which a vehicle can be sent back (R85). -/
def LaneState.returnable : LaneState → Bool
  | .admitting | .entering | .positioning | .onDeck | .weighing => true
  | .closed | .idle | .leaving | .retreating | .clearing | .hold => false

/-- Whether SEND_BACK is accepted (R85). -/
def State.canSendBack (s : State) (l : Lane) : Bool :=
  let u := s.lane l
  if u.state = .hold then
    u.heldFrom.any LaneState.returnable
      && (decide (u.heldFrom = some .admitting) || (!s.estop && !s.faulted l .a))
  else u.state.returnable

/-- An accepted SEND_BACK (R85): from ADMITTING the claim leaves and the lane is IDLE; from elsewhere a capture is abandoned
and the lane retreats. The entry is let go in both. -/
def State.sendBack (s : State) (l : Lane) : State :=
  if (s.lane l).markState = .admitting then (((s.leaveClaim l).dropBinding l).enter l .idle false).examine
  else
    let t := ((((s.abandon l .sentBack).dropBinding l).askRaise l .a).enter l .retreating false)
    if s.faulted l .a then t.hold l .barrierFault else t.evalRetreating l

/-- SEND_BACK (R85), code 27H. -/
def execSendBack (r : Req) (lane : Byte) (s : State) : Host.Outcome State Fault Refusal :=
  .next (s.takeRequest r 0x27 false (
    laneControl r lane fun l s =>
      if s.canSendBack l then (s.sendBack l, .plain .accepted) else (s, .plain .wrongState)))

/-- The checks of LANE_RESET (R86). -/
def State.resettable (s : State) (l : Lane) : Bool :=
  decide ((s.lane l).state = .hold) && !s.estop && !s.faulted l .a && !s.faulted l .x

/-- An accepted LANE_RESET (R86). -/
def State.resetLane (s : State) (l : Lane) : State :=
  (((((s.leaveClaim l).releaseDecks l).dropBinding l).askLower l .a |>.askLower l .x).enter l .idle false).examine

/-- LANE_RESET (R86), code 28H. -/
def execLaneReset (r : Req) (lane : Byte) (s : State) : Host.Outcome State Fault Refusal :=
  .next (s.takeRequest r 0x28 false (
    laneControl r lane fun l s =>
      if s.resettable l then (s.resetLane l, .plain .ok) else (s, .plain .wrongState)))

/-! ### CAPTURE -/

/-- Cases 3 to 6 of R91: whether a mode and a waste code suit the lane and its bound entry. -/
def State.captureSuits (s : State) (l : Lane) (mode : CaptureMode) (code : Option Nat) : Bool :=
  let weighings := ((s.boundEntry? l).map fun e => e.weighings.length).getD 0
  match (s.laneSettings l).direction, mode with
  | .inbound, .first => code.isNone
  | .inbound, _ => false
  | .outbound, .first => false
  | .outbound, .intermediate => decide (weighings < 4)
  | .outbound, .final => decide (weighings < 5)

/-- CAPTURE (R91, R92), code 29H. -/
def execCapture (r : Req) (lane : Byte) (mode waste : Option Byte) (s : State) : Host.Outcome State Fault Refusal :=
  .next (s.takeRequest r 0x29 false (
    withLane lane fun l =>
      inRange ((mode.all fun m => (CaptureMode.ofNat? m.toNat).isSome) && wasteOptOk waste) (
        needControl r.station (.lane l) .lane fun s =>
          let m := (mode.bind fun m => CaptureMode.ofNat? m.toNat).getD (defaultMode (s.laneSettings l).direction)
          let code := waste.map fun w => w.toNat
          if (s.lane l).state ≠ .onDeck then (s, .plain .wrongState)
          else if s.captureSuits l m code = false then (s, .plain .range)
          else (s.beginCapture l m code (some r.station), .plain .accepted))))

/-! ### ATTEND and ATTEND_END -/

/-- ATTEND (R169), code 2AH. A CLOSED lane is attended by none (R171), so its first check and step 3 of R165 do not meet. -/
def execAttend (r : Req) (lane : Byte) (s : State) : Host.Outcome State Fault Refusal :=
  .next (s.takeRequest r 0x2A false (
    laneControl r lane fun l s =>
      if (s.lane l).state = .closed then (s, .plain .wrongState)
      else ({ s with attending := s.attending.set l (some r.station) }, .plain .ok)))

/-- ATTEND_END (R171), code 2BH. -/
def execAttendEnd (r : Req) (lane : Byte) (s : State) : Host.Outcome State Fault Refusal :=
  .next (s.takeRequest r 0x2B false (
    laneControl r lane fun l s =>
      if s.attending.get l = some r.station then (s.endAttendance l, .plain .ok) else (s, .plain .wrongState)))

end Sys2Proof.Machine
end

