-- ==== Sys2Proof/Machine/LaneEvents.lean ====
section
/-! DEFINITION. The events that reach the lanes: tag frames, input changes, barrier and dwell timers, the emergency stop and
mains fail inputs, and the sample arrivals and expiries whose readings the lanes watch
(03_lane_sensors_barriers_and_lights.md, 04_lane_sequence_and_deck_claims.md, 05_weight_capture.md,
01_deck_weight_computation.md). An event that cannot take place in a state (a change to the level already held, an expiry
of a timer that does not run) leaves the state as it is (assumption 20). -/

namespace Sys2Proof.Machine

/-! ### Tag frames -/

/-- Count a discarded tag frame, up to 65,535, and return the receiver to HUNT (R43). -/
def TagReceiver.discard (t : TagReceiver) : TagReceiver :=
  { t with rx := [], discarded := if t.discarded < max16 then t.discarded + 1 else t.discarded }

/-- A discarded tag frame of a lane; frames before the configuration area has been loaded are not counted (R43). -/
def State.discardTagFrame (s : State) (l : Lane) : State :=
  if s.configLoaded then s.setLane l { s.lane l with tagRx := (s.lane l).tagRx.discard } else s

/-- The lane's last tag is recorded (R44). -/
def State.recordTag (s : State) (l : Lane) (t : Tag) : State :=
  s.setLane l { s.lane l with
    tagRx := { (s.lane l).tagRx with rx := [], last := some { tag := t, time := s.clock.count } } }

/-- The 32-bit halves of a tag, as TAG_READ carries them (R188). -/
def tagValues (t : Tag) : List Int := [((t.toNat / 2 ^ 32 : Nat) : Int), ((t.toNat % 2 ^ 32 : Nat) : Int)]

/-- A tag admission (R65, R69): a refused one makes the tag the last refused tag. -/
def State.admitTag (s : State) (l : Lane) (t : Tag) : State :=
  match s.admitRefusal l (Identity.ofTag t) with
  | none => s.accept l (Identity.ofTag t)
  | some reason =>
    let u := s.refuseAdmission l reason
    u.setLane l { u.lane l with lastRefused := some t }

/-- A lane takes a tag arrival (R65). -/
def State.takeTag (s : State) (l : Lane) (t : Tag) : State :=
  let u := s.lane l
  if u.state ≠ .idle then s
  else if (s.attending.get l).isSome then s.raiseNotice .tagRead (some l) none 0 0 (tagValues t)
  else if u.al = false ∨ (s.laneSettings l).tagAdmission = false then s
  else if u.lastRefused = some t then s
  else s.admitTag l t

/-- TAG_ARRIVAL (R44, R65). A frame with an all-zero tag is no tag arrival: it is refused and counted. -/
def execTagArrival (l : Lane) (t : Tag) (s : State) : Host.Outcome State Fault Refusal :=
  .next (
    if s.configLoaded = false then s
    else if t = 0 then s.discardTagFrame l
    else (s.recordTag l t).takeTag l t)

/-- TAG_FRAME_REFUSED (R43, R44). -/
def execTagFrameRefused (l : Lane) (s : State) : Host.Outcome State Fault Refusal := .next (s.discardTagFrame l)

/-- TAG_FRAME_GAP (R43). -/
def execTagFrameGap (l : Lane) (s : State) : Host.Outcome State Fault Refusal := .next (s.discardTagFrame l)

/-! ### Input changes -/

/-- A lane takes an input change (R65, R76, R93): the level and the marks, then the state's condition, and auto-capture when
the armed flag has become set in ON_DECK. -/
def State.takeInput (s : State) (l : Lane) (i : LaneInput) (broken : Bool) : State :=
  let u := s.lane l
  let v := u.takeInput i broken
  let t := s.setLane l v
  if v.armed && !u.armed then t.autoCapture l else t.evalPassage l

/-- LANE_INPUT_CHANGE (R41, R76). -/
def execLaneInputChange (l : Lane) (i : LaneInput) (broken : Bool) (s : State) : Host.Outcome State Fault Refusal :=
  .next (if s.configLoaded = false ∨ (s.lane l).input i = broken then s else s.takeInput l i broken)

/-- A barrier takes an event (R41): what it reports reaches the lane, and the lane's condition is evaluated (R76). -/
def State.barrierEvent (s : State) (l : Lane) (i : BarrierId) (r : BarrierStep) : State :=
  (s.takeBarrier l i r).evalPassage l

/-- The debounced level of a limit. -/
def Barrier.limit (b : Barrier) : Limit → Bool
  | .up => b.upLimit
  | .down => b.downLimit

/-- LIMIT_CHANGE (R49, R50, R52, R54). -/
def execLimitChange (l : Lane) (i : BarrierId) (limit : Limit) (active : Bool) (s : State) :
    Host.Outcome State Fault Refusal :=
  let b := (s.lane l).barrier i
  .next (
    if s.configLoaded = false ∨ b.limit limit = active then s
    else s.barrierEvent l i (b.limitChange (s.laneSettings l).times limit active))

/-- SAFETY_BEAM_CHANGE (R48, R53, R55). -/
def execSafetyBeamChange (l : Lane) (i : BarrierId) (broken : Bool) (s : State) : Host.Outcome State Fault Refusal :=
  let b := (s.lane l).barrier i
  .next (
    if s.configLoaded = false ∨ b.beamBroken = broken then s
    else s.barrierEvent l i (b.beamChange (s.laneSettings l).times (decide ((s.lane l).state = .hold)) broken))

/-! ### Barrier timers -/

/-- CLEAR_DELAY_EXPIRY (R48). -/
def execClearDelayExpiry (l : Lane) (i : BarrierId) (s : State) : Host.Outcome State Fault Refusal :=
  let b := (s.lane l).barrier i
  .next (if b.clearDelay.isSome then s.barrierEvent l i (b.clearExpired (s.laneSettings l).times) else s)

/-- TRAVEL_TIMEOUT (R51). -/
def execTravelTimeout (l : Lane) (i : BarrierId) (s : State) : Host.Outcome State Fault Refusal :=
  let b := (s.lane l).barrier i
  .next (if b.travel.isSome then s.barrierEvent l i (b.enterFault .travel) else s)

/-- LEAVE_LIMIT_EXPIRY (R50). -/
def execLeaveLimitExpiry (l : Lane) (i : BarrierId) (s : State) : Host.Outcome State Fault Refusal :=
  let b := (s.lane l).barrier i
  .next (if b.leaveLimit then s.barrierEvent l i (b.enterFault .limitStuck) else s)

/-! ### Dwell timers -/

/-- DWELL_EXPIRY (R64): the dwell timer of a timed state other than WEIGHING. -/
def execDwellExpiry (l : Lane) (s : State) : Host.Outcome State Fault Refusal :=
  .next (if (s.lane l).dwell.isSome ∧ (s.lane l).state ≠ .weighing then s.hold l .timeout else s)

/-- A capture fails at the settle timeout (R102). -/
def State.settleFailure (s : State) (l : Lane) (c : CaptureContext) : State :=
  let t := ((s.setLane l { s.lane l with capture := none }).captureFailed l c c.pending).enter l .onDeck false
  t.setLane l { t.lane l with armed := false }

/-- SETTLE_TIMEOUT (R102). -/
def execSettleTimeout (l : Lane) (s : State) : Host.Outcome State Fault Refusal :=
  .next (
    match (s.lane l).state, (s.lane l).capture with
    | .weighing, some c => s.settleFailure l c
    | _, _ => s)

/-! ### Emergency stop and mains fail -/

/-- Every barrier of every lane takes the activation of ESTOP (R56). -/
def State.stopBarriers (s : State) : State :=
  { s with lanes := s.lanes.map fun u => { u with barrierA := u.barrierA.estopStop, barrierX := u.barrierX.estopStop } }

/-- Every lane meets the activation of ESTOP, L0 first (R87, R176). -/
def State.holdAll (s : State) : State := Lane.all.foldl (fun t l => t.hold l .estop) s

/-- A notice of the whole yard that shows a new state, 0 or 1. -/
def State.yardNotice (kind : NoticeKind) (detail : Nat) (s : State) : State := s.raiseNotice kind none none 0 detail []

/-- ESTOP_INPUT_CHANGE (R56, R87, R183). Before the configuration area has been loaded the monitor has taken no level. -/
def execEstopInputChange (asserted : Bool) (s : State) : Host.Outcome State Fault Refusal :=
  .next (
    if s.configLoaded = false ∨ s.estop = asserted then s
    else if asserted then ((s.activateWith .estop (State.yardNotice .estopChange 1)).stopBarriers).holdAll
    else s.deactivateWith .estop (State.yardNotice .estopChange 0))

/-- MAINS_FAIL_INPUT_CHANGE (R87, R183). -/
def execMainsFailInputChange (asserted : Bool) (s : State) : Host.Outcome State Fault Refusal :=
  .next (
    if s.configLoaded = false ∨ s.conditions.mainsFail.active = asserted then s
    else if asserted then s.activateWith .mainsFail (State.yardNotice .mainsChange 1)
    else s.deactivateWith .mainsFail (State.yardNotice .mainsChange 0))

/-! ### Readings -/

/-- SAMPLE_ARRIVAL (R2, R76, R95, R38): the deck forms its reading, the lanes that watch it take it, then zero tracking
considers it. -/
def execSampleArrival (d : Deck) (seq : Byte) (cells : List CellSample) (s : State) : Host.Outcome State Fault Refusal :=
  .next (if s.calibrationLoaded then ((s.takeSample d seq.toNat cells).lanesTakeReading d).track d else s)

/-- SAMPLE_TIMER_EXPIRY (R5, R96): a running timer expires. -/
def execSampleTimerExpiry (d : Deck) (s : State) : Host.Outcome State Fault Refusal :=
  .next (
    match (s.deck d).link.timer with
    | .running _ => (s.takeExpiry d).lanesTakeReading d
    | .notStarted | .expired => s)

end Sys2Proof.Machine
end

