-- ==== Sys2Proof/Machine/Notices.lean ====
section
/-! DEFINITION. The requests of the notice dispatcher and the condition monitor (10_notices_and_yard_conditions.md):
FETCH_NOTICE, NOTICE_DONE, SET_NOTICE_MASK, CLEAR_CONDITION, SET_CONDITION_ENABLE. -/

namespace Sys2Proof.Machine

/-- The notice levels, most urgent first. -/
def noticeLevels : List Nat := [1, 2, 3, 4, 5, 6, 7]

/-- A set of levels, ascending and without repeats. -/
def levelSet (p : Nat → Bool) : List Nat := noticeLevels.filter p

/-- `s` with a station's notice state replaced. -/
def State.setNotices (s : State) (st : Station) (n : NoticeState) : State := { s with notices := s.notices.set st n }

/-- The smallest level number of a queue, 7 where it holds none. -/
def mostUrgent (q : List Notice) : Nat := q.foldl (fun m n => min m n.level) 7

/-- The notice that a fetch takes: the oldest at the smallest level number (R178). -/
def NoticeState.next? (n : NoticeState) : Option Notice := n.queue.find? fun q => decide (q.level = mostUrgent n.queue)

/-- The notice state after a notice has been fetched (R178). -/
def NoticeState.fetched (n : NoticeState) (q : Notice) : NoticeState :=
  { n with
    queue := n.queue.eraseP fun x => decide (x.level = mostUrgent n.queue)
    inProgress := levelSet fun v => n.inProgress.contains v || decide (v = q.level)
    overrun := false }

/-- FETCH_NOTICE (R178), code 04H. -/
def execFetchNotice (r : Req) (s : State) : Host.Outcome State Fault Refusal :=
  .next (s.takeRequest r 0x04 false fun s =>
    let n := s.notices.get r.station
    match n.next? with
    | none => (s, .plain .notFound)
    | some q => (s.setNotices r.station (n.fetched q), .okBody (.notice q n.overrun)))

/-- NOTICE_DONE (R179), code 05H. -/
def execNoticeDone (r : Req) (s : State) : Host.Outcome State Fault Refusal :=
  .next (s.takeRequest r 0x05 false fun s =>
    let n := s.notices.get r.station
    match n.inProgress with
    | [] => (s, .plain .notFound)
    | v :: rest => (s.setNotices r.station { n with inProgress := rest }, .okBody (.level v)))

/-- SET_NOTICE_MASK (R180), code 06H. -/
def execSetNoticeMask (r : Req) (levels : List Byte) (s : State) : Host.Outcome State Fault Refusal :=
  .next (s.takeRequest r 0x06 false (
    inRange (levels.all fun v => within 1 7 v.toNat) fun s =>
      (s.setNotices r.station { s.notices.get r.station with
          mask := levelSet fun v => levels.any fun b => decide (b.toNat = v) }, .plain .ok)))

/-- CLEAR_CONDITION (R184), code 07H. -/
def execClearCondition (r : Req) (condition : Byte) (s : State) : Host.Outcome State Fault Refusal :=
  .next (s.takeRequest r 0x07 false (
    match Condition.ofNat? condition.toNat with
    | none => refuse .range
    | some k =>
      needControl r.station .yard .yard fun s =>
        if (s.condition k).active then (s, .plain .stillActive)
        else (s.setCondition k { s.condition k with latched := false }, .plain .ok)))

/-- SET_CONDITION_ENABLE (R185), code 08H. -/
def execSetConditionEnable (r : Req) (condition enable : Byte) (s : State) : Host.Outcome State Fault Refusal :=
  .next (s.takeRequest r 0x08 false (
    match Condition.ofNat? condition.toNat, enableOfNat? enable.toNat with
    | some k, some v =>
      inRange k.hasNotice (
        needControl r.station .yard .yard fun s =>
          (s.setCondition k { s.condition k with enable := v }, .plain .ok))
    | _, _ => refuse .range))

end Sys2Proof.Machine
end

