-- ==== Sys2Proof/Machine/Store.lean ====
section
/-! DEFINITION. The record store engine and the memory port (08_record_store_and_ticket_journal.md, 8.4 to 8.6): the events
of an attempt, STORE_RETRY, and the journal reads of READ_JOURNAL and READ_TICKET. The record memory itself is outside the
part: what is written to it is the extent an attempt writes (`StoreEngine.extent?`, with its address and bytes), and what is
read from it comes with the events. -/

namespace Sys2Proof.Machine

/-! ### Attempts -/

/-- `s` with the engine replaced. -/
def State.setStore (s : State) (e : StoreEngine) : State := { s with store := e }

/-- The current extent (R147). -/
def StoreEngine.extent? (e : StoreEngine) : Option Record :=
  match e.queue, e.current with
  | i :: _, some c => i.extents[c.index]?
  | _, _ => none

/-- The first extent of the head item becomes current, or the engine is IDLE (R147, R148). -/
def StoreEngine.nextItem (e : StoreEngine) : StoreEngine :=
  match e.queue with
  | [] => { e with state := .idle, current := none }
  | _ :: _ => { e with state := .writing, current := some { index := 0, attempt := 1 } }

/-- The end of an attempt: the port is free, and every read then waiting is served before the next attempt (R152). -/
def StoreEngine.freePort (e : StoreEngine) : StoreEngine :=
  { e with attemptOn := false, verifying := false, serving := e.serving ++ e.waiting, waiting := [] }

/-- The pending roll item takes a freed slot, of the kind that was freed (R142, R148). -/
def State.takeFreedSlot (s : State) (reserved : Bool) : State :=
  if s.tickets.rollPending then
    { s with
      tickets := { s.tickets with rollPending := false }
      store := { s.store with
        queue := s.store.queue ++ [{ extents := [.indexTotals s.index], reserved := reserved }] } }
  else s

/-- The head item has been written whole and leaves the queue (R148). -/
def State.itemWritten (s : State) : State :=
  match s.store.queue with
  | [] => s
  | i :: rest =>
    let t := (s.setStore { s.store with queue := rest }).takeFreedSlot i.reserved
    t.setStore t.store.nextItem

/-- An attempt succeeds (R148): the item's next extent, or the end of the item. -/
def State.attemptSucceeds (s0 : State) : State :=
  let s := s0.setStore s0.store.freePort
  match s.store.queue, s.store.current with
  | i :: _, some c =>
    if c.index + 1 < i.extents.length then
      s.setStore { s.store with state := .writing, current := some { index := c.index + 1, attempt := 1 } }
    else s.itemWritten
  | _, _ => s

/-- The area of the current extent, numbered as R188 states. -/
def StoreEngine.areaNat (e : StoreEngine) : Nat := ((e.extent?).map fun r => r.area.toNat).getD 0

/-- STORE_FAULT (R149, R188). -/
def State.storeFaultNotice (cause : FailCause) (s : State) : State :=
  s.raiseNotice .storeFault none none 0 (2 * s.store.areaNat + cause.toNat) []

/-- An attempt fails (R149): again, or FAULT after the third. -/
def State.attemptFails (s0 : State) (cause : FailCause) : State :=
  let s := s0.setStore { s0.store.freePort with lastFailure := some cause }
  match s.store.current with
  | none => s
  | some c =>
    if c.attempt < 3 then
      s.setStore { s.store with state := .writing, current := some { c with attempt := c.attempt + 1 } }
    else (s.setStore { s.store with state := .fault }).activateWith .storeFault (State.storeFaultNotice cause)

/-- Whether the engine may begin an attempt (R147, R152): it is in WRITING with no attempt begun, and the port serves no
read. -/
def StoreEngine.mayBegin (e : StoreEngine) : Bool :=
  decide (e.state = .writing) && !e.attemptOn && e.serving.isEmpty && e.current.isSome

/-- ATTEMPT_START (R147): the attempt takes the port. -/
def execAttemptStart (s : State) : Host.Outcome State Fault Refusal :=
  .next (if s.store.mayBegin then s.setStore { s.store with attemptOn := true } else s)

/-- WRITE_ISSUED (R147): WAIT_READY. -/
def execWriteIssued (s : State) : Host.Outcome State Fault Refusal :=
  .next (if s.store.state = .writing ∧ s.store.attemptOn = true then s.setStore { s.store with state := .waitReady } else s)

/-- STATUS_POLL_BUSY (R148): the engine goes on polling. -/
def execStatusPollBusy (s : State) : Host.Outcome State Fault Refusal := .next s

/-- Whether the engine polls the device (R148). -/
def StoreEngine.polling (e : StoreEngine) : Bool := decide (e.state = .waitReady) && e.attemptOn && !e.verifying

/-- READY_ANSWERED (R148): with verify OFF the attempt succeeds, with verify ON the bytes are read back. -/
def execReadyAnswered (s : State) : Host.Outcome State Fault Refusal :=
  .next (
    if s.store.polling then
      if s.settings.verify then s.setStore { s.store with verifying := true } else s.attemptSucceeds
    else s)

/-- VERIFY_READ_DONE (R148): the bytes read back are compared with the bytes written. -/
def execVerifyReadDone (read : List Byte) (s : State) : Host.Outcome State Fault Refusal :=
  .next (
    if s.store.verifying then
      if (s.store.extent?).map Record.bytes = some read then s.attemptSucceeds else s.attemptFails .compareFailure
    else s)

/-- READY_TIMEOUT (R149). -/
def execReadyTimeout (s : State) : Host.Outcome State Fault Refusal :=
  .next (if s.store.polling then s.attemptFails .readyTimeout else s)

/-- STORE_RETRY (R150), code 0AH: the attempt count becomes 1, and the engine enters WRITING as soon as the port is free. -/
def execStoreRetry (r : Req) (s : State) : Host.Outcome State Fault Refusal :=
  .next (s.takeRequest r 0x0A false (
    needControl r.station .yard .yard fun s =>
      if s.store.state = .fault then
        let first : StoreEngine := { s.store with current := s.store.current.map fun c => { c with attempt := 1 } }
        ((s.setStore first.enterWriting).deactivate .storeFault, .plain .ok)
      else (s, .plain .wrongState)))

/-! ### Journal reads -/

/-- The journal entry of a seq in an extent still in the queue (R152, R156). -/
def StoreEngine.queuedEntry? (e : StoreEngine) (seq : Nat) : Option JournalEntry :=
  (e.queue.flatMap fun i => i.extents).findSome? fun
    | .journal j => if j.seq = seq then some j else none
    | _ => none

/-- One seq of a read, taken from the queue where it stands there. -/
def StoreEngine.readSlot (e : StoreEngine) (seq : Nat) : ReadSlot :=
  { seq := seq, got := (e.queuedEntry? seq).map JournalReport.full }

/-- The reports of a read whose every entry is in hand. -/
def reportsOf (slots : List ReadSlot) : List JournalReport := slots.filterMap fun x => x.got

/-- Whether every entry of a read is in hand. -/
def inHand (slots : List ReadSlot) : Bool := slots.all fun x => x.got.isSome

/-- A group of reads reaches the memory port (R152): in IDLE and FAULT it is served, behind the reads being served; otherwise it
waits for the end of the attempt, begun or to come (assumption 8). -/
def StoreEngine.takeReads (e : StoreEngine) (g : ReadGroup) : StoreEngine :=
  if e.state = .idle ∨ e.state = .fault then { e with serving := e.serving ++ [g] } else { e with waiting := e.waiting ++ [g] }

/-- A read of these seqs is taken (R133, R156): answered now when every entry comes from the queue, deferred otherwise. -/
def readJournalEntries (r : Req) (code : Byte) (seqs : List Nat) (clamped : Bool) : Handler := fun s =>
  let slots := seqs.map s.store.readSlot
  if inHand slots then (s, .reply .ok clamped (.journal (reportsOf slots)))
  else
    (s.setStore (s.store.takeReads {
      station := r.station, code := code, tag := r.tag, clamped := clamped, slots := slots, discard := false }), .deferred)

/-- The count of READ_JOURNAL: 1 to 8, and not beyond next_seq − 1 (R156). -/
def State.readCount (s : State) (seq count : Nat) : Nat := min (clampNat 1 8 count) (s.index.nextSeq - seq)

/-- READ_JOURNAL (R156), code 3DH. -/
def execReadJournal (r : Req) (seq : BitVec 32) (count : Byte) (s : State) : Host.Outcome State Fault Refusal :=
  .next (s.takeRequest r 0x3D false (
    needWatch r.station .yard .ticket fun s =>
      if s.readable seq.toNat = false then (s, .plain .notFound)
      else
        let n := s.readCount seq.toNat count.toNat
        readJournalEntries r 0x3D ((List.range n).map fun i => seq.toNat + i) (decide (n ≠ count.toNat)) s))

/-- READ_TICKET (R133), code 39H. -/
def execReadTicket (r : Req) (ticket : BitVec 32) (s : State) : Host.Outcome State Fault Refusal :=
  .next (s.takeRequest r 0x39 false (
    inRange (decide (ticket ≠ 0)) fun s =>
      needWatch r.station (s.ticketScope ticket.toNat) .ticket (fun s =>
        match s.siteByTicket? ticket.toNat with
        | some e =>
          let secs := sectionsOf e.kind e.weighings
          (s, .okBody (.ticket e secs (totalNet secs)))
        | none =>
          match s.tickets.recent.find? fun p => decide (p.ticket = ticket.toNat) with
          | some p => readJournalEntries r 0x39 [p.seq] false s
          | none => (s, .plain .notFound)) s))

/-- The first entry not in hand takes the record read at its position (R156). -/
def fillSlots (record : List Byte) : List ReadSlot → List ReadSlot
  | [] => []
  | x :: xs =>
    match x.got with
    | some _ => x :: fillSlots record xs
    | none => { x with got := some (journalReport x.seq record) } :: xs

/-- Whether an extent waits for the port to be free of reads before the engine enters WRITING: that of an item which joined an
empty queue (R147), or that of a STORE_RETRY, whose attempt count is 1 (R150). -/
def StoreEngine.awaitsPort (e : StoreEngine) : Bool :=
  (decide (e.state = .idle) && e.current.isSome)
    || (decide (e.state = .fault) && e.current.any fun c => decide (c.attempt = 1))

/-- The reads still to be served once one group has left the port; when none is left, an engine that waits for the port enters
WRITING (R147, R150, R152). -/
def StoreEngine.readsLeft (e : StoreEngine) (gs : List ReadGroup) : StoreEngine :=
  let f := { e with serving := gs }
  if f.awaitsPort then f.enterWriting else f

/-- A group's last read has been served: its response is formed and the marker cleared, unless its port has been reset
(R189, R190). -/
def State.answerReads (s : State) (g : ReadGroup) : State :=
  if g.discard then s
  else (s.respond g.station ⟨g.code, g.tag, .ok, g.clamped, .journal (reportsOf g.slots)⟩).setMarker g.station none

/-- JOURNAL_READ_DONE (R152, R156): the read in progress completes with these bytes. -/
def execJournalReadDone (record : List Byte) (s : State) : Host.Outcome State Fault Refusal :=
  .next (
    match s.store.serving with
    | [] => s
    | g :: gs =>
      let filled := { g with slots := fillSlots record g.slots }
      if inHand filled.slots then (s.setStore (s.store.readsLeft gs)).answerReads filled
      else s.setStore { s.store with serving := filled :: gs })

end Sys2Proof.Machine
end

