-- ==== Sys2Proof/Machine/Ports.lean ====
section
/-! DEFINITION. The station ports (11_station_ports.md): GET_STATUS, unknown requests, frames answered FRAME_ERROR or
abandoned, the port reset, and the end of a response being sent. -/

namespace Sys2Proof.Machine

/-! ### GET_STATUS -/

/-- What GET_STATUS reports of a deck (R193); its state is absent before the calibration area has been loaded. -/
def State.deckStatus (s : State) (d : Deck) : DeckStatusReport where
  state := if s.calibrationLoaded then some (s.deck d).cal.state else none
  status := (s.deck d).weight.reading.status
  holder := s.holders.get d
  queue := s.claims.get d

/-- What GET_STATUS reports of a lane (R63, R90, R193). -/
def State.laneStatus (s : State) (l : Lane) : LaneStatusReport where
  state := (s.lane l).state
  holdReason := (s.lane l).holdReason
  heldFrom := (s.lane l).heldFrom
  bound := (s.boundEntry? l).isSome
  claim := s.hasClaim l
  holding := s.isHolder l
  attending := s.attending.get l
  armed := (s.lane l).armed
  capture := (s.lane l).capture

/-- Whether next_seq and archived_seq are known: from a good index/totals record, or rebuilt after the ring (R158, R159). -/
def State.indexLoaded (s : State) : Bool :=
  decide (6 ≤ s.phase.rank) || (decide (s.phase.rank = 5) && s.startup.indexGood)

/-- Whether the ticket counter is known. -/
def State.counterLoaded (s : State) : Bool := decide (7 ≤ s.phase.rank)

/-- What GET_STATUS reports (R193). -/
def State.statusReport (s : State) : StatusReport where
  family := 0x45
  revision := Config.revision
  phase := s.phase
  conditions := s.conditions
  clock := s.clock
  decks := { d0 := s.deckStatus .d0, d1 := s.deckStatus .d1 }
  lanes := PerLane.ofFn s.laneStatus
  engine := s.store.state
  queued := s.store.queue.length
  reservedFilled := s.store.reservedFilled
  faultArea := if s.store.state = .fault then (s.store.extent?).map Record.area else none
  faultCause := if s.store.state = .fault then s.store.lastFailure else none
  nextSeq := if s.indexLoaded then some s.index.nextSeq else none
  archivedSeq := if s.indexLoaded then some s.index.archivedSeq else none
  freeCapacity := if s.indexLoaded then some s.freeCapacity else none
  counter := if s.counterLoaded then some s.tickets.counter else none

/-- GET_STATUS (R193), code 01H: no decision, in every start-up phase. -/
def execGetStatus (r : Req) (s : State) : Host.Outcome State Fault Refusal :=
  .next (s.takeRequest r 0x01 true fun s => (s, .okBody (.status s.statusReport)))

/-! ### Frames that are no request -/

/-- UNKNOWN_REQUEST (R189): BUSY behind a deferred response, otherwise UNKNOWN_REQUEST, before READY too. -/
def execUnknownRequest (r : Req) (code : Byte) (s0 : State) : Host.Outcome State Fault Refusal :=
  let s := s0.endFrame r.station
  .next (
    if (s.port r.station).full then s
    else s.respond r.station
      ⟨code, r.tag, if (s.port r.station).marker.isSome then .busy else .unknownRequest, false, .none⟩)

/-- The request code that a FRAME_ERROR response carries: 00H for a bad check, the frame's own for a length of 1 (R186). -/
def frameErrorCode : FrameFault → Byte
  | .badCheck => 0
  | .lengthOne code => code

/-- FRAME_ERROR (R186), with tag 00H. The frame is discarded when four responses wait (R189). -/
def execFrameError (st : Station) (fault : FrameFault) (s0 : State) : Host.Outcome State Fault Refusal :=
  let s := s0.endFrame st
  .next (
    if (s.port st).full then s
    else s.respond st ⟨frameErrorCode fault, 0, .frameError, false, .none⟩)

/-- STATION_FRAME_GAP (R186): the frame is abandoned without a response. -/
def execStationFrameGap (st : Station) (s : State) : Host.Outcome State Fault Refusal := .next (s.endFrame st)

/-- STATION_FRAME_BAD_LENGTH (R186): the frame is abandoned without a response. -/
def execStationFrameBadLength (st : Station) (s : State) : Host.Outcome State Fault Refusal := .next (s.endFrame st)

/-! ### Port reset and transmission -/

/-- A group of reads of a station that has reset its port: its result is discarded (R190). -/
def ReadGroup.dropFor (st : Station) (g : ReadGroup) : ReadGroup :=
  { g with discard := g.discard || decide (g.station = st) }

/-- The port's own part of a port reset (R190): the response being sent is completed. -/
def Port.broken (p : Port) : Port := { p with rx := [], marker := none, waiting := [] }

/-- PORT_RESET (R190, R181, R171). The attendances end last: the notices of an auto-capture that this starts join the station's
queue after it has been emptied (assumption 15). -/
def execPortReset (st : Station) (s : State) : Host.Outcome State Fault Refusal :=
  let t := s.setPort st (s.port st).broken
  let t := { t with
    store := { t.store with
      serving := t.store.serving.map (ReadGroup.dropFor st)
      waiting := t.store.waiting.map (ReadGroup.dropFor st) }
    notices := t.notices.set st NoticeState.reset }
  .next (t.endAttendances st fun _ _ => true)

/-- The port after the response being sent has gone (R189): the oldest response waiting begins to be sent. -/
def Port.sent (p : Port) : Port :=
  match p.sending, p.waiting with
  | none, _ => p
  | some _, [] => { p with sending := none }
  | some _, r :: rest => { p with sending := some r, waiting := rest }

/-- RESPONSE_SENT (R189). -/
def execResponseSent (st : Station) (s : State) : Host.Outcome State Fault Refusal :=
  .next (s.setPort st (s.port st).sent)

end Sys2Proof.Machine
end

