-- ==== Sys2Proof/Machine/Register.lean ====
section
/-! DEFINITION. The vehicle register's requests (06_vehicle_register.md): REG_ADD, REG_UPDATE, REG_REMOVE, REG_READ,
REG_FIND. The entries are kept in slot order; readers see them in tag order. -/

namespace Sys2Proof.Machine

/-- A REGISTER class request that needs CONTROL (R165). -/
def registerControl (r : Req) (k : Handler) : Handler := needControl r.station .yard .register k

/-- A barred flag: 00H clear, 01H set. -/
def barredOk (v : Byte) : Bool := within 0 1 v.toNat

/-- A tare as it is set: stamped with the clock (R108). -/
def stampTare (clock : Clock) (t : BitVec 32 × BitVec 16) : Tare :=
  { weight := t.1.toNat, stamp := clock.count, validity := t.2.toNat }

/-! ### REG_ADD -/

/-- Case 1 of R109: the tag and every given value lie in their ranges. -/
def RegFields.ok (tag : Tag) (f : RegFields) : Bool :=
  decide (tag ≠ 0) && f.fleet.all fleetOk && wasteOptOk f.waste && (f.kind.all fun k => (Kind.ofNat? k.toNat).isSome)
    && f.tare.all tareOk && f.barred.all barredOk

/-- The entry that REG_ADD creates, with the defaults of omitted fields (R109). -/
def RegFields.data (clock : Clock) (tag : Tag) (f : RegFields) : VehicleData where
  tag := tag
  fleet := f.fleet.getD []
  account := (f.account.map fun a => a.toNat).getD 0
  waste := f.waste.map fun w => w.toNat
  kind := (f.kind.bind fun k => Kind.ofNat? k.toNat).getD .delivery
  tare := f.tare.map (stampTare clock)
  barred := (f.barred.map fun b => decide (b.toNat = 1)).getD false

/-- The lowest free slot of the register (R109). -/
def State.freeVehicleSlot (s : State) : Option Nat := lowestFree 512 (s.vehicles.map fun v => v.slot)

/-- Insert an entry in slot order. -/
def insertVehicle (e : VehicleEntry) : List VehicleEntry → List VehicleEntry
  | [] => [e]
  | x :: xs => if e.slot < x.slot then e :: x :: xs else x :: insertVehicle e xs

/-- REG_ADD is taken (R109, R116). -/
def State.addVehicle (s : State) (slot : Nat) (v : VehicleData) : State :=
  ({ s with vehicles := insertVehicle { slot := slot, data := v } s.vehicles }).enqueue [.vehicleSlot slot (some v)]

/-- REG_ADD (R109), code 30H. -/
def execRegAdd (r : Req) (tag : Tag) (fields : RegFields) (s : State) : Host.Outcome State Fault Refusal :=
  .next (s.takeRequest r 0x30 false (
    inRange (RegFields.ok tag fields) (
      registerControl r fun s =>
        if (s.vehicle? tag).isSome then (s, .plain .duplicate)
        else
          match s.freeVehicleSlot with
          | none => (s, .plain .full)
          | some slot =>
            if fields.tare.isSome = true ∧ s.clock.set = false then (s, .plain .clockUnset)
            else needSlot (fun s => (s.addVehicle slot (RegFields.data s.clock tag fields), .plain .ok)) s)))

/-! ### REG_UPDATE -/

/-- Whether a change names a field it may change and a value in its range (R110, case 1). -/
def RegChange.ok : RegChange → Bool
  | .fleet v => fleetOk v
  | .account _ => true
  | .waste v => wasteOptOk v
  | .kind v => (Kind.ofNat? v.toNat).isSome
  | .tare v => v.all tareOk
  | .barred v => barredOk v
  | .otherField _ => false

/-- Whether a change sets a tare (R110, case 3). -/
def RegChange.setsTare : RegChange → Bool
  | .tare (some _) => true
  | _ => false

/-- A change applied to an entry (R110). -/
def RegChange.apply (clock : Clock) (d : VehicleData) : RegChange → VehicleData
  | .fleet v => { d with fleet := v }
  | .account v => { d with account := v.toNat }
  | .waste v => { d with waste := v.map fun w => w.toNat }
  | .kind v => { d with kind := (Kind.ofNat? v.toNat).getD d.kind }
  | .tare v => { d with tare := v.map (stampTare clock) }
  | .barred v => { d with barred := decide (v.toNat = 1) }
  | .otherField _ => d

/-- REG_UPDATE is taken (R110, R116): every change in the order given. -/
def State.updateVehicle (s : State) (e : VehicleEntry) (changes : List RegChange) : State :=
  let d := changes.foldl (RegChange.apply s.clock) e.data
  ({ s with vehicles := s.vehicles.map fun (v : VehicleEntry) => if v.slot = e.slot then { v with data := d } else v }).enqueue
    [.vehicleSlot e.slot (some d)]

/-- REG_UPDATE (R110), code 31H. -/
def execRegUpdate (r : Req) (tag : Tag) (changes : List RegChange) (s : State) : Host.Outcome State Fault Refusal :=
  .next (s.takeRequest r 0x31 false (
    inRange (decide (tag ≠ 0) && !changes.isEmpty && changes.all RegChange.ok) (
      registerControl r fun s =>
        match s.vehicle? tag with
        | none => (s, .plain .notFound)
        | some e =>
          if changes.any RegChange.setsTare = true ∧ s.clock.set = false then (s, .plain .clockUnset)
          else needSlot (fun s => (s.updateVehicle e changes, .plain .ok)) s)))

/-! ### REG_REMOVE -/

/-- REG_REMOVE is taken (R111, R116). -/
def State.removeVehicle (s : State) (e : VehicleEntry) : State :=
  ({ s with vehicles := s.vehicles.filter fun v => decide (v.slot ≠ e.slot) }).enqueue [.vehicleSlot e.slot none]

/-- REG_REMOVE (R111), code 32H. -/
def execRegRemove (r : Req) (tag : Tag) (s : State) : Host.Outcome State Fault Refusal :=
  .next (s.takeRequest r 0x32 false (
    inRange (decide (tag ≠ 0)) (
      registerControl r fun s =>
        match s.vehicle? tag with
        | none => (s, .plain .notFound)
        | some e =>
          if (s.siteByTag? tag).isSome then (s, .plain .onSite)
          else needSlot (fun s => (s.removeVehicle e, .plain .ok)) s)))

/-! ### REG_READ and REG_FIND -/

/-- What REG_FIND and REG_READ report of an entry (R112). -/
def State.vehicleReport (s : State) (v : VehicleData) : VehicleReport where
  data := v
  expiry := v.tare.map Tare.expiry
  tareState := tareState s.clock v.tare
  onSite := (s.siteByTag? v.tag).map fun e => (e.state, e.noticeTicket)

/-- Insert an entry's fields in ascending tag order. -/
def insertByTag (v : VehicleData) : List VehicleData → List VehicleData
  | [] => [v]
  | x :: xs => if v.tag < x.tag then v :: x :: xs else x :: insertByTag v xs

/-- The entries of the register in ascending tag order (R107). -/
def State.vehiclesByTag (s : State) : List VehicleData := s.vehicles.foldr (fun v l => insertByTag v.data l) []

/-- REG_READ (R113), code 33H. -/
def execRegRead (r : Req) (after : Tag) (count : Byte) (s : State) : Host.Outcome State Fault Refusal :=
  .next (s.takeRequest r 0x33 false (
    inRange (within 1 8 count.toNat) (
      needWatch r.station .yard .register fun s =>
        let vs := s.vehiclesByTag.filter fun v => decide (after < v.tag)
        (s, .okBody (.vehicles ((vs.take count.toNat).map s.vehicleReport) s.vehicles.length
          (decide (count.toNat < vs.length)))))))

/-- Whether a search names something an entry can hold (R112). -/
def FindKey.ok : FindKey → Bool
  | .tag t => decide (t ≠ 0)
  | .fleet name => decide (name ≠ []) && fleetOk name

/-- The entries a search finds, in ascending tag order (R112). -/
def State.findVehicles (s : State) : FindKey → List VehicleData
  | .tag t => s.vehiclesByTag.filter fun v => decide (v.tag = t)
  | .fleet name => s.vehiclesByTag.filter fun v => decide (v.fleet = name)

/-- The number of matches that the response carries: for a search by fleet reference (R112). -/
def FindKey.matches? (found : Nat) : FindKey → Option Nat
  | .tag _ => none
  | .fleet _ => some found

/-- REG_FIND (R112), code 34H. -/
def execRegFind (r : Req) (key : FindKey) (s : State) : Host.Outcome State Fault Refusal :=
  .next (s.takeRequest r 0x34 false (
    inRange (FindKey.ok key) (
      needWatch r.station .yard .register fun s =>
        match s.findVehicles key with
        | [] => (s, .plain .notFound)
        | v :: vs => (s, .okBody (.vehicle (s.vehicleReport v) (FindKey.matches? (vs.length + 1) key))))))

end Sys2Proof.Machine
end

