-- ==== Sys2Proof/Machine/Startup.lean ====
section
/-! DEFINITION. Yard reset and start-up (08_record_store_and_ticket_journal.md, 8.7; R40, R42, R59, R89, R117, R121, R183,
R186): the loading of each area, recovery and READY. A load event that does not stand next in the order of R157 has no
effect (assumption 20). -/

namespace Sys2Proof.Machine

/-! ### YARD_RESET -/

/-- The line rate of the two rate straps (R186). -/
def rateOf (strap1Low strap0Low : Bool) : LineRate :=
  match strap1Low, strap0Low with
  | false, false => .r19200
  | false, true => .r38400
  | true, false => .r57600
  | true, true => .r115200

/-- YARD_RESET (R157, R186 and the reset clauses of every chapter). The commands that wait outside the part stay. -/
def execYardReset (strap1Low strap0Low : Bool) (s : State) : Host.Outcome State Fault Refusal :=
  .next { State.reset with rate := rateOf strap1Low strap0Low, pending := s.pending }

/-! ### Configuration -/

/-- A condition takes the active state its input shows, without a notice (R183). -/
def CondState.taken (c : CondState) (active : Bool) : CondState := { c with active := active, latched := active }

/-- A lane takes its first debounced levels and its barriers their first states (R42, R59). -/
def LaneUnit.first (u : LaneUnit) (p : LanePins) : LaneUnit :=
  { u with
    al := p.al
    eb := p.eb
    xb := p.xb
    xl := p.xl
    barrierA := Barrier.first p.a
    barrierX := Barrier.first p.x }

/-- A barrier that starts in FAULT raises BARRIER_FAULT and reports to its lane, which is CLOSED (R59, R82). -/
def State.reportFirst (s : State) (l : Lane) (i : BarrierId) : State :=
  match ((s.lane l).barrier i).cause with
  | some c => (s.raiseNotice .barrierFault (some l) none 0 (3 * i.toNat + c.toNat) []).hold l .barrierFault
  | none => s

/-- The configuration is taken, or defaulted with CONFIG_DEFAULTED latched (R158). -/
def State.takeConfiguration (s : State) (record : List Byte) : State :=
  match Settings.ofBytes? record with
  | some c => { s with settings := c }
  | none =>
    ({ s with
      settings := Settings.defaults
      startup := { s.startup with configDefaulted := true } }).latch .configDefaulted

/-- The inputs are taken (R42, R183). -/
def State.takePins (s : State) (p : YardPins) : State :=
  { s with
    conditions := { s.conditions with
      estop := s.conditions.estop.taken p.estop
      mainsFail := s.conditions.mainsFail.taken p.mainsFail
      sealAccess := s.conditions.sealAccess.taken p.sealAccess }
    lanes := PerLane.ofFn fun l => (s.lane l).first (p.lanes.get l) }

/-- CONFIG_AREA_LOADED (R42, R59, R158, R168, R183). Where both barriers of a lane start in FAULT, the notice of A comes before
that of X, an order that R176 leaves open (assumption 15). -/
def execConfigAreaLoaded (record : List Byte) (pins : YardPins) (s : State) : Host.Outcome State Fault Refusal :=
  .next (
    if s.phase = .loading .configuration then
      let t := { (s.takeConfiguration record).takePins pins with phase := .loading .calibration }
      Lane.all.foldl (fun t l => (t.reportFirst l .a).reportFirst l .x) t
    else s)

/-! ### Calibration -/

/-- The checks of a loaded calibration record (R40). -/
def CalRecord.loads (r : CalRecord) : Bool := r.intact && r.loadOk && r.crossOk

/-- A deck takes its loaded record, and its sample timer starts (R6, R40). -/
def State.loadDeck (s : State) (d : Deck) (record : List Byte) : State :=
  let u := s.deck d
  let r := CalRecord.ofBytes record
  let t := s.setDeck d { u with
    link := { u.link with timer := .running (s.settings.sampleTimeout.get d) }
    cal := { state := .inService, preEdit := none, committed := r, edit := none } }
  if r.loads then t else t.deckOut d 1

/-- CALIBRATION_LOADED (R40, R6). Where both records fail, D0 raises its DECK_OUT first; the rules give no order between decks
(DEDUCED, assumption 15). -/
def execCalibrationLoaded (d0 d1 : List Byte) (s : State) : Host.Outcome State Fault Refusal :=
  .next (
    if s.phase = .loading .calibration then
      { (s.loadDeck .d0 d0).loadDeck .d1 d1 with phase := .loading .vehicle }
    else s)

/-! ### Vehicle register -/

/-- A fleet reference as stored: its length and its characters. -/
def storedFleet (bs : List Byte) : List Byte := slice bs 10 (byteAt bs 9)

/-- Whether the tare of a vehicle slot is absent or in its range (R107, R144). -/
def storedTareOk (bs : List Byte) : Bool :=
  decide (natAt bs 27 4 = 0) || (within 20 150000 (natAt bs 27 4) && within 1 365 (natAt bs 35 2))

/-- Whether every field of a vehicle slot lies in its range (R107, R117). -/
def vehicleFieldsOk (bs : List Byte) : Bool :=
  decide (tagAt bs 1 ≠ 0) && decide (byteAt bs 9 ≤ 12) && fleetOk (storedFleet bs) && within 0 32 (byteAt bs 24)
    && within 0 1 (byteAt bs 25) && within 0 1 (byteAt bs 26) && storedTareOk bs

/-- The entry of a vehicle slot record. -/
def vehicleOf (bs : List Byte) : VehicleData where
  tag := tagAt bs 1
  fleet := storedFleet bs
  account := natAt bs 22 2
  waste := if byteAt bs 24 = 0 then none else some (byteAt bs 24)
  kind := (Kind.ofNat? (byteAt bs 25)).getD .delivery
  tare :=
    if natAt bs 27 4 = 0 then none
    else some { weight := natAt bs 27 4, stamp := natAt bs 31 4, validity := natAt bs 35 2 }
  barred := decide (byteAt bs 26 = 1)

/-- Whether the first `n` bytes are all 00H. -/
def zeroBytes (n : Nat) (bs : List Byte) : Bool := (bs.take n).all fun b => decide (b = 0)

/-- What the load of the vehicle register holds on its way from slot 0 upward. -/
structure VehicleLoad where
  slot : Nat
  entries : List VehicleEntry
  dropped : Nat
  deriving DecidableEq, Repr

/-- A slot's record is taken (R117); the entries are held newest slot first on the way. -/
def VehicleLoad.take (a : VehicleLoad) (bs : List Byte) : VehicleLoad :=
  let next := { a with slot := a.slot + 1 }
  if crcGood 38 bs && zeroBytes 38 bs then next
  else if crcGood 38 bs && decide (byteAt bs 0 = 1) && vehicleFieldsOk bs
      && a.entries.all (fun e => decide (e.data.tag ≠ tagAt bs 1)) then
    { next with entries := { slot := a.slot, data := vehicleOf bs } :: a.entries }
  else { next with dropped := a.dropped + 1 }

/-- VEHICLE_REGISTER_LOADED (R117): the 512 slots from slot 0 upward. -/
def execVehicleRegisterLoaded (slots : List (List Byte)) (s : State) : Host.Outcome State Fault Refusal :=
  .next (
    if s.phase = .loading .vehicle then
      let a := slots.foldl VehicleLoad.take { slot := 0, entries := [], dropped := 0 }
      { s with
        vehicles := a.entries.reverse
        startup := { s.startup with vehiclesDropped := a.dropped }
        phase := .loading .site }
    else s)

/-! ### Site register -/

/-- Whether a stored hazard declaration is absent or in its range. -/
def storedHazardOk (bs : List Byte) : Bool := decide (byteAt bs 17 = 0) || within 0 99 (byteAt bs 18)

/-- Whether the stored weighings have a source and a section code that the layout gives (assumption 21). -/
def storedWeighingsOk (bs : List Byte) (n : Nat) : Bool :=
  (List.range n).all fun k => decide (byteAt bs (24 + 13 * k + 3) < 16) && within 0 32 (byteAt bs (24 + 13 * k + 12))

/-- Whether every field of a site slot lies in its range, its tag apart (R118, R121). -/
def siteFieldsOk (bs : List Byte) : Bool :=
  within 0 1 (byteAt bs 5) && wasteOk (byteAt bs 16) && storedHazardOk bs && decide (1 ≤ natAt bs 19 4)
    && within 1 5 (byteAt bs 23) && storedWeighingsOk bs (min (byteAt bs 23) 5)

/-- The entry of a site slot record, with the substitutions of R121, which leave values in range as they are. A tag that a
lower slot has loaded is taken as absent. -/
def siteEntryOf (bs : List Byte) (slot : Nat) (state : SiteState) (tagTaken : Bool) : SiteEntry where
  slot := slot
  state := state
  ticket := natAt bs 1 4
  kind := (Kind.ofNat? (byteAt bs 5)).getD .delivery
  tag := if tagTaken then none else optTagAt bs 6
  account := natAt bs 14 2
  waste := if wasteOk (byteAt bs 16) then byteAt bs 16 else 1
  hazard := if storedHazardOk bs then hazardAt bs 17 else none
  weighings := weighingsAt bs 24 (byteAt bs 23)
  boundLane := none
  ordinal := natAt bs 19 4

/-- What the load of the site register holds on its way from slot 0 upward. -/
structure SiteLoad where
  slot : Nat
  entries : List SiteEntry
  dropped : Nat
  deriving DecidableEq, Repr

/-- Whether a site slot is dropped and counted (R121, R158): an unknown marker or a marker 00H that is no good empty mark;
a ticket number of 0 or of a lower slot; no weighing. -/
def SiteLoad.drops (a : SiteLoad) (bs : List Byte) : Bool :=
  (crcGood 94 bs && decide (byteAt bs 0 ≠ 1)) || decide (byteAt bs 0 = 0)
    || decide (natAt bs 1 4 = 0) || a.entries.any (fun e => decide (e.ticket = natAt bs 1 4))
    || decide (byteAt bs 23 = 0)

/-- A slot's record is taken (R121). -/
def SiteLoad.take (a : SiteLoad) (bs : List Byte) : SiteLoad :=
  let next := { a with slot := a.slot + 1 }
  let tagTaken := decide (tagAt bs 6 ≠ 0) && a.entries.any fun e => decide (e.tag = some (tagAt bs 6))
  if crcGood 94 bs && zeroBytes 94 bs then next
  else if a.drops bs then { next with dropped := a.dropped + 1 }
  else if crcGood 94 bs && siteFieldsOk bs && !tagTaken then
    { next with entries := insertSite (siteEntryOf bs a.slot .opened tagTaken) a.entries }
  else { next with entries := insertSite (siteEntryOf bs a.slot .suspect tagTaken) a.entries }

/-- The next-ordinal value after a load (R119): 1 greater than the largest ordinal, which stays at the end of its range. -/
def nextOrdinalOf (es : List SiteEntry) : Nat := min (es.foldl (fun m e => max m e.ordinal) 0 + 1) max32

/-- SITE_REGISTER_LOADED (R121): the 64 slots from slot 0 upward. -/
def execSiteRegisterLoaded (slots : List (List Byte)) (s : State) : Host.Outcome State Fault Refusal :=
  .next (
    if s.phase = .loading .site then
      let a := slots.foldl SiteLoad.take { slot := 0, entries := [], dropped := 0 }
      { s with
        site := { entries := a.entries, nextOrdinal := nextOrdinalOf a.entries }
        startup := { s.startup with siteDropped := a.dropped }
        phase := .loading .indexTotals }
    else s)

/-! ### Index/totals and journal ring -/

/-- INDEX_TOTALS_LOADED (R158). A record that is not good is rebuilt once the ring has been read. -/
def execIndexTotalsLoaded (record : List Byte) (s : State) : Host.Outcome State Fault Refusal :=
  .next (
    if s.phase = .loading .indexTotals then
      match IndexTotals.ofBytes? record with
      | some t =>
        { s with index := t, startup := { s.startup with indexGood := true }, phase := .loading .journal }
      | none => { s with phase := .loading .journal }
    else s)

/-- The valid entries of the ring, position 0 first (R144, R158). -/
def ringEntries (positions : List (List Byte)) : List JournalEntry :=
  positions.zipIdx.filterMap fun p => validJournalAt p.2 p.1

/-- A rebuilt next_seq (R159). -/
def rebuiltNextSeq (ring : List JournalEntry) : Nat := ring.foldl (fun m e => max m (e.seq + 1)) 0

/-- Whether the journal holds a site entry's ticket number so that it is dropped (R121). -/
def closedBefore (ring : List JournalEntry) (nextSeq : Nat) (e : SiteEntry) : Bool :=
  ring.any fun j => decide (j.ticket = e.ticket) && decide (nextSeq - ringSize ≤ j.seq) && decide (j.seq + 2 ≤ nextSeq)

/-- A rebuilt index/totals record (R159). -/
def rebuiltIndex (ring : List JournalEntry) (siteEntries : Nat) : IndexTotals where
  nextSeq := rebuiltNextSeq ring
  archivedSeq := rebuiltNextSeq ring + siteEntries - ringSize
  lastCredited := ((ring.find? fun j => decide (j.seq + 1 = rebuiltNextSeq ring)).map fun j => j.ticket).getD 0
  storedDay := none
  totals := List.replicate 32 { today := 0, previous := 0 }

/-- The count of entries in a state. -/
def countState (st : SiteState) (es : List SiteEntry) : Nat := (es.filter fun e => decide (e.state = st)).length

/-- The ring has been read (R158): next_seq, the drops of R121, then the rest of a rebuilt index/totals record. -/
def State.takeRing (s : State) (ring : List JournalEntry) : State :=
  let nextSeq := if s.startup.indexGood then s.index.nextSeq else rebuiltNextSeq ring
  let standing := s.site.entries.filter fun e => !closedBefore ring nextSeq e
  { s with
    site := { entries := standing, nextOrdinal := nextOrdinalOf standing }
    index := if s.startup.indexGood then s.index else rebuiltIndex ring standing.length
    startup := { s.startup with
      indexRebuilt := !s.startup.indexGood
      openLoaded := countState .opened standing
      suspectLoaded := countState .suspect standing
      siteDropped := s.startup.siteDropped + (s.site.entries.length - standing.length)
      ring := ring.map fun j => { seq := j.seq, ticket := j.ticket }
      uncredited := ring.find? fun j => decide (j.seq = nextSeq) }
    phase := .loading .counter }

/-- JOURNAL_RING_LOADED (R158, R159, R121): the 4,096 positions from position 0 upward. -/
def execJournalRingLoaded (positions : List (List Byte)) (s : State) : Host.Outcome State Fault Refusal :=
  .next (
    if s.phase = .loading .journal then
      let t := s.takeRing (ringEntries positions)
      if s.startup.indexGood then t else t.latch .recordsRebuilt
    else s)

/-! ### Counter, recovery and READY -/

/-- The largest of a list of ticket numbers, 0 for none. -/
def largest (ns : List Nat) : Nat := ns.foldl max 0

/-- The largest ticket number of the site entries in the working copy, as it stands after the drops of R121 (R122; assumption
28). -/
def State.largestSiteTicket (s : State) : Nat := largest (s.site.entries.map fun e => e.ticket)

/-- The ticket counter as read, or rebuilt (R159). -/
def State.counterRead (s : State) (record : List Byte) : Nat :=
  (counterOf? record).getD (max s.largestSiteTicket (largest (s.startup.ring.map fun n => n.ticket)))

/-- What recovery leaves (R160): the ticket numbers completed by step 1 and released by step 2, 0 for none, and the items to
queue. -/
structure Recovery where
  completed : Nat
  released : Nat
  items : List (List Record)
  deriving DecidableEq, Repr

/-- Step 1 of recovery (R160): an uncredited entry at next_seq is taken as closed. -/
def State.recoverEntry (s : State) : State × Recovery :=
  match s.startup.uncredited with
  | none => (s, { completed := 0, released := 0, items := [] })
  | some j =>
    let index := s.index.close j
    (({ s with index := index }).permitCaps j, { completed := j.ticket, released := 0, items := [[.indexTotals index]] })

/-- Step 2 of recovery (R160): the site entry of the valid entry at next_seq − 1 is released. -/
def State.recoverSlot (s : State) (r : Recovery) : State × Recovery :=
  match s.startup.ring.find? fun n => decide (n.seq + 1 = s.index.nextSeq) with
  | none => (s, r)
  | some n =>
    match s.siteByTicket? n.ticket with
    | none => (s, r)
    | some e => (s.releaseSite e.slot, { r with released := e.ticket, items := r.items ++ [[.siteSlot e.slot none]] })

/-- The repair items of start-up, in order (R161). -/
def State.repairItems (s : State) (counterWritten : Bool) (r : Recovery) : List (List Record) :=
  (if s.startup.configDefaulted then [[.configuration s.settings]] else [])
    ++ (if counterWritten then [[.counter s.tickets.counter]] else [])
    ++ (if s.startup.indexRebuilt then [[.indexTotals s.index]] else [])
    ++ r.items

/-- STARTUP_REPORT (R161, R188). -/
def State.startupReport (s : State) (counterRebuilt : Bool) (r : Recovery) : State :=
  s.raiseNotice .startupReport none none 0
    (flagNat s.startup.configDefaulted + 2 * flagNat counterRebuilt + 4 * flagNat s.startup.indexRebuilt)
    [(s.startup.vehiclesDropped : Int), (s.startup.openLoaded : Int), (s.startup.suspectLoaded : Int),
      (s.startup.siteDropped : Int), (r.completed : Int), (r.released : Int)]

/-- Whether a lane is found occupied or unready when it first opens (R89, second case). -/
def State.occupied (s : State) (l : Lane) : Bool :=
  let u := s.lane l
  let r := s.laneReading l
  u.al || u.eb || u.xb || u.xl || u.barrierA.beamBroken || u.barrierX.beamBroken
    || decide (u.barrierA.state ≠ .down) || decide (u.barrierX.state ≠ .down) || decide (r.status ≠ .valid) || r.loaded

/-- A lane at READY (R89). -/
def State.openAtStart (s : State) (l : Lane) : State :=
  if (s.laneSettings l).openAtStart then
    let t := s.enter l .idle false
    if t.faulted l .a || t.faulted l .x then t.hold l .barrierFault
    else if t.occupied l then t.hold l .startup
    else t
  else s

/-- Recovery and READY (R160, R161, R155, R89), the counter being known; `rebuilt` says whether its record was not good. -/
def State.recoverAndOpen (s : State) (rebuilt counterWritten : Bool) : State :=
  let a := s.recoverEntry
  let b := a.1.recoverSlot a.2
  let t := (b.1.repairItems counterWritten b.2).foldl State.enqueue b.1
  let u := (({ t with phase := .ready }).startupReport rebuilt b.2).journalLowCheck
  Lane.all.foldl State.openAtStart { u with startup := Startup.reset }

/-- COUNTER_LOADED (R158, R122, R159 to R161): the counter is taken, rebuilt where its record is not good, and raised to the
largest ticket number of the site entries; the phase passes through RECOVERING to READY in this event. -/
def execCounterLoaded (record : List Byte) (s : State) : Host.Outcome State Fault Refusal :=
  .next (
    if s.phase = .loading .counter then
      let rebuilt := (counterOf? record).isNone
      let read := s.counterRead record
      let counter := max read s.largestSiteTicket
      let t := { s with phase := .recovering, tickets := { s.tickets with counter := counter } }
      (if rebuilt then t.latch .recordsRebuilt else t).recoverAndOpen rebuilt (rebuilt || decide (counter ≠ read))
    else s)

end Sys2Proof.Machine
end

