-- ==== Sys2Proof/Machine/Dispatch.lean ====
section
/-! DEFINITION. The meaning of every command: one arm per row of spec/opcode_table.json. -/

namespace Sys2Proof.Machine

/-- The effect of a command on everything but the queue of waiting commands. -/
def exec (i : Instr) (s : State) : Host.Outcome State Fault Refusal :=
  match i with
  | .getStatus r => Sys2Proof.Machine.execGetStatus r s
  | .configRead r group => Sys2Proof.Machine.execConfigRead r group s
  | .configWriteLane r lane values => Sys2Proof.Machine.execConfigWriteLane r lane values s
  | .configWriteWindows r station values => Sys2Proof.Machine.execConfigWriteWindows r station values s
  | .configWriteNoticeLevels r levels => Sys2Proof.Machine.execConfigWriteNoticeLevels r levels s
  | .configWriteWasteCaps r caps => Sys2Proof.Machine.execConfigWriteWasteCaps r caps s
  | .configWriteRollSecond r value => Sys2Proof.Machine.execConfigWriteRollSecond r value s
  | .configWriteVerifyOption r value => Sys2Proof.Machine.execConfigWriteVerifyOption r value s
  | .configWriteSampleTimeout r d0 d1 => Sys2Proof.Machine.execConfigWriteSampleTimeout r d0 d1 s
  | .fetchNotice r => Sys2Proof.Machine.execFetchNotice r s
  | .noticeDone r => Sys2Proof.Machine.execNoticeDone r s
  | .setNoticeMask r levels => Sys2Proof.Machine.execSetNoticeMask r levels s
  | .clearCondition r condition => Sys2Proof.Machine.execClearCondition r condition s
  | .setConditionEnable r condition enable => Sys2Proof.Machine.execSetConditionEnable r condition enable s
  | .setClock r value => Sys2Proof.Machine.execSetClock r value s
  | .storeRetry r => Sys2Proof.Machine.execStoreRetry r s
  | .readWeight r selection => Sys2Proof.Machine.execReadWeight r selection s
  | .readRaw r deck => Sys2Proof.Machine.execReadRaw r deck s
  | .readCal r deck copy => Sys2Proof.Machine.execReadCal r deck copy s
  | .zero r deck => Sys2Proof.Machine.execZero r deck s
  | .calOpen r deck => Sys2Proof.Machine.execCalOpen r deck s
  | .calWrite r deck pairs => Sys2Proof.Machine.execCalWrite r deck pairs s
  | .calCommit r deck => Sys2Proof.Machine.execCalCommit r deck s
  | .calDiscard r deck => Sys2Proof.Machine.execCalDiscard r deck s
  | .readLaneIo r lane => Sys2Proof.Machine.execReadLaneIo r lane s
  | .barrierRaise r lane barrier => Sys2Proof.Machine.execBarrierRaise r lane barrier s
  | .barrierLower r lane barrier => Sys2Proof.Machine.execBarrierLower r lane barrier s
  | .barrierClear r lane barrier => Sys2Proof.Machine.execBarrierClear r lane barrier s
  | .openLane r lane => Sys2Proof.Machine.execOpenLane r lane s
  | .closeLane r lane => Sys2Proof.Machine.execCloseLane r lane s
  | .admitVehicle r lane fields => Sys2Proof.Machine.execAdmit r lane fields s
  | .hold r lane => Sys2Proof.Machine.execHold r lane s
  | .resume r lane => Sys2Proof.Machine.execResume r lane s
  | .sendBack r lane => Sys2Proof.Machine.execSendBack r lane s
  | .laneReset r lane => Sys2Proof.Machine.execLaneReset r lane s
  | .capture r lane mode waste => Sys2Proof.Machine.execCapture r lane mode waste s
  | .attend r lane => Sys2Proof.Machine.execAttend r lane s
  | .attendEnd r lane => Sys2Proof.Machine.execAttendEnd r lane s
  | .regAdd r tag fields => Sys2Proof.Machine.execRegAdd r tag fields s
  | .regUpdate r tag changes => Sys2Proof.Machine.execRegUpdate r tag changes s
  | .regRemove r tag => Sys2Proof.Machine.execRegRemove r tag s
  | .regRead r after count => Sys2Proof.Machine.execRegRead r after count s
  | .regFind r key => Sys2Proof.Machine.execRegFind r key s
  | .readSite r after count => Sys2Proof.Machine.execReadSite r after count s
  | .readTicket r ticket => Sys2Proof.Machine.execReadTicket r ticket s
  | .voidTicket r ticket reason => Sys2Proof.Machine.execVoidTicket r ticket reason s
  | .editTicket r ticket changes => Sys2Proof.Machine.execEditTicket r ticket changes s
  | .readTotals r => Sys2Proof.Machine.execReadTotals r s
  | .readJournal r seq count => Sys2Proof.Machine.execReadJournal r seq count s
  | .archive r n => Sys2Proof.Machine.execArchive r n s
  | .unknownRequest r code => Sys2Proof.Machine.execUnknownRequest r code s
  | .frameError station fault => Sys2Proof.Machine.execFrameError station fault s
  | .stationFrameGap station => Sys2Proof.Machine.execStationFrameGap station s
  | .portReset station => Sys2Proof.Machine.execPortReset station s
  | .journalReadDone record => Sys2Proof.Machine.execJournalReadDone record s
  | .sampleArrival deck seq cells => Sys2Proof.Machine.execSampleArrival deck seq cells s
  | .cellFrameRefused deck => Sys2Proof.Machine.execCellFrameRefused deck s
  | .cellFrameGap deck => Sys2Proof.Machine.execCellFrameGap deck s
  | .sampleTimerExpiry deck => Sys2Proof.Machine.execSampleTimerExpiry deck s
  | .tagArrival lane tag => Sys2Proof.Machine.execTagArrival lane tag s
  | .tagFrameRefused lane => Sys2Proof.Machine.execTagFrameRefused lane s
  | .tagFrameGap lane => Sys2Proof.Machine.execTagFrameGap lane s
  | .laneInputChange lane input broken => Sys2Proof.Machine.execLaneInputChange lane input broken s
  | .limitChange lane barrier limit active => Sys2Proof.Machine.execLimitChange lane barrier limit active s
  | .safetyBeamChange lane barrier broken => Sys2Proof.Machine.execSafetyBeamChange lane barrier broken s
  | .clearDelayExpiry lane barrier => Sys2Proof.Machine.execClearDelayExpiry lane barrier s
  | .travelTimeout lane barrier => Sys2Proof.Machine.execTravelTimeout lane barrier s
  | .leaveLimitExpiry lane barrier => Sys2Proof.Machine.execLeaveLimitExpiry lane barrier s
  | .dwellExpiry lane => Sys2Proof.Machine.execDwellExpiry lane s
  | .settleTimeout lane => Sys2Proof.Machine.execSettleTimeout lane s
  | .estopInputChange asserted => Sys2Proof.Machine.execEstopInputChange asserted s
  | .mainsFailInputChange asserted => Sys2Proof.Machine.execMainsFailInputChange asserted s
  | .sealSwitchChange access => Sys2Proof.Machine.execSealSwitchChange access s
  | .clockTick => Sys2Proof.Machine.execClockTick s
  | .yardReset strap1Low strap0Low => Sys2Proof.Machine.execYardReset strap1Low strap0Low s
  | .configAreaLoaded record pins => Sys2Proof.Machine.execConfigAreaLoaded record pins s
  | .calibrationLoaded d0 d1 => Sys2Proof.Machine.execCalibrationLoaded d0 d1 s
  | .vehicleRegisterLoaded slots => Sys2Proof.Machine.execVehicleRegisterLoaded slots s
  | .siteRegisterLoaded slots => Sys2Proof.Machine.execSiteRegisterLoaded slots s
  | .indexTotalsLoaded record => Sys2Proof.Machine.execIndexTotalsLoaded record s
  | .journalRingLoaded positions => Sys2Proof.Machine.execJournalRingLoaded positions s
  | .counterLoaded record => Sys2Proof.Machine.execCounterLoaded record s
  | .attemptStart => Sys2Proof.Machine.execAttemptStart s
  | .writeIssued => Sys2Proof.Machine.execWriteIssued s
  | .statusPollBusy => Sys2Proof.Machine.execStatusPollBusy s
  | .readyAnswered => Sys2Proof.Machine.execReadyAnswered s
  | .verifyReadDone read => Sys2Proof.Machine.execVerifyReadDone read s
  | .readyTimeout => Sys2Proof.Machine.execReadyTimeout s
  | .cellFrameBadCount deck => Sys2Proof.Machine.execCellFrameBadCount deck s
  | .stationFrameBadLength station => Sys2Proof.Machine.execStationFrameBadLength station s
  | .responseSent station => Sys2Proof.Machine.execResponseSent station s

end Sys2Proof.Machine
end

