-- ==== Sys2Proof/Machine/Receivers.lean ====
section
/-! DEFINITION. The receivers of the serial inputs, byte by byte (R1, R43, R186): HUNT and COLLECT. No row of the table is a
byte, so these are not commands: they say how a byte on a line changes a receiver and which command a complete frame puts
behind the commands that wait. The gaps between bytes (5 ms, 20 ms) are the commands CELL_FRAME_GAP, TAG_FRAME_GAP and
STATION_FRAME_GAP. -/

namespace Sys2Proof.Machine

/-- What a receiver holds after a byte, and the command a frame that has come to its end gives. -/
structure Collected where
  rx : List Byte
  command : Option Instr
  deriving DecidableEq, Repr

/-- The receiver goes on collecting. -/
def Collected.more (rx : List Byte) : Collected := { rx := rx, command := none }

/-- The receiver returns to HUNT with a command. -/
def Collected.done (i : Instr) : Collected := { rx := [], command := some i }

/-- HUNT discards every byte but the start byte. -/
def huntFor (start b : Byte) : Collected := if b = start then .more [b] else .more []

/-- A byte on a cell link (R1). The third byte is the cell count n; a frame has 5 + 4n bytes. -/
def collectCell (d : Deck) (rx : List Byte) (b : Byte) : Collected :=
  if rx = [] then huntFor 0xC3 b
  else
    let all := rx ++ [b]
    if all.length < 3 then .more all
    else if byteAt all 2 = 0 ∨ 8 < byteAt all 2 then .done (.cellFrameBadCount d)
    else if all.length < 5 + 4 * byteAt all 2 then .more all
    else .done (Decode.cellFrame d all)

/-- A byte on a tag reader input (R43). A frame has 11 bytes. -/
def collectTag (l : Lane) (rx : List Byte) (b : Byte) : Collected :=
  if rx = [] then huntFor 0x3C b
  else
    let all := rx ++ [b]
    if all.length < 11 then .more all else .done (Decode.tagFrame l all)

/-- A byte on a station port (R186). The second byte is the length L; a frame has L + 4 bytes. -/
def collectStation (st : Station) (rx : List Byte) (b : Byte) : Collected :=
  if rx = [] then huntFor 0xA5 b
  else
    let all := rx ++ [b]
    if byteAt all 1 = 0 ∨ 250 < byteAt all 1 then .done (.stationFrameBadLength st)
    else if all.length < byteAt all 1 + 4 then .more all
    else .done (Decode.stationFrame st all)

/-- `s` with a command, where there is one, behind those that wait. -/
def State.await (s : State) (c : Option Instr) : State := { s with pending := s.pending ++ c.toList }

/-- A byte arrives on a deck's cell link; before the calibration area has been loaded it is discarded (R6). -/
def State.cellByte (s : State) (d : Deck) (b : Byte) : State :=
  if s.calibrationLoaded then
    let u := s.deck d
    let c := collectCell d u.link.rx b
    (s.setDeck d { u with link := { u.link with rx := c.rx } }).await c.command
  else s

/-- A byte arrives on a lane's tag reader input; before the configuration area has been loaded it is discarded (R43). -/
def State.tagByte (s : State) (l : Lane) (b : Byte) : State :=
  if s.configLoaded then
    let u := s.lane l
    let c := collectTag l u.tagRx.rx b
    (s.setLane l { u with tagRx := { u.tagRx with rx := c.rx } }).await c.command
  else s

/-- A byte arrives on a station port's receive line (R186). -/
def State.stationByte (s : State) (st : Station) (b : Byte) : State :=
  let c := collectStation st (s.port st).rx b
  (s.setPort st { s.port st with rx := c.rx }).await c.command

end Sys2Proof.Machine
end

