-- ==== Sys2Proof/Machine/Wire.lean ====
section
/-! DEFINITION. The bytes of a response frame (11.2, R187, R188, R191): what a station port sends for a response it holds.
The manual gives the order of the fields and the width of most of them; a width it does not give is the smallest whole
number of bytes that holds the range (PRESUMED, assumption 27). -/

namespace Sys2Proof.Machine.Wire

/-! ### Fields -/

/-- One byte. -/
def one (n : Nat) : List Byte := natBytes 1 n

/-- A flag, a yes or no, or a level: 01H for yes, set, broken or active, 00H otherwise. Where no record stores it this is the
model's choice (assumption 42). -/
def flag (b : Bool) : List Byte := one (flagNat b)

/-- A weight or a net: signed 32 bits, the low four bytes of a value beyond them (assumption 48). -/
def weight (v : Int) : List Byte := intBytes 4 v

/-- Grams: signed 64 bits, the low eight bytes of a value beyond them (assumption 48). -/
def grams (v : Int) : List Byte := intBytes 8 v

/-- An unsigned 32-bit value. -/
def long (n : Nat) : List Byte := natBytes 4 n

/-- An account, a calibration counter, a count of discarded frames. -/
def short (n : Nat) : List Byte := natBytes 2 n

/-- An optional field behind its presence byte. Fields that are absent together stand behind one presence byte, which is the
model's choice (assumption 45). -/
def optional {α : Type} (f : α → List Byte) : Option α → List Byte
  | none => [0]
  | some a => 1 :: f a

/-- A list behind its count byte. -/
def listed {α : Type} (f : α → List Byte) (l : List α) : List Byte := one l.length ++ l.flatMap f

/-- A lane or deck of a notice: FFH for none. -/
def orNone (n : Option Nat) : List Byte := one (n.getD 0xFF)

/-! ### Bodies -/

/-- A condition: active, latched, enable. -/
def condition (c : CondState) : List Byte := flag c.active ++ flag c.latched ++ flag c.enable

/-- The ten conditions in the order of R182. -/
def conditions (c : Conditions) : List Byte :=
  condition c.estop ++ condition c.mainsFail ++ condition c.sealAccess ++ condition c.storeFault ++ condition c.cellLink0
    ++ condition c.cellLink1 ++ condition c.calBad0 ++ condition c.calBad1 ++ condition c.configDefaulted
    ++ condition c.recordsRebuilt

/-- A lane as a byte. -/
def lane (l : Lane) : List Byte := one l.toNat

/-- A deck of GET_STATUS. -/
def deckStatus (d : DeckStatusReport) : List Byte :=
  optional (fun x => one (DeckState.toNat x)) d.state ++ one d.status.toNat ++ optional lane d.holder ++ listed lane d.queue

/-- A capture of GET_STATUS: mode, origin, pending reason. -/
def capture (c : CaptureContext) : List Byte := one c.mode.toNat ++ one (originNat c.origin) ++ one c.pending.toNat

/-- A lane of GET_STATUS. -/
def laneStatus (l : LaneStatusReport) : List Byte :=
  one l.state.toNat ++ optional (fun x => one (HoldReason.toNat x)) l.holdReason
    ++ optional (fun x => one (LaneState.toNat x)) l.heldFrom ++ flag l.bound ++ flag l.claim ++ flag l.holding
    ++ optional (fun x => one (Station.toNat x)) l.attending ++ flag l.armed ++ optional capture l.capture

/-- GET_STATUS (R193). -/
def status (r : StatusReport) : List Byte :=
  [r.family, r.revision] ++ one r.phase.toNat ++ conditions r.conditions ++ long r.clock.count ++ flag r.clock.set
    ++ deckStatus r.decks.d0 ++ deckStatus r.decks.d1
    ++ laneStatus r.lanes.l0 ++ laneStatus r.lanes.l1 ++ laneStatus r.lanes.l2 ++ laneStatus r.lanes.l3
    ++ one r.engine.toNat ++ one r.queued ++ flag r.reservedFilled ++ optional (fun x => one (Area.toNat x)) r.faultArea
    ++ optional (fun x => one (FailCause.toNat x)) r.faultCause ++ optional long r.nextSeq ++ optional long r.archivedSeq
    ++ optional weight r.freeCapacity ++ optional long r.counter

/-- FETCH_NOTICE (R187). -/
def notice (n : Notice) (overrun : Bool) : List Byte :=
  one n.kind.toNat ++ one n.level ++ orNone (n.lane.map Lane.toNat) ++ orNone (n.deck.map Deck.toNat) ++ long n.ticket
    ++ one n.detail ++ listed weight n.values ++ long n.time ++ flag overrun

/-- READ_WEIGHT of a deck (R20, R16). -/
def weightReport (r : WeightReport) : List Byte :=
  weight r.reading.w ++ one r.reading.status.toNat ++ flag r.reading.stable ++ flag r.reading.centreZero
    ++ optional grams r.reading.wRaw ++ optional grams r.reading.wAvg ++ optional grams r.reading.wG ++ grams r.zero
    ++ short r.reading.calCounter ++ optional long r.reading.time ++ one r.filterCount ++ one r.stabilityCount
    ++ one r.deckState.toNat ++ flag r.zeroLimit

/-- A deck of READ_WEIGHT for BOTH. -/
def deckBrief (b : DeckBrief) : List Byte := weight b.w ++ one b.status.toNat ++ flag b.stable

/-- READ_WEIGHT for BOTH (R20). A Max_c that two damaged committed records, held as read (R40), carry beyond 32 bits is sent by
its low four bytes; R20 and R187 say nothing of it (DESIGN CHOICE, assumption 48). -/
def coupled (r : CoupledReading) (d0 d1 : DeckBrief) : List Byte :=
  weight r.w ++ one r.status.toNat ++ flag r.stable ++ short r.counter0 ++ short r.counter1 ++ optional grams r.wG
    ++ one r.division ++ long r.capacity ++ deckBrief d0 ++ deckBrief d1

/-- A cell of READ_RAW. -/
def cell (c : CellSample) : List Byte := intBytes 3 c.raw.toInt ++ [c.status]

/-- READ_RAW (R21): sequence number, cells behind their count, time. Before the first arrival R21 gives the cell count 0 and no
cells; the sequence number and the time are then sent as 0, without a presence byte (assumption 43). -/
def raw (r : RawReport) : List Byte :=
  (match r.frame with
    | none => [0, 0] ++ long 0
    | some f => one f.seq ++ listed cell f.cells ++ long f.time)
    ++ one r.cellCount ++ short r.discarded ++ flag r.expired

/-- READ_CAL (R36). -/
def calibration (r : CalReport) : List Byte :=
  r.record.body ++ short r.record.checksum.toNat ++ one r.deckState.toNat
    ++ optional (fun x => one (DeckState.toNat x)) r.preEdit ++ optional flag r.matching

/-- The three inputs of a barrier. -/
def barrierInputs (b : BarrierReport) : List Byte := flag b.upLimit ++ flag b.downLimit ++ flag b.beamBroken

/-- The two outputs of a barrier. -/
def barrierOutputs (b : BarrierReport) : List Byte := flag b.raiseOut ++ flag b.lowerOut

/-- A barrier of READ_LANE_IO. -/
def barrier (b : BarrierReport) : List Byte :=
  one b.state.toNat ++ optional (fun x => one (FaultCause.toNat x)) b.cause ++ flag b.lowerPending ++ one b.reversals
    ++ flag b.settled

/-- READ_LANE_IO (R60). The last tag and its clock value stand behind one presence byte, which is the model's choice
(assumption 45). -/
def laneIo (r : LaneIoReport) : List Byte :=
  flag r.al ++ flag r.eb ++ flag r.xb ++ flag r.xl ++ barrierInputs r.a ++ barrierInputs r.x ++ barrierOutputs r.a
    ++ barrierOutputs r.x ++ flag r.red ++ flag r.green ++ barrier r.a ++ barrier r.x ++ short r.debounce ++ one r.travel
    ++ one r.clear ++ optional (fun t : LastTag => tagBytes t.tag ++ long t.time) r.lastTag ++ short r.discarded

/-- A hazard declaration. -/
def hazard (h : Hazard) : List Byte := one h.code ++ one h.containers

/-- A tare of a register report: weight, time stamp, validity, and its expiry, formed exactly (R108, R112). -/
def tare (t : Tare) : List Byte := weight t.weight ++ long t.stamp ++ short t.validity ++ natBytes 5 t.expiry

/-- An entry of REG_FIND and REG_READ (R112). -/
def vehicle (r : VehicleReport) : List Byte :=
  tagBytes r.data.tag ++ listed (fun c : Byte => [c]) r.data.fleet ++ short r.data.account ++ optional one r.data.waste
    ++ one r.data.kind.toNat ++ optional tare r.data.tare ++ flag r.data.barred ++ one r.tareState.toNat
    ++ optional (fun x : SiteState × Nat => one x.1.toNat ++ long x.2) r.onSite

/-- An entry of READ_SITE (R132). -/
def siteReport (r : SiteReport) : List Byte :=
  one r.state.toNat ++ long r.ordinal ++ long r.ticket ++ one r.kind.toNat ++ optTagBytes r.tag ++ short r.account
    ++ one r.waste ++ optional hazard r.hazard ++ one r.weighings
    ++ optional (fun x : Nat × Nat => weight x.1 ++ long x.2) r.lastWeighing ++ optional lane r.boundLane

/-- The calibration counters of a weighing, first and second, each an optional field: none for STORED_TARE, one for a single
deck, two for COUPLED (R98, R101; assumption 40). A source code that only a SUSPECT entry can hold sends both as stored. -/
def counters (w : Weighing) : List Byte :=
  match w.source with
  | .storedTare => optional short none ++ optional short none
  | .deck0 | .deck1 => optional short (some w.counter0) ++ optional short none
  | .coupled | .unknown _ => optional short (some w.counter0) ++ optional short (some w.counter1)

/-- A weighing in full (R98): the section code, held as 0 where it is absent, is an optional field. -/
def weighing (w : Weighing) : List Byte :=
  weight w.weight ++ one w.source.toNat ++ lane w.lane ++ long w.time ++ counters w ++ optional one (if w.sectionCode = 0 then none else some w.sectionCode)

/-- A section. -/
def ticketSection (x : TicketSection) : List Byte := weight x.net ++ one x.code

/-- READ_TICKET of a site entry: every field of R118, the sections and the total net (R133). -/
def ticket (e : SiteEntry) (secs : List TicketSection) (total : Int) : List Byte :=
  one e.state.toNat ++ long e.ticket ++ one e.kind.toNat ++ optTagBytes e.tag ++ short e.account ++ one e.waste
    ++ optional hazard e.hazard ++ listed weighing e.weighings ++ optional lane e.boundLane ++ long e.ordinal
    ++ listed ticketSection secs ++ weight total

/-- An entry of READ_JOURNAL: 00H, the entry, its sections and total net; or 01H DAMAGED and the seq (R156). The void reason is
present with VOID alone (R129). That a byte 00H or 01H tells a full entry from a DAMAGED one, and that READ_TICKET of a closed
ticket sends the counted list of READ_JOURNAL, is the model's choice (assumption 41). -/
def journalEntry : JournalReport → List Byte
  | .full e =>
    [0] ++ long e.seq ++ long e.ticket ++ one e.close.toNat ++ optional one (if e.close = .void then some e.voidReason else none)
      ++ one e.kind.toNat ++ optTagBytes e.tag
      ++ short e.account ++ optional hazard e.hazard ++ listed weighing e.weighings ++ listed ticketSection (sectionsOf e.kind e.weighings)
      ++ weight (totalNet (sectionsOf e.kind e.weighings)) ++ long e.closeTime
  | .damaged seq => [1] ++ long seq

/-- READ_TOTALS (R138). -/
def totals (r : TotalsReport) : List Byte :=
  (r.lines.flatMap fun x => long x.cap ++ long x.today ++ long x.previous ++ flag x.capNotice) ++ long r.counter
    ++ optional weight r.storedDay ++ optional weight r.currentDay ++ long r.rollSecond ++ long r.lastCredited

/-- The body of a response. The number of matches of REG_FIND, which only a search by fleet reference carries (R112), is sent without
a presence byte, and nothing stands in its place after a search by tag, which is the model's choice (assumption 46). -/
def body : RespBody → List Byte
  | .none => []
  | .status r => status r
  | .group bs => bs
  | .notice n o => notice n o
  | .level n => one n
  | .weight r => weightReport r
  | .coupled r d0 d1 => coupled r d0 d1
  | .raw r => raw r
  | .calibration r => calibration r
  | .laneIo r => laneIo r
  | .vehicle r found => vehicle r ++ (match found with
    | none => []
    | some n => short n)
  | .vehicles rs total more => listed vehicle rs ++ short total ++ flag more
  | .site rs total reserved suspect more =>
    listed siteReport rs ++ one total ++ one reserved ++ one suspect ++ flag more
  | .ticket e secs total => ticket e secs total
  | .journal rs => listed journalEntry rs
  | .totals r => totals r

/-- The result byte: the code, and the CLAMPED flag in the top bit (R187). -/
def resultByte (r : Response) : List Byte := one (r.result.toNat + 128 * flagNat r.clamped)

/-- The bytes a port sends for a response (11.2): start, length of two bytes, code, tag, result, body, check over the length
to the body. -/
def frame (r : Response) : List Byte :=
  let content := [r.code, r.tag] ++ resultByte r ++ body r.body
  0x5A :: withCrc (natBytes 2 content.length ++ content)

end Sys2Proof.Machine.Wire
end

