-- ==== Sys2Proof/WellFormed.lean ====
section
/-! DEFINITION. The well-formed commands: what the wire, the memory port and the pins can deliver. A command that is not
well-formed is none that the part can receive. Values that a station may send outside their sets are well-formed: the
machine refuses them (R165, R187). -/

namespace Sys2Proof

/-- The codes that a request has (11.6). -/
def requestCodes : List Nat :=
  [0x01, 0x02, 0x03, 0x04, 0x05, 0x06, 0x07, 0x08, 0x09, 0x0A, 0x10, 0x11, 0x12, 0x13, 0x14, 0x15, 0x16, 0x17, 0x20, 0x21,
    0x22, 0x23, 0x24, 0x25, 0x26, 0x27, 0x28, 0x29, 0x2A, 0x2B, 0x30, 0x31, 0x32, 0x33, 0x34, 0x38, 0x39, 0x3A, 0x3B, 0x3C,
    0x3D, 0x3E]

/-- `n` records of `size` bytes each. -/
def recordsOk (n size : Nat) (records : List (List Byte)) : Bool :=
  decide (records.length = n) && records.all fun r => decide (r.length = size)

/-- A lane group as the wire delivers it has eight dwell limits (R64, R144). -/
def LaneGroup.wf (g : LaneGroup) : Bool := decide (g.dwell.length = 8)

/-- The fields of ADMIT as the wire delivers them: an all-zero tag is no tag (R187). -/
def AdmitFields.wf (f : AdmitFields) : Bool := f.tag.all fun t => decide (t ≠ 0)

/-- Whether the part can receive a command. The fields of a request whose body is malformed mean nothing and are not
checked. -/
def Instr.wf : Instr → Bool
  | .configWriteLane r _ g => !r.bodyOk || g.wf
  | .configWriteWindows r _ ws => !r.bodyOk || decide (ws.length = 8)
  | .configWriteNoticeLevels r vs => !r.bodyOk || decide (vs.length = 24)
  | .configWriteWasteCaps r vs => !r.bodyOk || decide (vs.length = 32)
  | .setNoticeMask r vs => !r.bodyOk || decide (vs.length < 256)
  | .calWrite r _ ps => !r.bodyOk || decide (ps.length < 256)
  | .admitVehicle r _ f => !r.bodyOk || f.wf
  | .regUpdate r _ cs => !r.bodyOk || decide (cs.length < 256)
  | .editTicket r _ cs => !r.bodyOk || decide (cs.length < 256)
  | .unknownRequest _ code => !requestCodes.contains code.toNat
  | .journalReadDone b => decide (b.length = 96)
  | .sampleArrival _ _ cells => decide (1 ≤ cells.length) && decide (cells.length ≤ 8)
  | .tagArrival _ t => decide (t ≠ 0)
  | .configAreaLoaded b _ => decide (b.length = 512)
  | .calibrationLoaded b0 b1 => decide (b0.length = 64) && decide (b1.length = 64)
  | .vehicleRegisterLoaded bs => recordsOk 512 40 bs
  | .siteRegisterLoaded bs => recordsOk 64 96 bs
  | .indexTotalsLoaded b => decide (b.length = 275)
  | .journalRingLoaded bs => recordsOk 4096 96 bs
  | .counterLoaded b => decide (b.length = 6)
  | .getStatus _ | .configRead _ _ | .configWriteRollSecond _ _ | .configWriteVerifyOption _ _
  | .configWriteSampleTimeout _ _ _ | .fetchNotice _ | .noticeDone _ | .clearCondition _ _ | .setConditionEnable _ _ _
  | .setClock _ _ | .storeRetry _ | .readWeight _ _ | .readRaw _ _ | .readCal _ _ _ | .zero _ _ | .calOpen _ _
  | .calCommit _ _ | .calDiscard _ _ | .readLaneIo _ _ | .barrierRaise _ _ _ | .barrierLower _ _ _ | .barrierClear _ _ _
  | .openLane _ _ | .closeLane _ _ | .hold _ _ | .resume _ _ | .sendBack _ _ | .laneReset _ _ | .capture _ _ _ _
  | .attend _ _ | .attendEnd _ _ | .regAdd _ _ _ | .regRemove _ _ | .regRead _ _ _ | .regFind _ _ | .readSite _ _ _
  | .readTicket _ _ | .voidTicket _ _ _ | .readTotals _ | .readJournal _ _ _ | .archive _ _ | .frameError _ _
  | .stationFrameGap _ | .portReset _ | .cellFrameRefused _ | .cellFrameGap _ | .sampleTimerExpiry _
  | .tagFrameRefused _ | .tagFrameGap _ | .laneInputChange _ _ _ | .limitChange _ _ _ _ | .safetyBeamChange _ _ _
  | .clearDelayExpiry _ _ | .travelTimeout _ _ | .leaveLimitExpiry _ _ | .dwellExpiry _ | .settleTimeout _
  | .estopInputChange _ | .mainsFailInputChange _ | .sealSwitchChange _ | .clockTick | .yardReset _ _ | .attemptStart
  | .writeIssued | .statusPollBusy | .readyAnswered | .verifyReadDone _ | .readyTimeout | .cellFrameBadCount _
  | .stationFrameBadLength _ | .responseSent _ => true

end Sys2Proof
end

