-- ==== Sys2Proof/Machine/Step.lean ====
section
/-! DEFINITION. One step of the part: the command at the front of the queue is taken; with no command waiting, a millisecond
passes. -/

namespace Sys2Proof.Machine

/-- A millisecond passes in a deck weight unit: the interval of zero tracking runs on (R38). -/
def DeckUnit.tick (u : DeckUnit) : DeckUnit := { u with weight := { u.weight with trackMs := trackTick u.weight.trackMs } }

/-- A millisecond passes and nothing is commanded (DESIGN CHOICE, assumption 5). Only the interval of zero tracking (R38)
counts here: every other timer of the part ends in a command of the table. -/
def State.idle (s : State) : State := { s with decks := s.decks.map DeckUnit.tick }

/-- Take the command at the front of the queue; with an empty queue a millisecond passes. -/
def step (s : State) : Host.Outcome State Fault Refusal :=
  match s.pending with
  | [] => .next s.idle
  | c :: rest => exec c { s with pending := rest }

/-- `s` with the command that a word spells in front of its queue; unchanged where the word spells none. -/
def State.withFetchWord (s : State) (nbits w : Nat) : State :=
  match decodeTableWord nbits w with
  | none => s
  | some c => { s with pending := c :: s.pending }

end Sys2Proof.Machine
end

