-- ==== Sys2Proof/Safety.lean ====
section
/-! DEFINITION. What counts as safe, and the words the statements about the machine are written in: when a request reaches
its block, what answering it changes, and the properties that every step keeps. -/

namespace Sys2Proof

/-- The station request of a command, with the code it arrives under; `none` for an event and for a frame that is no request
with a known code. -/
def Instr.request? : Instr → Option (Req × Byte)
  | .getStatus r => some (r, 0x01)
  | .configRead r _ => some (r, 0x02)
  | .configWriteLane r _ _ => some (r, 0x03)
  | .configWriteWindows r _ _ => some (r, 0x03)
  | .configWriteNoticeLevels r _ => some (r, 0x03)
  | .configWriteWasteCaps r _ => some (r, 0x03)
  | .configWriteRollSecond r _ => some (r, 0x03)
  | .configWriteVerifyOption r _ => some (r, 0x03)
  | .configWriteSampleTimeout r _ _ => some (r, 0x03)
  | .fetchNotice r => some (r, 0x04)
  | .noticeDone r => some (r, 0x05)
  | .setNoticeMask r _ => some (r, 0x06)
  | .clearCondition r _ => some (r, 0x07)
  | .setConditionEnable r _ _ => some (r, 0x08)
  | .setClock r _ => some (r, 0x09)
  | .storeRetry r => some (r, 0x0A)
  | .readWeight r _ => some (r, 0x10)
  | .readRaw r _ => some (r, 0x11)
  | .readCal r _ _ => some (r, 0x12)
  | .zero r _ => some (r, 0x13)
  | .calOpen r _ => some (r, 0x14)
  | .calWrite r _ _ => some (r, 0x15)
  | .calCommit r _ => some (r, 0x16)
  | .calDiscard r _ => some (r, 0x17)
  | .readLaneIo r _ => some (r, 0x20)
  | .barrierRaise r _ _ => some (r, 0x21)
  | .barrierLower r _ _ => some (r, 0x21)
  | .barrierClear r _ _ => some (r, 0x21)
  | .openLane r _ => some (r, 0x22)
  | .closeLane r _ => some (r, 0x23)
  | .admitVehicle r _ _ => some (r, 0x24)
  | .hold r _ => some (r, 0x25)
  | .resume r _ => some (r, 0x26)
  | .sendBack r _ => some (r, 0x27)
  | .laneReset r _ => some (r, 0x28)
  | .capture r _ _ _ => some (r, 0x29)
  | .attend r _ => some (r, 0x2A)
  | .attendEnd r _ => some (r, 0x2B)
  | .regAdd r _ _ => some (r, 0x30)
  | .regUpdate r _ _ => some (r, 0x31)
  | .regRemove r _ => some (r, 0x32)
  | .regRead r _ _ => some (r, 0x33)
  | .regFind r _ => some (r, 0x34)
  | .readSite r _ _ => some (r, 0x38)
  | .readTicket r _ => some (r, 0x39)
  | .voidTicket r _ _ => some (r, 0x3A)
  | .editTicket r _ _ => some (r, 0x3B)
  | .readTotals r => some (r, 0x3C)
  | .readJournal r _ _ => some (r, 0x3D)
  | .archive r _ => some (r, 0x3E)
  | .unknownRequest _ _ | .frameError _ _ | .stationFrameGap _ | .portReset _ | .journalReadDone _ | .sampleArrival _ _ _
  | .cellFrameRefused _ | .cellFrameGap _ | .sampleTimerExpiry _ | .tagArrival _ _ | .tagFrameRefused _ | .tagFrameGap _
  | .laneInputChange _ _ _ | .limitChange _ _ _ _ | .safetyBeamChange _ _ _ | .clearDelayExpiry _ _ | .travelTimeout _ _
  | .leaveLimitExpiry _ _ | .dwellExpiry _ | .settleTimeout _ | .estopInputChange _ | .mainsFailInputChange _
  | .sealSwitchChange _ | .clockTick | .yardReset _ _ | .configAreaLoaded _ _ | .calibrationLoaded _ _
  | .vehicleRegisterLoaded _ | .siteRegisterLoaded _ | .indexTotalsLoaded _ | .journalRingLoaded _ | .counterLoaded _
  | .attemptStart | .writeIssued | .statusPollBusy | .readyAnswered | .verifyReadDone _ | .readyTimeout
  | .cellFrameBadCount _ | .stationFrameBadLength _ | .responseSent _ => none

/-- Whether a command is GET_STATUS, the one request taken in every start-up phase (R193). -/
def Instr.isGetStatus : Instr → Bool
  | .getStatus _ => true
  | _ => false

namespace Machine

/-! ### Requests and answers -/

/-- The station's port can take a frame: fewer than four formed responses wait, and no response is deferred (R189). -/
abbrev State.Listens (s : State) (st : Station) : Prop := (s.port st).waiting.length < 4 ∧ (s.port st).marker = none

/-- A request reaches the block that owns it (R189, R187): the port listens, start-up is READY, the body holds exactly the
request's fields. -/
abbrev State.Takes (s : State) (r : Req) : Prop := s.Listens r.station ∧ s.phase = .ready ∧ r.bodyOk = true

/-- A request that needs CONTROL reaches its own checks (R165 steps 2 and 3, R170). -/
abbrev State.Controls (s : State) (r : Req) (scope : Scope) (cls : Cls) : Prop :=
  s.Takes r ∧ s.decision r.station scope cls = .control
    ∧ ((cls = .lane ∨ cls = .ticket) → s.attendedByOther r.station scope = false)

/-- A request that needs WATCH reaches its own checks (R165 step 2). -/
abbrev State.Watches (s : State) (r : Req) (scope : Scope) (cls : Cls) : Prop :=
  s.Takes r ∧ s.decision r.station scope cls ≠ .none

/-- The station ports once a request has been answered: the station's receiver is back in HUNT, and one more response is
formed on its port (R189). -/
def State.reply (s : State) (r : Req) (code : Byte) (result : Result) (clamped : Bool) (body : RespBody) : PerStation Port :=
  s.ports.set r.station (({ s.port r.station with rx := [] } : Port).form ⟨code, r.tag, result, clamped, body⟩)

/-- `s` with a request answered and nothing else changed. -/
def State.answered (s : State) (r : Req) (code : Byte) (result : Result) (clamped : Bool) (body : RespBody) : State :=
  { s with ports := s.reply r code result clamped body }

/-- `s` with a request refused: the response alone (R191: a refusal changes nothing). -/
def State.refusedWith (s : State) (r : Req) (code : Byte) (result : Result) : State := s.answered r code result false .none

/-- `s` with a request answered OK without a body and nothing else changed. -/
def State.okayed (s : State) (r : Req) (code : Byte) : State := s.answered r code .ok false .none

/-- `t` with OK answered to a request, `t` being what its block made of the state it heard the request in. -/
def State.acked (t : State) (r : Req) (code : Byte) : State := t.respond r.station ⟨code, r.tag, .ok, false, .none⟩

/-- `s` as a block that takes a request finds it: the station's receiver is back in HUNT. -/
def State.heard (s : State) (st : Station) : State := s.endFrame st

end Machine

open Machine in
/-- The access, scope and class that a request needs (R165, the table); `none` for an event, for the four requests taken
without a decision, and for a request whose lane, deck or group lies outside its set. -/
def Instr.needs? (s : State) : Instr → Option (Access × Scope × Cls)
  | .configRead _ g => (Group.ofNat? g.toNat).map fun g => (.watch, g.scope, g.cls)
  | .configWriteLane _ l _ => some (.control, .lane l, .lane)
  | .configWriteWindows _ _ _ | .configWriteNoticeLevels _ _ | .configWriteWasteCaps _ _ | .configWriteRollSecond _ _
  | .configWriteVerifyOption _ _ | .configWriteSampleTimeout _ _ _ | .clearCondition _ _ | .setConditionEnable _ _ _
  | .setClock _ _ | .storeRetry _ => some (.control, .yard, .yard)
  | .readWeight _ _ | .readRaw _ _ | .readCal _ _ _ => some (.watch, .yard, .deck)
  | .zero _ _ | .calOpen _ _ | .calWrite _ _ _ | .calCommit _ _ | .calDiscard _ _ => some (.control, .yard, .deck)
  | .readLaneIo _ b => (Lane.ofNat? b.toNat).map fun l => (.watch, .lane l, .lane)
  | .barrierRaise _ b _ | .barrierLower _ b _ | .barrierClear _ b _ | .openLane _ b | .closeLane _ b
  | .admitVehicle _ b _ | .hold _ b | .resume _ b | .sendBack _ b | .laneReset _ b | .capture _ b _ _ | .attend _ b
  | .attendEnd _ b => (Lane.ofNat? b.toNat).map fun l => (.control, .lane l, .lane)
  | .regAdd _ _ _ | .regUpdate _ _ _ | .regRemove _ _ => some (.control, .yard, .register)
  | .regRead _ _ _ | .regFind _ _ => some (.watch, .yard, .register)
  | .readSite _ _ _ | .readTotals _ | .readJournal _ _ _ => some (.watch, .yard, .ticket)
  | .readTicket _ n => some (.watch, s.ticketScope n.toNat, .ticket)
  | .voidTicket _ n _ | .editTicket _ n _ => some (.control, s.ticketScope n.toNat, .ticket)
  | .archive _ _ => some (.control, .yard, .ticket)
  | .getStatus _ | .fetchNotice _ | .noticeDone _ | .setNoticeMask _ _ | .unknownRequest _ _ | .frameError _ _
  | .stationFrameGap _ | .portReset _ | .journalReadDone _ | .sampleArrival _ _ _ | .cellFrameRefused _ | .cellFrameGap _
  | .sampleTimerExpiry _ | .tagArrival _ _ | .tagFrameRefused _ | .tagFrameGap _ | .laneInputChange _ _ _
  | .limitChange _ _ _ _ | .safetyBeamChange _ _ _ | .clearDelayExpiry _ _ | .travelTimeout _ _ | .leaveLimitExpiry _ _
  | .dwellExpiry _ | .settleTimeout _ | .estopInputChange _ | .mainsFailInputChange _ | .sealSwitchChange _ | .clockTick
  | .yardReset _ _ | .configAreaLoaded _ _ | .calibrationLoaded _ _ | .vehicleRegisterLoaded _ | .siteRegisterLoaded _
  | .indexTotalsLoaded _ | .journalRingLoaded _ | .counterLoaded _ | .attemptStart | .writeIssued | .statusPollBusy
  | .readyAnswered | .verifyReadDone _ | .readyTimeout | .cellFrameBadCount _ | .stationFrameBadLength _
  | .responseSent _ => none

open Machine in
/-- Whether every value that a request carries lies in its own set or range: step 1 of R165, which comes before the decision
(R187; a ticket number of 0, an empty list of changes or pairs, and the bounds of ARCHIVE: log entry 14). True of an event and
of a request without such a value. -/
def Instr.inSets (s : State) : Instr → Bool
  | .configRead _ g => (Group.ofNat? g.toNat).isSome
  | .configWriteLane _ _ v => (laneSettingsOf? v).isSome
  | .configWriteWindows _ _ v => (windowsOf? v).isSome
  | .configWriteNoticeLevels _ v => decide (v.length = 24)
  | .configWriteWasteCaps _ v => decide (v.length = 32)
  | .configWriteVerifyOption _ v => decide (v.toNat < 2)
  | .setNoticeMask _ v => v.all fun b => decide (1 ≤ b.toNat ∧ b.toNat ≤ 7)
  | .clearCondition _ k => decide (k.toNat < 10)
  | .setConditionEnable _ k v => decide (k.toNat ∈ [0, 1, 2, 3, 6, 7] ∧ v.toNat < 2)
  | .readWeight _ d => decide (d.toNat < 3)
  | .readRaw _ d | .zero _ d | .calOpen _ d | .calCommit _ d | .calDiscard _ d => decide (d.toNat < 2)
  | .readCal _ d v => decide (d.toNat < 2 ∧ v.toNat < 2)
  | .calWrite _ d v => decide (d.toNat < 2 ∧ v ≠ []) && v.all CalPair.ok
  | .readLaneIo _ l | .openLane _ l | .closeLane _ l | .hold _ l | .resume _ l | .sendBack _ l | .laneReset _ l
  | .attend _ l | .attendEnd _ l => decide (l.toNat < 4)
  | .barrierRaise _ l b | .barrierLower _ l b | .barrierClear _ l b => decide (l.toNat < 4 ∧ b.toNat < 2)
  | .admitVehicle _ l v => decide (l.toNat < 4) && AdmitFields.ok v
  | .capture _ l m w => decide (l.toNat < 4) && (m.all fun b => decide (b.toNat < 3)) && wasteOptOk w
  | .regAdd _ tag v => RegFields.ok tag v
  | .regUpdate _ tag v => decide (tag ≠ 0 ∧ v ≠ []) && v.all RegChange.ok
  | .regRemove _ tag => decide (tag ≠ 0)
  | .regRead _ _ n => decide (1 ≤ n.toNat ∧ n.toNat ≤ 8)
  | .regFind _ k => FindKey.ok k
  | .readSite _ _ n => decide (1 ≤ n.toNat ∧ n.toNat ≤ 4)
  | .readTicket _ n | .voidTicket _ n _ => decide (n ≠ 0)
  | .editTicket _ n v => decide (n ≠ 0 ∧ v ≠ []) && v.all TicketChange.ok
  | .archive _ n => decide (s.index.archivedSeq ≤ n.toNat ∧ n.toNat ≤ s.index.nextSeq)
  | .getStatus _ | .configWriteRollSecond _ _ | .configWriteSampleTimeout _ _ _ | .fetchNotice _ | .noticeDone _
  | .setClock _ _ | .storeRetry _ | .readTotals _ | .readJournal _ _ _ | .unknownRequest _ _ | .frameError _ _
  | .stationFrameGap _ | .portReset _ | .journalReadDone _ | .sampleArrival _ _ _ | .cellFrameRefused _ | .cellFrameGap _
  | .sampleTimerExpiry _ | .tagArrival _ _ | .tagFrameRefused _ | .tagFrameGap _ | .laneInputChange _ _ _
  | .limitChange _ _ _ _ | .safetyBeamChange _ _ _ | .clearDelayExpiry _ _ | .travelTimeout _ _ | .leaveLimitExpiry _ _
  | .dwellExpiry _ | .settleTimeout _ | .estopInputChange _ | .mainsFailInputChange _ | .sealSwitchChange _ | .clockTick
  | .yardReset _ _ | .configAreaLoaded _ _ | .calibrationLoaded _ _ | .vehicleRegisterLoaded _ | .siteRegisterLoaded _
  | .indexTotalsLoaded _ | .journalRingLoaded _ | .counterLoaded _ | .attemptStart | .writeIssued | .statusPollBusy
  | .readyAnswered | .verifyReadDone _ | .readyTimeout | .cellFrameBadCount _ | .stationFrameBadLength _
  | .responseSent _ => true

namespace Machine

/-! ### Notices -/

/-- The notice that an event of `s` forms (R173): its level is the one its kind has now, its time the clock count. -/
def State.notice (s : State) (kind : NoticeKind) (lane : Option Lane) (deck : Option Deck) (ticket detail : Nat)
    (values : List Int) : Notice where
  kind := kind
  level := s.settings.levels.getD kind.toNat 7
  lane := lane
  deck := deck
  ticket := ticket
  detail := detail
  values := values
  time := s.clock.count

/-- The stations' notice states once these notices have been raised in this order (R166, R176, R177): each joins the queue of
every station whose decision for its scope and class is not NONE. -/
def State.announced (s : State) (ns : List Notice) : PerStation NoticeState :=
  PerStation.ofFn fun st =>
    ns.foldl (fun q n => if s.decision st (scopeOf n.lane) n.kind.cls = .none then q else q.join n) (s.notices.get st)

/-- The write queue once an item of these extents has joined it in an ordinary slot (R145, R147). -/
def State.queuedWith (s : State) (extents : List Record) : StoreEngine := s.store.join { extents := extents, reserved := false }

/-- `s` with a CONFIG_WRITE accepted (R192): the working configuration is `c`, the configuration record as it then stands has
joined the write queue, and OK is answered. -/
def State.wrote (s : State) (r : Req) (c : Settings) (clamped : Bool) : State :=
  { s with settings := c, store := s.queuedWith [.configuration c], ports := s.reply r 0x03 .ok clamped .none }

/-! ### Lanes -/

/-- `s` with one barrier of a lane replaced; a barrier A that has entered FALLING clears go (R58). -/
def State.withBarrier (s : State) (l : Lane) (i : BarrierId) (fell : Bool) (b : Barrier) : State :=
  let u := (s.lane l).setBarrier i b
  { s with lanes := s.lanes.set l { u with go := u.go && !(fell && decide (i = .a)) } }

/-- Whether a window hits a pair of scope and class (R162). -/
def Window.hits (w : Window) (scope : Scope) (cls : Cls) : Bool :=
  w.enabled && w.scopes.getLsbD scope.toNat && w.classes.getLsbD cls.toNat

/-! ### Safety -/

/-- A barrier whose motor is off, with no lowering waiting. -/
def Barrier.stopped (b : Barrier) : Bool := !b.raiseOut && !b.lowerOut && !b.lowerPending

/-- Both barriers of a lane are stopped. -/
def LaneUnit.stopped (u : LaneUnit) : Bool := u.barrierA.stopped && u.barrierX.stopped

/-- While ESTOP is active no barrier output of any lane is on and no lowering waits (R45, R56). -/
def State.estopSafe (s : State) : Bool :=
  !s.estop || (s.lanes.l0.stopped && s.lanes.l1.stopped && s.lanes.l2.stopped && s.lanes.l3.stopped)

/-- A lane controller holds each item of R63 and R90 exactly in the states that have it: the hold reason and the held-from
state in HOLD, a capture context in WEIGHING, a running dwell timer in the timed states, go in ENTERING and POSITIONING. -/
def LaneUnit.coherent (u : LaneUnit) : Bool :=
  decide (u.holdReason.isSome ↔ u.state = .hold) && decide (u.heldFrom.isSome ↔ u.state = .hold)
    && decide (u.capture.isSome ↔ u.state = .weighing) && decide (u.dwell.isSome ↔ u.state.timed = true)
    && (!u.go || decide (u.state = .entering) || decide (u.state = .positioning))
    && (u.heldFrom.all fun h => decide (h = .idle) || h.timed)

/-- Every lane controller is coherent. -/
def State.lanesCoherent (s : State) : Bool :=
  s.lanes.l0.coherent && s.lanes.l1.coherent && s.lanes.l2.coherent && s.lanes.l3.coherent

/-- A deck has an edit copy and a pre-edit state exactly in CAL_EDIT (R25), and its pre-edit state is one of the other
two. -/
def DeckCal.coherent (c : DeckCal) : Bool :=
  decide (c.edit.isSome ↔ c.state = .calEdit) && decide (c.preEdit.isSome ↔ c.state = .calEdit)
    && decide (c.preEdit ≠ some .calEdit)

/-- Both decks' calibration is coherent. -/
def State.decksCoherent (s : State) : Bool := s.decks.d0.cal.coherent && s.decks.d1.cal.coherent

/-- A set of notice levels: a selection of 1 to 7, ascending and without repeats. -/
def isLevelSet (l : List Nat) : Bool := decide (l = levelSet fun v => l.contains v)

/-- A station's notice queue holds at most 32 notices, and its set of levels in progress and its mask are sets of levels
(R176, R178, R180). -/
def NoticeState.bounded (n : NoticeState) : Bool :=
  decide (n.queue.length ≤ 32) && isLevelSet n.inProgress && isLevelSet n.mask

/-- Every station's notice state is bounded. -/
def State.noticesBounded (s : State) : Bool := s.notices.s0.bounded && s.notices.s1.bounded && s.notices.s2.bounded

/-- How many items of the write queue fill the reserved slot. -/
def StoreEngine.reservedCount (e : StoreEngine) : Nat := (e.queue.filter fun i => i.reserved).length

/-- The write queue fits its 17 slots; the engine has a current extent exactly while the queue holds an item; it is IDLE when the
queue is empty, and otherwise only while the first item waits for reads to leave the memory port (R145, R147, R152). -/
def StoreEngine.fits (e : StoreEngine) : Bool :=
  decide (e.ordinaryFilled ≤ 16) && decide (e.reservedCount ≤ 1) && decide (e.current = none ↔ e.queue = [])
    && decide (e.queue = [] → e.state = .idle) && decide (e.state = .idle → e.queue = [] ∨ e.serving ≠ [])

/-- Before start-up is READY nothing is queued, the clock is not SET and every lane is CLOSED (R139, R145, R89). -/
def State.quietUntilReady (s : State) : Bool :=
  decide (s.phase = .ready)
    || (s.store.queue.isEmpty && !s.clock.set && decide (s.lanes.l0.state = .closed) && decide (s.lanes.l1.state = .closed)
      && decide (s.lanes.l2.state = .closed) && decide (s.lanes.l3.state = .closed) && !s.tickets.rollPending)

/-- Slots strictly rising and below `n`. -/
def risingBelow (n : Nat) : List Nat → Bool
  | [] => true
  | [a] => decide (a < n)
  | a :: b :: rest => decide (a < b) && risingBelow n (b :: rest)

/-- The vehicle register is keyed by tag (R107): its entries stand in slots 0 to 511 in slot order, and no two entries hold
the same tag, none the all-zero tag. -/
def keyed (vs : List VehicleEntry) : Bool :=
  risingBelow 512 (vs.map fun v => v.slot)
    && decide ((vs.map fun v => v.data.tag).Nodup) && vs.all fun v => decide (v.data.tag ≠ 0)

/-- Whether a lane's passage stands in one of these states: it is in one of them, or held from one of them. -/
def LaneUnit.within (u : LaneUnit) (states : List LaneState) : Bool := states.contains u.markState

/-- Every claim stands in its queue once, its lane being in ADMITTING or held from ADMITTING (R63, R70). -/
def claimsOk (lanes : PerLane LaneUnit) (q : List Lane) : Bool :=
  decide q.Nodup && q.all fun l => (lanes.get l).within [.admitting]

/-- A deck's holder is a lane on its passage from ENTERING to CLEARING, or held from there (R63). -/
def holderOk (lanes : PerLane LaneUnit) (h : Option Lane) : Bool :=
  h.all fun l =>
    (lanes.get l).within [.entering, .positioning, .onDeck, .weighing, .leaving, .retreating, .clearing]

/-- Claims and holdings stand where R63 and R70 allow them. -/
def State.claimsCoherent (s : State) : Bool :=
  claimsOk s.lanes s.claims.d0 && claimsOk s.lanes s.claims.d1 && holderOk s.lanes s.holders.d0
    && holderOk s.lanes s.holders.d1

/-- The site register (R63, R118): slots below 64, none used twice, no tag held twice, and each bound entry bound to a lane of
its own that stands between ADMITTING and LEAVING or is held from there. -/
def State.siteCoherent (s : State) : Bool :=
  decide ((s.site.entries.map fun e => e.slot).Nodup) && s.site.entries.all (fun e => decide (e.slot < 64))
    && decide ((s.site.entries.filterMap fun e => e.tag).Nodup)
    && decide ((s.site.entries.filterMap fun e => e.boundLane).Nodup)
    && s.site.entries.all fun e =>
      e.boundLane.all fun l =>
        (s.lane l).within [.admitting, .entering, .positioning, .onDeck, .weighing, .leaving]

/-- Every waiting command is one that the part can receive. -/
def State.pendingOk (s : State) : Bool := s.pending.all Instr.wf

/-- A run of `n` steps is safe: it never stops, and no barrier moves while ESTOP is active. -/
def State.safeFor : Nat → State → Prop
  | 0, s => s.estopSafe = true
  | n + 1, s =>
    s.estopSafe = true ∧
      match step s with
      | .next t => t.safeFor n
      | .fault _ => False
      | .refused _ => False

end Machine

end Sys2Proof
end

