-- ==== Sys2Proof/Certificates/Slice0/Obligations.lean ====
section
/-! DEFINITION. The statements for the provers. -/

open Sys2Proof Sys2Proof.Machine

/-! ### The machine -/

/-- The command at the front of the queue is taken, with the queue's rest left waiting. That one queue holds what all lines and
pins send is the model's choice, log entry 7. -/
def Obligations.StepTakesFrontCommand : Prop :=
  ∀ (s : State) (c : Instr) (rest : List Instr), s.pending = c :: rest → step s = exec c { s with pending := rest }

/-- With no command waiting a millisecond passes, which only the interval of zero tracking counts, up to 1,000 (R38); that a
step on an empty queue is a millisecond is the model's choice, log entry 5. -/
def Obligations.EmptyQueueIdles : Prop :=
  ∀ s : State, s.pending = [] →
    ∃ t, step s = .next t
      ∧ t = { s with decks := t.decks }
      ∧ ∀ d, t.deck d = { s.deck d with
          weight := { (s.deck d).weight with
            trackMs := (s.deck d).weight.trackMs.map fun ms => if ms < 1000 then ms + 1 else ms } }

/-- Every command answers a next state, whatever the state, and leaves the commands that wait as they are. That the waiting
commands stand in one queue outside the yard state, and that YARD_RESET leaves them there, are the model's choices, log entries 7
and 31; so is a next state for a command that cannot come, log entries 20 and 38. -/
def Obligations.CommandsLeaveTheQueue : Prop :=
  ∀ (c : Instr) (s : State), ∃ t, exec c s = .next t ∧ t.pending = s.pending

/-- Values that the manual gives a yard reset: R6, R37 and R39 (zero, histories, flags), R70 (claims and holders), R89
(lanes), R90 (armed, capture), R122 and R134 (roll-write flag, recently closed list), R139 (clock), R145 and R147 (store),
R157 (phase), R169 (attendance), R181 (notices), R183 (conditions), R189 (ports). -/
def Obligations.ResetState : Prop :=
  (∀ d, (State.reset.deck d).weight.lastSeq = none ∧ (State.reset.deck d).weight.filter = []
      ∧ (State.reset.deck d).weight.stability = [] ∧ (State.reset.deck d).weight.zero = 0
      ∧ (State.reset.deck d).weight.refill = false ∧ (State.reset.deck d).weight.zeroLimit = false
      ∧ (State.reset.deck d).weight.reading.wRaw = none ∧ (State.reset.deck d).weight.reading.wAvg = none
      ∧ (State.reset.deck d).weight.reading.wG = none ∧ (State.reset.deck d).weight.reading.w = 0
      ∧ (State.reset.deck d).weight.reading.status = .stale ∧ (State.reset.deck d).weight.reading.stable = false
      ∧ (State.reset.deck d).weight.reading.centreZero = false ∧ (State.reset.deck d).link.rx = []
      ∧ (State.reset.deck d).link.discarded = 0
      ∧ State.reset.claims.get d = [] ∧ State.reset.holders.get d = none)
    ∧ State.reset.coupled.w = 0 ∧ State.reset.coupled.status = .stale
    ∧ (∀ l, (State.reset.lane l).state = .closed ∧ (State.reset.lane l).dwell = none
      ∧ (State.reset.lane l).marks = { ebSeen := false, leavingStep := 0, alStage := 0, reposition := false }
      ∧ (State.reset.lane l).lastRefused = none ∧ (State.reset.lane l).go = false ∧ (State.reset.lane l).armed = false
      ∧ (State.reset.lane l).capture = none ∧ (State.reset.lane l).tagRx.last = none
      ∧ (State.reset.lane l).tagRx.discarded = 0 ∧ (State.reset.lane l).green = false ∧ (State.reset.lane l).red = false
      ∧ (∀ i, ((State.reset.lane l).barrier i).raiseOut = false ∧ ((State.reset.lane l).barrier i).lowerOut = false
        ∧ ((State.reset.lane l).barrier i).lowerPending = false)
      ∧ State.reset.boundEntry? l = none ∧ State.reset.attending.get l = none)
    ∧ (∀ k, State.reset.condition k = { active := false, latched := false, enable := true })
    ∧ State.reset.clock = { count := 0, set := false }
    ∧ State.reset.site.entries = [] ∧ State.reset.vehicles = []
    ∧ State.reset.tickets.rollPending = false ∧ State.reset.tickets.recent = []
    ∧ State.reset.tickets.capNotice = List.replicate 32 false ∧ State.reset.journalLow = false
    ∧ State.reset.store.queue = [] ∧ State.reset.store.state = .idle ∧ State.reset.store.current = none
    ∧ State.reset.phase.toNat = 0
    ∧ ∀ st, State.reset.notices.get st = { queue := [], inProgress := [], mask := [], overrun := false }
      ∧ (State.reset.port st).marker = none ∧ (State.reset.port st).rx = [] ∧ (State.reset.port st).waiting = []
      ∧ State.reset.attention st = false

/-! ### Requests and authority -/

/-- How a port takes any request of the index (R189): a frame that finds four responses waiting is discarded, a request
behind a deferred response is answered BUSY, a request before READY but GET_STATUS NOT_READY, and one whose body does not
hold exactly its fields RANGE (R187). Nothing else changes. -/
def Obligations.PortsTakeRequests : Prop :=
  ∀ (c : Instr) (s : State) (r : Req) (code : Byte), c.request? = some (r, code) →
    (4 ≤ (s.port r.station).waiting.length → exec c s = .next (s.heard r.station))
    ∧ ((s.port r.station).waiting.length < 4 → (s.port r.station).marker.isSome = true →
        exec c s = .next (s.refusedWith r code .busy))
    ∧ (s.Listens r.station → s.phase ≠ .ready → c.isGetStatus = false →
        exec c s = .next (s.refusedWith r code .notReady))
    ∧ (s.Listens r.station → (s.phase = .ready ∨ c.isGetStatus = true) → r.bodyOk = false →
        exec c s = .next (s.refusedWith r code .range))

/-- A request that reaches its block (R165, R170): RANGE for any value outside its set; otherwise NOT_PERMITTED where the decision
falls short of the CONTROL or WATCH that it needs, and ATTENDED, the decision being CONTROL, for a LANE or TICKET request that
needs CONTROL over a lane which another station attends. Each changes nothing of the yard. Which values are compared before the
decision (a ticket number of 0, an empty list, the bounds of ARCHIVE) and which after it (the fields of ADMIT and the mode of
CAPTURE that do not suit the direction) is the model's deduction, log entry 14. -/
def Obligations.AuthorityAndAttendanceHold : Prop :=
  ∀ (c : Instr) (s : State) (r : Req) (code : Byte), c.request? = some (r, code) → s.Takes r →
    (c.inSets s = false → exec c s = .next (s.refusedWith r code .range))
    ∧ (c.inSets s = true → ∀ (need : Access) (scope : Scope) (cls : Cls), c.needs? s = some (need, scope, cls) →
      ((need = .control ∧ s.decision r.station scope cls ≠ .control)
          ∨ (need = .watch ∧ s.decision r.station scope cls = .none) →
        exec c s = .next (s.refusedWith r code .notPermitted))
      ∧ ∀ (l : Lane) (other : Station), need = .control → scope = .lane l → (cls = .lane ∨ cls = .ticket) →
        s.decision r.station scope cls = .control → s.attending.get l = some other → other ≠ r.station →
        exec c s = .next (s.refusedWith r code .attended))

/-- The requests that need WATCH, and GET_STATUS, change no state of the yard: only the ports differ, and the journal reads
that wait at the memory port. -/
def Obligations.ReadsChangeNothing : Prop :=
  ∀ (c : Instr) (s t : State),
    ((∃ scope cls, c.needs? s = some (.watch, scope, cls)) ∨ c.isGetStatus = true) → exec c s = .next t →
    t = { s with
      ports := t.ports
      store := { s.store with serving := t.store.serving, waiting := t.store.waiting } }

/-- A request of one station leaves another station's port, mask and levels in progress as they are (R176, R189). -/
def Obligations.OtherStationsUntouched : Prop :=
  ∀ (c : Instr) (s t : State) (r : Req) (code : Byte) (st : Station),
    c.request? = some (r, code) → exec c s = .next t → st ≠ r.station →
    t.port st = s.port st ∧ (t.notices.get st).mask = (s.notices.get st).mask
      ∧ (t.notices.get st).inProgress = (s.notices.get st).inProgress

/-- R163: the seal override, then the first window that hits, then WATCH. -/
def Obligations.DecisionOfAStation : Prop :=
  ∀ (s : State) (st : Station) (scope : Scope) (cls : Cls),
    (scope = .yard → cls = .yard → s.sealOpen = true → s.decision st scope cls = .control)
    ∧ (¬(scope = .yard ∧ cls = .yard ∧ s.sealOpen = true) →
        (∀ (i : Nat) (w : Window), (s.settings.windows.get st)[i]? = some w → w.hits scope cls = true →
          (∀ (j : Nat) (v : Window), j < i → (s.settings.windows.get st)[j]? = some v → v.hits scope cls = false) →
          s.decision st scope cls = w.access)
        ∧ ((∀ w ∈ s.settings.windows.get st, w.hits scope cls = false) → s.decision st scope cls = .watch))

/-! ### Ports -/

/-- Frames that form no request of the index (R186, R189), and the end of a response being sent (R189): an unknown code is
answered in every start-up phase, but BUSY behind a deferred response; a bad check and a length of 1 are answered FRAME_ERROR
with tag 00H; an abandoned frame is not answered; and when a response has been sent the oldest waiting one begins. -/
def Obligations.FramesWithoutARequest : Prop :=
  (∀ (s : State) (r : Req) (code : Byte), 4 ≤ (s.port r.station).waiting.length →
      exec (.unknownRequest r code) s = .next (s.heard r.station))
  ∧ (∀ (s : State) (r : Req) (code : Byte), (s.port r.station).waiting.length < 4 →
      exec (.unknownRequest r code) s =
        .next (s.refusedWith r code (if (s.port r.station).marker.isSome then .busy else .unknownRequest)))
  ∧ (∀ (s : State) (st : Station) (f : FrameFault), 4 ≤ (s.port st).waiting.length →
      exec (.frameError st f) s = .next (s.heard st))
  ∧ (∀ (s : State) (st : Station), (s.port st).waiting.length < 4 →
      exec (.frameError st .badCheck) s = .next (s.refusedWith { station := st, tag := 0, bodyOk := true } 0 .frameError))
  ∧ (∀ (s : State) (st : Station) (code : Byte), (s.port st).waiting.length < 4 →
      exec (.frameError st (.lengthOne code)) s =
        .next (s.refusedWith { station := st, tag := 0, bodyOk := true } code .frameError))
  ∧ (∀ (s : State) (st : Station),
      exec (.stationFrameGap st) s = .next { s with ports := s.ports.set st { s.port st with rx := [] } }
      ∧ exec (.stationFrameBadLength st) s = .next { s with ports := s.ports.set st { s.port st with rx := [] } })
  ∧ (∀ (s : State) (st : Station) (x y : Response) (rest : List Response),
      (s.port st).sending = some x → (s.port st).waiting = y :: rest →
      exec (.responseSent st) s = .next { s with ports := s.ports.set st { s.port st with sending := some y, waiting := rest } })
  ∧ (∀ (s : State) (st : Station) (x : Response), (s.port st).sending = some x → (s.port st).waiting = [] →
      exec (.responseSent st) s = .next { s with ports := s.ports.set st { s.port st with sending := none } })

/-- A break resets a port (R190, R181, R171): the receiver, the marker and the responses not begun; the station's notice
state; the reads of the station are to be discarded; and every attendance of the station ends, the windows, conditions and
every other block's state standing as they are where no attended lane waits in ON_DECK; a lane that waits there looks at
auto-capture again as its attendance ends. That this comes after the notice queue has been emptied, L0 first, is the model's
deduction, log entry 15. -/
def Obligations.PortResetClearsThePort : Prop :=
  ∀ (s : State) (st : Station),
    let u : State := { s with
      ports := s.ports.set st { rx := [], marker := none, sending := (s.port st).sending, waiting := [] }
      notices := s.notices.set st { queue := [], inProgress := [], mask := [], overrun := false }
      store := { s.store with
        serving := s.store.serving.map fun g => { g with discard := g.discard || decide (g.station = st) }
        waiting := s.store.waiting.map fun g => { g with discard := g.discard || decide (g.station = st) } } }
    (∃ t, exec (.portReset st) s = .next t ∧ t.ports = u.ports ∧ (∀ l, t.attending.get l ≠ some st)
      ∧ t.settings = s.settings ∧ t.clock = s.clock)
    ∧ exec (.portReset st) s = .next ([Lane.l0, .l1, .l2, .l3].foldl (fun t l =>
        if s.attending.get l = some st then ({ t with attending := t.attending.set l none } : State).autoCapture l else t) u)
    ∧ ((∀ l, s.attending.get l = some st → (s.lane l).state ≠ .onDeck) →
        exec (.portReset st) s =
          .next { u with attending := PerLane.map (fun a => if a = some st then none else a) s.attending })

/-! ### Reading the part -/

/-- GET_STATUS in every start-up phase (R193): the response carries the state as it stands, values not yet loaded as absent,
and nothing else changes. The revision is a free value (log entry 1). -/
def Obligations.GetStatusReports : Prop :=
  ∀ (s : State) (r : Req), s.Listens r.station → r.bodyOk = true →
    exec (.getStatus r) s = .next (s.answered r 0x01 .ok false (.status {
      family := 0x45
      revision := Config.revision
      phase := s.phase
      conditions := s.conditions
      clock := s.clock
      decks := PerDeck.map (fun d => {
          state := if 2 ≤ s.phase.rank then some (s.deck d).cal.state else none
          status := (s.deck d).weight.reading.status
          holder := s.holders.get d
          queue := s.claims.get d }) { d0 := .d0, d1 := .d1 }
      lanes := PerLane.ofFn fun l => {
          state := (s.lane l).state
          holdReason := (s.lane l).holdReason
          heldFrom := (s.lane l).heldFrom
          bound := s.site.entries.any fun e => decide (e.boundLane = some l)
          claim := (s.claims.d0 ++ s.claims.d1).contains l
          holding := decide (s.holders.d0 = some l ∨ s.holders.d1 = some l)
          attending := s.attending.get l
          armed := (s.lane l).armed
          capture := (s.lane l).capture }
      engine := s.store.state
      queued := s.store.queue.length
      reservedFilled := s.store.queue.any fun i => i.reserved
      faultArea := if s.store.state = .fault then s.store.extent?.map Record.area else none
      faultCause := if s.store.state = .fault then s.store.lastFailure else none
      nextSeq := if s.indexLoaded then some s.index.nextSeq else none
      archivedSeq := if s.indexLoaded then some s.index.archivedSeq else none
      freeCapacity :=
        if s.indexLoaded then some (4096 - ((s.index.nextSeq : Int) - s.index.archivedSeq) - s.site.entries.length) else none
      counter := if 7 ≤ s.phase.rank then some s.tickets.counter else none }))

/-- CONFIG_READ (R192): every group the working configuration holds, as its layout's bytes. READ_WEIGHT and READ_RAW (R20, R21):
a deck's reading in full, the coupled reading with both decks', and the latest frame. READ_LANE_IO (R60): the ten debounced
levels, the six outputs as R45 and R58 derive them, the barriers, the lane's timings, the last tag and the discarded-frame
count. An operand outside its set is refused with RANGE. -/
def Obligations.SettingsAndReadingsAnswer : Prop :=
  (∀ (s : State) (r : Req) (id : Byte), s.Takes r →
     (∀ l : Lane, id.toNat = l.toNat → s.decision r.station (.lane l) .lane ≠ .none →
       exec (.configRead r id) s = .next (s.answered r 0x02 .ok false (.group (s.laneSettings l).groupBytes)))
     ∧ (s.decision r.station .yard .yard ≠ .none →
         (∀ st : Station, id.toNat = 0x10 + st.toNat →
           exec (.configRead r id) s =
             .next (s.answered r 0x02 .ok false (.group ((s.settings.windows.get st).flatMap Window.bytes))))
         ∧ (id.toNat = 0x20 →
           exec (.configRead r id) s = .next (s.answered r 0x02 .ok false (.group (s.settings.levels.flatMap (natBytes 1)))))
         ∧ (id.toNat = 0x21 →
           exec (.configRead r id) s = .next (s.answered r 0x02 .ok false (.group (s.settings.caps.flatMap (natBytes 4)))))
         ∧ (id.toNat = 0x22 →
           exec (.configRead r id) s = .next (s.answered r 0x02 .ok false (.group (natBytes 4 s.settings.rollSecond))))
         ∧ (id.toNat = 0x23 →
           exec (.configRead r id) s =
             .next (s.answered r 0x02 .ok false (.group [if s.settings.verify then 0x01 else 0x00])))
         ∧ (id.toNat = 0x24 →
           exec (.configRead r id) s = .next (s.answered r 0x02 .ok false
             (.group (natBytes 2 s.settings.sampleTimeout.d0 ++ natBytes 2 s.settings.sampleTimeout.d1)))))
     ∧ (4 ≤ id.toNat → ¬(0x10 ≤ id.toNat ∧ id.toNat ≤ 0x12) → ¬(0x20 ≤ id.toNat ∧ id.toNat ≤ 0x24) →
         exec (.configRead r id) s = .next (s.refusedWith r 0x02 .range)))
  ∧ (∀ (s : State) (r : Req) (b : Byte), s.Takes r →
       (3 ≤ b.toNat → exec (.readWeight r b) s = .next (s.refusedWith r 0x10 .range))
       ∧ (2 ≤ b.toNat → exec (.readRaw r b) s = .next (s.refusedWith r 0x11 .range))
       ∧ (s.decision r.station .yard .deck ≠ .none →
         (∀ d : Deck, b.toNat = d.toNat →
           exec (.readWeight r b) s = .next (s.answered r 0x10 .ok false (.weight {
             reading := (s.deck d).weight.reading
             zero := (s.deck d).weight.zero
             filterCount := (s.deck d).weight.filter.length
             stabilityCount := (s.deck d).weight.stability.length
             deckState := (s.deck d).cal.state
             zeroLimit := (s.deck d).weight.zeroLimit }))
           ∧ exec (.readRaw r b) s = .next (s.answered r 0x11 .ok false (.raw {
             frame := (s.deck d).link.latest
             cellCount := (s.deck d).cal.committed.cellCount
             discarded := (s.deck d).link.discarded
             expired := decide ((s.deck d).link.timer = .expired) })))
         ∧ (b.toNat = 2 →
           exec (.readWeight r b) s = .next (s.answered r 0x10 .ok false (.coupled s.coupled
             { w := s.decks.d0.weight.reading.w, status := s.decks.d0.weight.reading.status
               stable := s.decks.d0.weight.reading.stable }
             { w := s.decks.d1.weight.reading.w, status := s.decks.d1.weight.reading.status
               stable := s.decks.d1.weight.reading.stable })))))
  ∧ (∀ (s : State) (r : Req) (b : Byte), s.Takes r →
       (4 ≤ b.toNat → exec (.readLaneIo r b) s = .next (s.refusedWith r 0x20 .range))
       ∧ ∀ l : Lane, Lane.ofNat? b.toNat = some l → s.decision r.station (.lane l) .lane ≠ .none →
         let u := s.lane l
         let go := decide ((u.state = .entering ∨ u.state = .positioning) ∧ u.go = true)
         let barrier := fun (x : Barrier) => ({
           upLimit := x.upLimit
           downLimit := x.downLimit
           beamBroken := x.beamBroken
           raiseOut := decide (x.state = .rising)
           lowerOut := decide (x.state = .falling)
           state := x.state
           cause := x.cause
           lowerPending := x.lowerPending
           reversals := x.reversals
           settled := decide (x.beamBroken = false ∧ x.clearDelay = none) } : BarrierReport)
         exec (.readLaneIo r b) s = .next (s.answered r 0x20 .ok false (.laneIo {
           al := u.al
           eb := u.eb
           xb := u.xb
           xl := u.xl
           red := decide (u.state ≠ .closed) && !go
           green := go
           a := barrier u.barrierA
           x := barrier u.barrierX
           debounce := (s.laneSettings l).debounce
           travel := (s.laneSettings l).travel
           clear := (s.laneSettings l).clear
           lastTag := u.tagRx.last
           discarded := u.tagRx.discarded })))

/-- R36: READ_CAL of the committed record and of the edit copy. The deck's calibration is coherent (R25): it has an edit copy
and a pre-edit state exactly in CAL_EDIT. -/
def Obligations.ReadCalAnswersTheRecord : Prop :=
  ∀ (s : State) (r : Req) (b copy : Byte), s.Takes r →
    (2 ≤ b.toNat ∨ 2 ≤ copy.toNat → exec (.readCal r b copy) s = .next (s.refusedWith r 0x12 .range))
    ∧ ∀ d : Deck, b.toNat = d.toNat → copy.toNat < 2 → (s.deck d).cal.coherent = true →
      (s.decision r.station .yard .deck = .none → exec (.readCal r b copy) s = .next (s.refusedWith r 0x12 .notPermitted))
      ∧ (s.decision r.station .yard .deck ≠ .none →
        (copy.toNat = 0 →
          exec (.readCal r b copy) s = .next (s.answered r 0x12 .ok false (.calibration {
            record := (s.deck d).cal.committed
            deckState := (s.deck d).cal.state
            preEdit := if (s.deck d).cal.state = .calEdit then (s.deck d).cal.preEdit else none
            matching := some (decide (crc16 (s.deck d).cal.committed.body = (s.deck d).cal.committed.checksum)) })))
        ∧ (copy.toNat = 1 → (s.deck d).cal.state ≠ .calEdit →
          exec (.readCal r b copy) s = .next (s.refusedWith r 0x12 .wrongState))
        ∧ (copy.toNat = 1 → (s.deck d).cal.state = .calEdit →
          ∃ e, (s.deck d).cal.edit = some e
            ∧ exec (.readCal r b copy) s = .next (s.answered r 0x12 .ok false (.calibration {
                record := e
                deckState := .calEdit
                preEdit := (s.deck d).cal.preEdit
                matching := none }))))

/-- READ_SITE (R132): the entries that follow in admission order, up to the count, with the counts and the more flag; and
READ_TICKET (R133) of a ticket that a site entry holds, with its sections so far. Which of several entries of one ordinal holds
it is the model's choice, log entry 44; that the ticket number 0 is refused before the decision is its deduction, log entry
14. -/
def Obligations.SiteReadsAnswer : Prop :=
  (∀ (s : State) (r : Req) (after : BitVec 32) (count : Byte), s.Takes r →
    (count.toNat = 0 ∨ 4 < count.toNat → exec (.readSite r after count) s = .next (s.refusedWith r 0x38 .range))
    ∧ (1 ≤ count.toNat → count.toNat ≤ 4 → s.decision r.station .yard .ticket ≠ .none →
      ∀ es : List SiteEntry,
        (es = if after = 0 then s.site.entries
          else s.site.entries.filter fun e =>
            decide (after.toNat < e.ordinal)
              || (decide (e.ordinal = after.toNat)
                && ((s.site.entries.find? fun x => decide (x.ordinal = after.toNat)).any fun x => decide (x.slot < e.slot)))) →
        exec (.readSite r after count) s = .next (s.answered r 0x38 .ok false (.site
          ((es.take count.toNat).map fun e => {
            state := e.state
            ordinal := e.ordinal
            ticket := if e.state = .reserved then 0 else e.ticket
            kind := e.kind
            tag := e.tag
            account := e.account
            waste := e.waste
            hazard := e.hazard
            weighings := e.weighings.length
            lastWeighing := e.weighings.getLast?.map fun w => (w.weight, w.time)
            boundLane := e.boundLane })
          s.site.entries.length
          (s.site.entries.filter fun e => decide (e.state = .reserved)).length
          (s.site.entries.filter fun e => decide (e.state = .suspect)).length
          (decide (count.toNat < es.length))))))
  ∧ ∀ (s : State) (r : Req) (n : BitVec 32), s.Takes r →
    (n = 0 → exec (.readTicket r n) s = .next (s.refusedWith r 0x39 .range))
    ∧ (n ≠ 0 → s.decision r.station (s.ticketScope n.toNat) .ticket ≠ .none →
      (∀ e, s.siteByTicket? n.toNat = some e →
        exec (.readTicket r n) s = .next (s.answered r 0x39 .ok false
          (.ticket e (sectionsOf e.kind e.weighings) (totalNet (sectionsOf e.kind e.weighings)))))
      ∧ (s.siteByTicket? n.toNat = none → (∀ p ∈ s.tickets.recent, p.ticket ≠ n.toNat) →
        exec (.readTicket r n) s = .next (s.refusedWith r 0x39 .notFound)))

/-- READ_TOTALS (R138): for each of the 32 codes its cap, today, previous day and cap notice flag; the ticket counter, the stored
day index, the current one while the clock is SET, the roll second and last-credited; NOT_PERMITTED where the decision is
NONE. -/
def Obligations.TotalsReported : Prop :=
  ∀ (s : State) (r : Req), s.Takes r →
    (s.decision r.station .yard .ticket = .none → exec (.readTotals r) s = .next (s.refusedWith r 0x3C .notPermitted))
    ∧ (s.decision r.station .yard .ticket ≠ .none →
      ∃ lines : List TotalsLine, lines.length = 32
        ∧ (∀ (i : Nat) (x : DayTotals) (cap : Nat) (given : Bool), i < 32 → s.index.totals[i]? = some x →
            s.settings.caps[i]? = some cap → s.tickets.capNotice[i]? = some given →
            lines[i]? = some { cap := cap, today := x.today, previous := x.previous, capNotice := given })
        ∧ exec (.readTotals r) s = .next (s.answered r 0x3C .ok false (.totals {
            lines := lines
            counter := s.tickets.counter
            storedDay := s.index.storedDay
            currentDay := if s.clock.set then some (((s.clock.count : Int) - s.settings.rollSecond) / 86400) else none
            rollSecond := s.settings.rollSecond
            lastCredited := s.index.lastCredited })))

/-- READ_JOURNAL (R156): refused with NOT_FOUND outside the readable range; otherwise answered at once when every entry stands in
the write queue, and deferred otherwise, its reads joining the memory port; the count is taken within 1 to 8 and within the
journal. The READ_TICKET of a recently closed ticket (R133) reads its one entry the same way. That reads which find the engine
WRITING wait for the attempt's end, and that they join those being served in IDLE and FAULT, is the model's choice, log entry 8.
When a journal read completes (R152, R156) the oldest entry not yet in hand takes the record read at its position, in full when
it is valid and carries that seq and DAMAGED otherwise; when it was the last the response leaves and the marker is cleared
(R189), unless its port has been reset (R190); and with no read left an engine that waited for the port, in IDLE or FAULT (log
entry 11), enters WRITING (R147, R150). A completion with no read in progress changes nothing (log entry 20). -/
def Obligations.JournalReadsAnswer : Prop :=
  ((∀ (s : State) (r : Req) (q : BitVec 32) (count : Byte), s.Watches r .yard .ticket →
     (¬(s.index.nextSeq - 4096 ≤ q.toNat ∧ q.toNat < s.index.nextSeq) →
       exec (.readJournal r q count) s = .next (s.refusedWith r 0x3D .notFound))
     ∧ (s.index.nextSeq - 4096 ≤ q.toNat → q.toNat < s.index.nextSeq →
       let n := min (if count.toNat < 1 then 1 else if 8 < count.toNat then 8 else count.toNat) (s.index.nextSeq - q.toNat)
       (∀ es : List JournalEntry, es.length = n →
         (∀ (i : Nat) (e : JournalEntry), es[i]? = some e → s.store.queuedEntry? (q.toNat + i) = some e) →
         exec (.readJournal r q count) s =
           .next (s.answered r 0x3D .ok (decide (n ≠ count.toNat)) (.journal (es.map .full))))
       ∧ ((∃ i, i < n ∧ s.store.queuedEntry? (q.toNat + i) = none) →
         ∃ g : ReadGroup, g.station = r.station ∧ g.code = 0x3D ∧ g.tag = r.tag ∧ g.clamped = decide (n ≠ count.toNat)
           ∧ g.discard = false
           ∧ g.slots = (List.range n).map (fun i =>
               { seq := q.toNat + i, got := (s.store.queuedEntry? (q.toNat + i)).map .full })
           ∧ exec (.readJournal r q count) s = .next { s with
               ports := s.ports.set r.station { s.port r.station with rx := [], marker := some ⟨0x3D, r.tag⟩ }
               store :=
                 if s.store.state = .idle ∨ s.store.state = .fault then
                   { s.store with serving := s.store.serving ++ [g] }
                 else { s.store with waiting := s.store.waiting ++ [g] } })))
   ∧ ∀ (s : State) (r : Req) (n : BitVec 32) (p : RecentTicket), s.Watches r .yard .ticket → n ≠ 0 →
     s.siteByTicket? n.toNat = none → s.tickets.recent.find? (fun p => decide (p.ticket = n.toNat)) = some p →
     (∀ e, s.store.queuedEntry? p.seq = some e →
       exec (.readTicket r n) s = .next (s.answered r 0x39 .ok false (.journal [.full e])))
     ∧ (s.store.queuedEntry? p.seq = none →
       let g : ReadGroup := {
         station := r.station
         code := 0x39
         tag := r.tag
         clamped := false
         slots := [{ seq := p.seq, got := none }]
         discard := false }
       exec (.readTicket r n) s = .next { s with
         ports := s.ports.set r.station { s.port r.station with rx := [], marker := some ⟨0x39, r.tag⟩ }
         store :=
           if s.store.state = .idle ∨ s.store.state = .fault then { s.store with serving := s.store.serving ++ [g] }
           else { s.store with waiting := s.store.waiting ++ [g] } }))
  ∧ (∀ (s : State) (record : List Byte) (g : ReadGroup) (gs : List ReadGroup) (done : List ReadSlot) (x : ReadSlot)
       (rest : List ReadSlot),
       s.store.serving = g :: gs → g.slots = done ++ x :: rest → (∀ y ∈ done, y.got.isSome = true) → x.got = none →
       ∀ report : JournalReport,
         (report = match validJournalAt (x.seq % 4096) record with
           | some e => if e.seq = x.seq then .full e else .damaged x.seq
           | none => .damaged x.seq) →
         let waits := (s.store.state = .idle ∧ s.store.current ≠ none)
           ∨ (s.store.state = .fault ∧ ∃ c, s.store.current = some c ∧ c.attempt = 1)
         let left : StoreEngine := { s.store with
           serving := gs
           state := if gs = [] ∧ waits then .writing else s.store.state }
         ((∃ y ∈ rest, y.got = none) →
           exec (.journalReadDone record) s = .next { s with
             store := { s.store with
               serving := { g with slots := done ++ { x with got := some report } :: rest } :: gs } })
         ∧ ((∀ y ∈ rest, y.got.isSome = true) → g.discard = true →
           exec (.journalReadDone record) s = .next { s with store := left })
         ∧ ((∀ y ∈ rest, y.got.isSome = true) → g.discard = false →
           exec (.journalReadDone record) s = .next { s with
             store := left
             ports := s.ports.set g.station { (s.port g.station).form ⟨g.code, g.tag, .ok, g.clamped,
               .journal ((done.filterMap fun y => y.got) ++ report :: rest.filterMap fun y => y.got)⟩ with marker := none } }))
  ∧ ∀ (s : State) (record : List Byte), s.store.serving = [] → exec (.journalReadDone record) s = .next s

/-- REG_READ and REG_FIND (R112, R113): the entries in ascending tag order, greater than `after`, up to the count; by tag the
entry that holds it, by fleet reference the one with the lowest tag and the number of matches. A tare is reported NONE, UNSET
while the clock is not SET, VALID below its expiry, EXPIRED from it (R108), and with an entry the site entry that holds its
tag. -/
def Obligations.RegisterReadsAnswer : Prop :=
  ((∀ (s : State) (r : Req) (after : Tag) (count : Byte), s.Takes r →
     (count.toNat = 0 ∨ 8 < count.toNat → exec (.regRead r after count) s = .next (s.refusedWith r 0x33 .range))
     ∧ (1 ≤ count.toNat → count.toNat ≤ 8 → s.decision r.station .yard .register ≠ .none →
       ∃ vs : List VehicleData, vs.Pairwise (fun a b => a.tag.toNat ≤ b.tag.toNat)
         ∧ vs.Perm ((s.vehicles.map fun v => v.data).filter fun v => decide (after.toNat < v.tag.toNat))
         ∧ exec (.regRead r after count) s = .next (s.answered r 0x33 .ok false (.vehicles
             ((vs.take count.toNat).map s.vehicleReport) s.vehicles.length (decide (count.toNat < vs.length))))))
   ∧ (∀ (s : State) (r : Req) (tag : Tag), s.Takes r →
     (tag = 0 → exec (.regFind r (.tag tag)) s = .next (s.refusedWith r 0x34 .range))
     ∧ (tag ≠ 0 → s.decision r.station .yard .register ≠ .none →
       (s.vehicle? tag = none → exec (.regFind r (.tag tag)) s = .next (s.refusedWith r 0x34 .notFound))
       ∧ (keyed s.vehicles = true → ∀ v, s.vehicle? tag = some v →
         exec (.regFind r (.tag tag)) s =
           .next (s.answered r 0x34 .ok false (.vehicle (s.vehicleReport v.data) none)))))
   ∧ ∀ (s : State) (r : Req) (name : List Byte), s.Takes r →
     ((name = [] ∨ 12 < name.length ∨ ∃ c ∈ name, c.toNat < 0x20 ∨ 0x7E < c.toNat) →
       exec (.regFind r (.fleet name)) s = .next (s.refusedWith r 0x34 .range))
     ∧ (name ≠ [] → name.length ≤ 12 → (∀ c ∈ name, 0x20 ≤ c.toNat ∧ c.toNat ≤ 0x7E) →
       s.decision r.station .yard .register ≠ .none →
       ((∀ v ∈ s.vehicles, v.data.fleet ≠ name) →
         exec (.regFind r (.fleet name)) s = .next (s.refusedWith r 0x34 .notFound))
       ∧ ∀ v ∈ s.vehicles, v.data.fleet = name →
         (∀ u ∈ s.vehicles, u.data.fleet = name → u ≠ v → v.data.tag.toNat < u.data.tag.toNat) →
         exec (.regFind r (.fleet name)) s = .next (s.answered r 0x34 .ok false
           (.vehicle (s.vehicleReport v.data)
             (some (s.vehicles.filter fun u => decide (u.data.fleet = name)).length)))))
  ∧ (∀ (s : State) (v : VehicleData),
       (s.vehicleReport v).data = v
       ∧ (v.tare = none → (s.vehicleReport v).tareState = .none ∧ (s.vehicleReport v).expiry = none)
       ∧ (∀ t, v.tare = some t → (s.vehicleReport v).expiry = some (t.stamp + t.validity * 86400)
           ∧ (s.clock.set = false → (s.vehicleReport v).tareState = .unset)
           ∧ (s.clock.set = true → s.clock.count < t.stamp + t.validity * 86400 → (s.vehicleReport v).tareState = .valid)
           ∧ (s.clock.set = true → t.stamp + t.validity * 86400 ≤ s.clock.count → (s.vehicleReport v).tareState = .expired))
       ∧ (∀ e, s.siteByTag? v.tag = some e →
           (s.vehicleReport v).onSite = some (e.state, if e.state = .reserved then 0 else e.ticket))
       ∧ (s.siteByTag? v.tag = none → (s.vehicleReport v).onSite = none))


/-! ### Configuration, notices, conditions and the clock -/

/-- CONFIG_WRITE of each group (R192, R61, R64, R167, R175, R135, R151, R22): a value outside its set refuses the whole write, each
number is taken at the nearer limit of its range with CLAMPED, the working configuration changes at once and the configuration
record joins the write queue; without a free slot nothing changes. A cap that takes a new value clears its code's cap notice
flag. A lane group needs its lane CLOSED and leaves open-at-start as it stands. The windows of a station are refused with
LAST_CONTROL when no station's windows would give CONTROL over (YARD, YARD), and an accepted write ends each attendance of that
station which they no longer allow, all else standing as it is where no such lane waits in ON_DECK; a lane that waits there looks
at auto-capture again as its attendance ends (R171, R94), L0 first, an order that is the model's deduction, log entry 15. -/
def Obligations.GroupsAreWritten : Prop :=
  (∀ (s : State) (r : Req), s.Controls r .yard .yard →
     (∀ levels : List Byte, levels.length = 24 →
       let given := levels.map fun v => v.toNat
       let stored := given.map fun v => max 1 (min 7 v)
       (s.slotFree = false → exec (.configWriteNoticeLevels r levels) s = .next (s.refusedWith r 0x03 .storeBusy))
       ∧ (s.slotFree = true → exec (.configWriteNoticeLevels r levels) s =
           .next (s.wrote r { s.settings with levels := stored } (decide (stored ≠ given)))))
     ∧ (∀ caps : List (BitVec 32), caps.length = 32 →
       let values := caps.map fun v => v.toNat
       (s.slotFree = false → exec (.configWriteWasteCaps r caps) s = .next (s.refusedWith r 0x03 .storeBusy))
       ∧ (s.slotFree = true → s.settings.caps.length = 32 → s.tickets.capNotice.length = 32 →
           ∃ flags : List Bool, flags.length = 32
             ∧ (∀ i < 32, flags[i]? = s.tickets.capNotice[i]?.map fun f => f && decide (s.settings.caps[i]? = values[i]?))
             ∧ exec (.configWriteWasteCaps r caps) s =
               .next { s.wrote r { s.settings with caps := values } false with
                 tickets := { s.tickets with capNotice := flags } }))
     ∧ (∀ v : Byte,
       (2 ≤ v.toNat → exec (.configWriteVerifyOption r v) s = .next (s.refusedWith r 0x03 .range))
       ∧ (v.toNat < 2 → s.slotFree = false →
           exec (.configWriteVerifyOption r v) s = .next (s.refusedWith r 0x03 .storeBusy))
       ∧ (v.toNat < 2 → s.slotFree = true → exec (.configWriteVerifyOption r v) s =
           .next (s.wrote r { s.settings with verify := decide (v.toNat = 1) } false)))
     ∧ ∀ d0 d1 : BitVec 16,
       let stored := fun (v : BitVec 16) => max 20 (min 2000 v.toNat)
       (s.slotFree = false → exec (.configWriteSampleTimeout r d0 d1) s = .next (s.refusedWith r 0x03 .storeBusy))
       ∧ (s.slotFree = true → exec (.configWriteSampleTimeout r d0 d1) s =
           .next (s.wrote r { s.settings with sampleTimeout := { d0 := stored d0, d1 := stored d1 } }
             (decide (stored d0 ≠ d0.toNat ∨ stored d1 ≠ d1.toNat)))))
  ∧ ((∀ (s : State) (r : Req) (l : Lane) (g : LaneGroup),
        (laneSettingsOf? g = none → s.Takes r → exec (.configWriteLane r l g) s = .next (s.refusedWith r 0x03 .range))
        ∧ ∀ c : LaneSettings, laneSettingsOf? g = some c → s.Controls r (.lane l) .lane →
          ((s.lane l).state ≠ .closed → exec (.configWriteLane r l g) s = .next (s.refusedWith r 0x03 .wrongState))
          ∧ ((s.lane l).state = .closed → s.slotFree = false →
              exec (.configWriteLane r l g) s = .next (s.refusedWith r 0x03 .storeBusy))
          ∧ ((s.lane l).state = .closed → s.slotFree = true →
              let stored : LaneSettings := { c with
                debounce := max 20 (min 500 c.debounce)
                travel := max 1 (min 15 c.travel)
                clear := min 5 c.clear
                dwell := {
                  admitting := max 1 (min 3600 c.dwell.admitting)
                  entering := max 1 (min 600 c.dwell.entering)
                  positioning := max 1 (min 600 c.dwell.positioning)
                  onDeck := max 1 (min 3600 c.dwell.onDeck)
                  weighing := max 1 (min 30 c.dwell.weighing)
                  leaving := max 1 (min 600 c.dwell.leaving)
                  retreating := max 1 (min 600 c.dwell.retreating)
                  clearing := max 1 (min 600 c.dwell.clearing) } }
              exec (.configWriteLane r l g) s = .next (s.wrote r
                { s.settings with
                  lanes := s.settings.lanes.set l { stored with openAtStart := (s.laneSettings l).openAtStart } }
                (decide (stored ≠ c)))))
     ∧ (∀ (s : State) (r : Req) (st : Station) (bytes : List WindowBytes),
          (windowsOf? bytes = none → s.Takes r → exec (.configWriteWindows r st bytes) s = .next (s.refusedWith r 0x03 .range))
          ∧ ∀ ws : List Window, windowsOf? bytes = some ws → s.Controls r .yard .yard →
            ((∀ a, windowAccess ((s.settings.windows.set st ws).get a) .yard .yard ≠ .control) →
              exec (.configWriteWindows r st bytes) s = .next (s.refusedWith r 0x03 .lastControl))
            ∧ ((∃ a, windowAccess ((s.settings.windows.set st ws).get a) .yard .yard = .control) →
              (s.slotFree = false → exec (.configWriteWindows r st bytes) s = .next (s.refusedWith r 0x03 .storeBusy))
              ∧ (s.slotFree = true → ∀ next : Settings,
                next = { s.settings with windows := s.settings.windows.set st ws } →
                exec (.configWriteWindows r st bytes) s = .next (([Lane.l0, .l1, .l2, .l3].foldl (fun t l =>
                  if s.attending.get l = some st ∧ windowAccess ws (.lane l) .lane ≠ .control then
                    ({ t with attending := t.attending.set l none } : State).autoCapture l
                  else t) { s.heard r.station with
                    settings := next, store := s.queuedWith [.configuration next] }).acked r 0x03))
              ∧ (s.slotFree = true →
                (∀ l, s.attending.get l = some st → (s.lane l).state = .onDeck → windowAccess ws (.lane l) .lane = .control) →
                exec (.configWriteWindows r st bytes) s =
                  .next { s.wrote r { s.settings with windows := s.settings.windows.set st ws } false with
                    attending := PerLane.ofFn fun l =>
                      if s.attending.get l = some st ∧ windowAccess ws (.lane l) .lane ≠ .control then none
                      else s.attending.get l }))))

/-- SET_CLOCK and CLOCK_TICK (R139, R140, R141, R142) and CONFIG_WRITE of the roll second (R141): the count and SET; then,
while SET is true, the comparison of the day index. An unknown stored index takes the current one without a roll; a greater
one rolls the totals once, however many days it crosses, raises DAY_ROLLED and queues the record; otherwise nothing more
happens. The record joins the queue in the reserved slot when that is free. -/
def Obligations.ClockAndDayRoll : Prop :=
  ∀ s : State,
    (∀ (r : Req) (v : BitVec 32), s.Controls r .yard .yard →
      exec (.setClock r v) s =
        .next (({ s with clock := { count := v.toNat, set := true } } : State).examineDay.okayed r 0x09))
    ∧ (exec .clockTick s =
        .next ({ s with clock := { s.clock with count := if s.clock.count < 4294967295 then s.clock.count + 1 else
          s.clock.count } } : State).examineDay)
    ∧ (∀ (r : Req) (v : BitVec 32), s.Controls r .yard .yard →
      (s.slotFree = false → exec (.configWriteRollSecond r v) s = .next (s.refusedWith r 0x03 .storeBusy))
      ∧ (s.slotFree = true →
        exec (.configWriteRollSecond r v) s =
          .next (s.wrote r { s.settings with rollSecond := min 86399 v.toNat } (decide (86399 < v.toNat))).examineDay))
    ∧ (s.clock.set = false → s.examineDay = s)
    ∧ ∀ day : Int, s.clock.set = true → day * 86400 ≤ (s.clock.count : Int) - s.settings.rollSecond →
      (s.clock.count : Int) - s.settings.rollSecond < (day + 1) * 86400 →
      (s.index.storedDay = none →
        s.examineDay = ({ s with index := { s.index with storedDay := some day } } : State).enqueueRoll)
      ∧ (∀ old : Int, s.index.storedDay = some old → day ≤ old → s.examineDay = s)
      ∧ (∀ old : Int, s.index.storedDay = some old → old < day →
        s.examineDay = ({ s with
          index := { s.index with
            storedDay := some day
            totals := s.index.totals.map fun t =>
              { today := 0, previous := if day = old + 1 then t.today else 0 } }
          tickets := { s.tickets with capNotice := List.replicate s.tickets.capNotice.length false }
          notices := s.announced [s.notice .dayRolled none none 0 0 [day, day - old]] } : State).enqueueRoll)
      ∧ (s.tickets.rollPending = false → s.store.reservedCount = 0 →
        s.enqueueRoll = { s with store := s.store.join { extents := [.indexTotals s.index], reserved := true } })
      ∧ (s.tickets.rollPending = false → 1 ≤ s.store.reservedCount → s.store.ordinaryFilled < 16 →
        s.enqueueRoll = { s with store := s.store.join { extents := [.indexTotals s.index], reserved := false } })
      ∧ (s.tickets.rollPending = false → 1 ≤ s.store.reservedCount → 16 ≤ s.store.ordinaryFilled →
        s.enqueueRoll = { s with tickets := { s.tickets with rollPending := true } })
      ∧ (s.tickets.rollPending = true → s.enqueueRoll = s)

/-- FETCH_NOTICE (R178): the oldest notice at the smallest level number leaves the queue, its level joins the set of levels in
progress, the overrun flag is answered and cleared. SET_NOTICE_MASK (R180): the mask given replaces the mask held. NOTICE_DONE
(R179): the set is held in ascending order (`NoticeState.bounded`), each level at most once; the smallest one leaves it and is
answered, the queue stays, and the attention line follows. -/
def Obligations.NoticesAreFetchedAndDone : Prop :=
  (∀ (s : State) (r : Req), s.Takes r →
     ((s.notices.get r.station).queue = [] → exec (.fetchNotice r) s = .next (s.refusedWith r 0x04 .notFound))
     ∧ (∀ (before after : List Notice) (n : Notice), (s.notices.get r.station).queue = before ++ n :: after →
       (∀ x ∈ before, n.level < x.level) → (∀ x ∈ after, n.level ≤ x.level) → n.level ≤ 7 →
       exec (.fetchNotice r) s = .next { s with
         notices := s.notices.set r.station {
           queue := before ++ after
           inProgress := [1, 2, 3, 4, 5, 6, 7].filter fun v =>
             decide (v ∈ (s.notices.get r.station).inProgress ∨ v = n.level)
           mask := (s.notices.get r.station).mask
           overrun := false }
         ports := s.reply r 0x04 .ok false (.notice n (s.notices.get r.station).overrun) })
     ∧ ∀ levels : List Byte,
       ((∃ v ∈ levels, v.toNat < 1 ∨ 7 < v.toNat) →
         exec (.setNoticeMask r levels) s = .next (s.refusedWith r 0x06 .range))
       ∧ ((∀ v ∈ levels, 1 ≤ v.toNat ∧ v.toNat ≤ 7) →
         exec (.setNoticeMask r levels) s = .next { s with
           notices := s.notices.set r.station { s.notices.get r.station with
             mask := [1, 2, 3, 4, 5, 6, 7].filter fun v => levels.any fun b => decide (b.toNat = v) }
           ports := s.reply r 0x06 .ok false .none }))
  ∧ (∀ (s : State) (r : Req), s.Takes r →
       ((s.notices.get r.station).inProgress = [] → exec (.noticeDone r) s = .next (s.refusedWith r 0x05 .notFound))
       ∧ ∀ v : Nat, (s.notices.get r.station).bounded = true → v ∈ (s.notices.get r.station).inProgress →
         (∀ x ∈ (s.notices.get r.station).inProgress, v ≤ x) →
         ∃ t, exec (.noticeDone r) s = .next t
           ∧ t = { s with
               notices := s.notices.set r.station { s.notices.get r.station with
                 inProgress := (s.notices.get r.station).inProgress.filter fun x => decide (x ≠ v) }
               ports := s.reply r 0x05 .ok false (.level v) }
           ∧ t.attention r.station = (s.notices.get r.station).queue.any fun q =>
               !(s.notices.get r.station).mask.contains q.level
                 && (s.notices.get r.station).inProgress.all fun x => decide (x = v ∨ q.level < x))

/-- How a notice joins a station's queue (R176, R177): at the end while fewer than 32 wait; into a full queue in place of the
oldest notice of the lowest priority present when it is more urgent than that, and otherwise not at all, with overrun set in
both cases. A notice joins the queue of every station whose decision for its scope and class is not NONE. -/
def Obligations.NoticesJoinTheQueues : Prop :=
  (∀ (q : NoticeState) (n : Notice),
    (q.queue.length < 32 → q.join n = { q with queue := q.queue ++ [n] })
    ∧ (∀ (before after : List Notice) (m : Notice), 32 ≤ q.queue.length → q.queue = before ++ m :: after →
        (∀ x ∈ before, x.level < m.level) → (∀ x ∈ after, x.level ≤ m.level) → n.level < m.level →
        q.join n = { q with queue := before ++ after ++ [n], overrun := true })
    ∧ (32 ≤ q.queue.length → (∀ x ∈ q.queue, x.level ≤ n.level) → q.join n = { q with overrun := true }))
  ∧ ∀ (s : State) (kind : NoticeKind) (l : Option Lane) (d : Option Deck) (ticket detail : Nat) (values : List Int),
    s.raiseNotice kind l d ticket detail values = { s with
      notices := s.announced [s.notice kind l d ticket detail values] }
    ∧ ∀ st, (s.announced [s.notice kind l d ticket detail values]).get st =
        if s.decision st (scopeOf l) kind.cls = .none then s.notices.get st
        else (s.notices.get st).join (s.notice kind l d ticket detail values)

/-- CLEAR_CONDITION and SET_CONDITION_ENABLE (R184, R185), and what an activation of a condition with a notice does (R182): it
sets the latch, which CLEAR_CONDITION clears while the condition is inactive. That 01H sets the enable and 00H clears it is the
model's deduction, log entry 19. -/
def Obligations.ConditionsAreHeld : Prop :=
  (∀ (s : State) (r : Req) (b : Byte), s.Takes r →
    (10 ≤ b.toNat → exec (.clearCondition r b) s = .next (s.refusedWith r 0x07 .range))
    ∧ (∀ e : Byte, (10 ≤ b.toNat ∨ b.toNat = 4 ∨ b.toNat = 5 ∨ b.toNat = 8 ∨ b.toNat = 9 ∨ 2 ≤ e.toNat) →
        exec (.setConditionEnable r b e) s = .next (s.refusedWith r 0x08 .range))
    ∧ ∀ k : Condition, Condition.ofNat? b.toNat = some k → s.decision r.station .yard .yard = .control →
      ((s.condition k).active = true → exec (.clearCondition r b) s = .next (s.refusedWith r 0x07 .stillActive))
      ∧ ((s.condition k).active = false → exec (.clearCondition r b) s = .next { s with
          conditions := s.conditions.set k { active := false, latched := false, enable := (s.condition k).enable }
          ports := s.reply r 0x07 .ok false .none })
      ∧ (∀ e : Byte, b.toNat ∈ [0, 1, 2, 3, 6, 7] → e.toNat < 2 →
          exec (.setConditionEnable r b e) s = .next { s with
            conditions := s.conditions.set k { s.condition k with enable := decide (e.toNat = 1) }
            ports := s.reply r 0x08 .ok false .none }))
  ∧ ∀ (s : State) (k : Condition) (f : State → State),
    ((s.condition k).active = true → s.activateWith k f = s)
    ∧ ((s.condition k).active = false →
        let t : State := { s with conditions := s.conditions.set k { s.condition k with active := true, latched := true } }
        s.activateWith k f = if (s.condition k).enable then f t else t)

/-! ### The record store -/

/-- The engine's attempt (R145 to R148, R150): an item joins at the end of the queue while fewer than 16 ordinary slots are
filled; where the queue was empty and the engine IDLE, its first extent becomes current with attempt count 1, and the engine is in
WRITING as soon as the port is free of reads. The attempt begins in WRITING with the port free (that ATTEMPT_START marks this is
the model's deduction, log entry 11), is in WAIT_READY once its write has been issued, goes on polling while the device is busy,
and reads the extent back when ready is answered with verify ON. In FAULT, STORE_RETRY makes the current extent's attempt count
1, the engine is in WRITING as soon as the port is free, and STORE_FAULT becomes inactive with its latch as it stands. An event
that the engine's state does not allow changes nothing (log entry 20). -/
def Obligations.AttemptsProgress : Prop :=
  (∀ s : State,
    (s.store.state = .writing → s.store.attemptOn = false → s.store.serving = [] → s.store.current ≠ none →
      exec .attemptStart s = .next { s with store := { s.store with attemptOn := true } })
    ∧ (s.store.state ≠ .writing ∨ s.store.attemptOn = true ∨ s.store.serving ≠ [] → exec .attemptStart s = .next s)
    ∧ (s.store.state = .writing → s.store.attemptOn = true →
      exec .writeIssued s = .next { s with store := { s.store with state := .waitReady } })
    ∧ (s.store.state ≠ .writing ∨ s.store.attemptOn = false → exec .writeIssued s = .next s)
    ∧ exec .statusPollBusy s = .next s
    ∧ (s.store.state = .waitReady → s.store.attemptOn = true → s.store.verifying = false → s.settings.verify = true →
      exec .readyAnswered s = .next { s with store := { s.store with verifying := true } })
    ∧ (s.store.state ≠ .waitReady ∨ s.store.attemptOn = false ∨ s.store.verifying = true →
      exec .readyAnswered s = .next s ∧ exec .readyTimeout s = .next s)
    ∧ ∀ read, s.store.verifying = false → exec (.verifyReadDone read) s = .next s)
  ∧ (∀ (s : State) (r : Req), s.Controls r .yard .yard →
    (s.store.state ≠ .fault → exec (.storeRetry r) s = .next (s.refusedWith r 0x0A .wrongState))
    ∧ ∀ c, s.store.state = .fault → s.store.current = some c →
      exec (.storeRetry r) s = .next { s with
        store := { s.store with
          state := if s.store.serving = [] then .writing else .fault
          current := some { c with attempt := 1 } }
        conditions := s.conditions.set .storeFault { s.condition .storeFault with active := false }
        ports := s.reply r 0x0A .ok false .none })
  ∧ (∀ s : State, s.slotFree = true ↔ (s.store.queue.filter fun i => !i.reserved).length < 16)
  ∧ ∀ (e : StoreEngine) (i : WriteItem),
    (e.state = .idle → e.queue = [] → e.join i = { e with
      queue := [i]
      state := if e.serving = [] then .writing else .idle
      current := some { index := 0, attempt := 1 } })
    ∧ (e.state ≠ .idle ∨ e.queue ≠ [] → e.join i = { e with queue := e.queue ++ [i] })

/-- An attempt succeeds (R148) when ready is answered with verify OFF, or when every byte read back equals the byte written: the
item's next extent becomes current, or the item leaves, a pending day-roll item takes the freed slot (R142), and the next
item's first extent becomes current or the engine is IDLE. It fails (R149) at a ready timeout, or when a byte read back
differs: below the third attempt the same extent is written again, and after the third the engine is in FAULT, STORE_FAULT is
active and latched, and its notice names the area of the extent and the cause. Reads then waiting are served first (R152). -/
def Obligations.AttemptsEnd : Prop :=
  (∀ (s : State) (i : WriteItem) (rest : List WriteItem) (c : CurrentExtent) (x : Record) (event : Instr),
     s.store.queue = i :: rest → s.store.current = some c → i.extents[c.index]? = some x →
     ((event = .readyAnswered ∧ s.store.state = .waitReady ∧ s.store.attemptOn = true ∧ s.store.verifying = false
         ∧ s.settings.verify = false)
       ∨ (event = .verifyReadDone x.bytes ∧ s.store.verifying = true)) →
     let free : StoreEngine := { s.store with
       attemptOn := false
       verifying := false
       serving := s.store.serving ++ s.store.waiting
       waiting := [] }
     (c.index + 1 < i.extents.length →
       exec event s = .next { s with
         store := { free with state := .writing, current := some { index := c.index + 1, attempt := 1 } } })
     ∧ (c.index + 1 = i.extents.length → s.tickets.rollPending = false → rest = [] →
       exec event s = .next { s with store := { free with queue := [], state := .idle, current := none } })
     ∧ (c.index + 1 = i.extents.length → s.tickets.rollPending = false → rest ≠ [] →
       exec event s = .next { s with
         store := { free with queue := rest, state := .writing, current := some { index := 0, attempt := 1 } } })
     ∧ (c.index + 1 = i.extents.length → s.tickets.rollPending = true →
       exec event s = .next { s with
         tickets := { s.tickets with rollPending := false }
         store := { free with
           queue := rest ++ [{ extents := [.indexTotals s.index], reserved := i.reserved }]
           state := .writing
           current := some { index := 0, attempt := 1 } } }))
  ∧ (∀ (s : State) (i : WriteItem) (rest : List WriteItem) (c : CurrentExtent) (x : Record) (event : Instr) (cause : FailCause),
       s.store.queue = i :: rest → s.store.current = some c → i.extents[c.index]? = some x →
       ((event = .readyTimeout ∧ cause = .readyTimeout ∧ s.store.state = .waitReady ∧ s.store.attemptOn = true
           ∧ s.store.verifying = false)
         ∨ (∃ read, event = .verifyReadDone read ∧ cause = .compareFailure ∧ read ≠ x.bytes ∧ s.store.verifying = true)) →
       let free : StoreEngine := { s.store with
         attemptOn := false
         verifying := false
         lastFailure := some cause
         serving := s.store.serving ++ s.store.waiting
         waiting := [] }
       (c.attempt < 3 →
         exec event s = .next { s with
           store := { free with state := .writing, current := some { c with attempt := c.attempt + 1 } } })
       ∧ (3 ≤ c.attempt → (s.condition .storeFault).active = false →
         exec event s = .next { s with
           store := { free with state := .fault }
           conditions := s.conditions.set .storeFault { s.condition .storeFault with active := true, latched := true }
           notices :=
             if (s.condition .storeFault).enable then
               s.announced [s.notice .storeFault none none 0 (2 * x.area.toNat + if cause = .readyTimeout then 0 else 1) []]
             else s.notices }))

/-! ### Decks -/

/-- The two roundings of a weight (R7, R8, R11): to the nearest integer with ties away from zero, and to the nearest division
with an exact half toward plus infinity. -/
def Obligations.RoundingsAreNearest : Prop :=
  (∀ (num : Int) (den : Nat), 0 < den →
    (2 * (roundAway num den * den - num)).natAbs ≤ den
    ∧ ((2 * (roundAway num den * den - num)).natAbs = den → num.natAbs < (roundAway num den * den).natAbs))
  ∧ ∀ (grams : Int) (d : Nat), 0 < d →
    1000 * d * roundDivision grams d - 500 * d ≤ grams ∧ grams < 1000 * d * roundDivision grams d + 500 * d

/-- A sample arrival (R2 to R5, R7 to R19, R76, R95, R38): the frame is recorded, the sample timer restarts, CELL_LINK_Dn
becomes inactive; a CELL_FAULT sample leaves the weights as they are, a good sample goes through sum, filter, zero, status,
division, stability and centre of zero; DECK_STATUS is raised when the status changes; then the coupled reading is formed, the
lanes that watch the deck take it, and zero tracking considers it, an order that is the model's deduction, log entry 15. Where a
record that failed its checks holds F, d or N of 0 the mean, the rounded weight and the spread are free values, log entry 39.
Before the calibration area is loaded nothing happens. -/
def Obligations.SamplesFormReadings : Prop :=
  ∀ (s : State) (d : Deck) (seq : Byte) (cells : List CellSample),
    (s.phase.rank < 2 → exec (.sampleArrival d seq cells) s = .next s)
    ∧ (2 ≤ s.phase.rank →
      let u := s.deck d
      let r := u.cal.committed
      let gap := u.weight.lastSeq.any fun p => decide (seq.toNat ≠ (p + 1) % 256)
      let fault := cells.length ≠ r.cellCount ∨ (∃ c ∈ cells, c.status ≠ 0) ∨ u.cal.state = .outOfService
      ∃ w : WeightUnit,
        (fault → w = { u.weight with
          lastSeq := some seq.toNat
          filter := if gap then [] else u.weight.filter
          stability := if gap then [] else u.weight.stability
          refill := true
          reading := { u.weight.reading with
            status := .cellFault
            stable := false
            centreZero := false
            time := some s.clock.count } })
        ∧ (¬fault →
          let emptied := gap || u.weight.refill
          let wRaw := roundAway ((cells.zip (r.zeros.zip r.spans)).map fun c =>
            (c.1.raw.toInt - c.2.1) * (c.2.2 : Int)).sum 1024
          let all := (if emptied then [] else u.weight.filter) ++ [wRaw]
          let filter := all.drop (all.length - r.filterLength)
          let wAvg := if filter = [] then Config.meanOfNone wRaw else roundAway filter.sum filter.length
          let wG := wAvg - u.weight.zero
          let status : WeightStatus :=
            if ((r.capacity : Int) + 9 * r.division) * 1000 < wG then .over
            else if wG < -(20 * (r.division : Int) * 1000) then .under
            else .valid
          let entries := (if emptied then [] else u.weight.stability) ++ [{ wAvg := wAvg, valid := decide (status = .valid) }]
          let stability := entries.drop (entries.length - r.stabilityCount)
          w = { u.weight with
            lastSeq := some seq.toNat
            filter := filter
            stability := stability
            refill := false
            reading := {
              w :=
                if status = .valid then
                  if r.division = 0 then Config.weightOfNoDivision wG else roundDivision wG r.division * r.division
                else u.weight.reading.w
              status := status
              stable := decide (status = .valid ∧ stability.length = r.stabilityCount ∧ (∀ e ∈ stability, e.valid = true)
                ∧ (stability = [] → Config.spreadOfNone wAvg ≤ r.motionBand * r.division * 1000)
                ∧ ∀ a ∈ stability, ∀ b ∈ stability, a.wAvg - b.wAvg ≤ r.motionBand * r.division * 1000)
              centreZero := decide (status = .valid ∧ (wG.natAbs : Int) ≤ 250 * r.division)
              wRaw := some wRaw
              wAvg := some wAvg
              wG := some wG
              calCounter := r.counter
              time := some s.clock.count } })
        ∧ exec (.sampleArrival d seq cells) s =
          .next ((({ s with
            decks := s.decks.set d { u with
              link := { u.link with
                rx := []
                latest := some { seq := seq.toNat, cells := cells, time := s.clock.count }
                timer := .running (s.settings.sampleTimeout.get d) }
              weight := w }
            conditions := s.conditions.set (cellLinkCondition d) { s.condition (cellLinkCondition d) with active := false }
            notices :=
              if w.reading.status = u.weight.reading.status then s.notices
              else s.announced [s.notice .deckStatus none (some d) 0 w.reading.status.toNat []] } :
              State).recouple.lanesTakeReading d).track d))

/-- The expiry of a deck's sample timer (R5): the status becomes STALE, the weights stay, the refill-pending flag is set,
CELL_LINK_Dn becomes active and latched, and the timer stops, so that one silence gives one expiry; DECK_STATUS is raised when the
status changes (R17), then the coupled reading is formed again (R18) and the lanes that watch the deck take the reading (R96), in
the order of log entry 15; an expiry of a timer that does not run changes nothing (log entry 20). Frames that are discarded
(R1, R2, R6, R43, R44): the receiver is in HUNT again and its count goes up by one, up to 65,535; nothing else changes, and
before its area is loaded a receiver takes no frame. -/
def Obligations.SilenceAndDiscardedFrames : Prop :=
  (∀ (s : State) (d : Deck),
     ((s.deck d).link.timer = .notStarted ∨ (s.deck d).link.timer = .expired → exec (.sampleTimerExpiry d) s = .next s)
     ∧ ∀ n, (s.deck d).link.timer = .running n →
       exec (.sampleTimerExpiry d) s =
         .next (({ s with
           decks := s.decks.set d { s.deck d with
             link := { (s.deck d).link with timer := .expired }
             weight := { (s.deck d).weight with
               refill := true
               reading := { (s.deck d).weight.reading with status := .stale, stable := false, centreZero := false } } }
           conditions := s.conditions.set (cellLinkCondition d) {
             active := true
             latched := (s.condition (cellLinkCondition d)).latched || !(s.condition (cellLinkCondition d)).active
             enable := (s.condition (cellLinkCondition d)).enable }
           notices :=
             if (s.deck d).weight.reading.status = .stale then s.notices
             else s.announced [s.notice .deckStatus none (some d) 0 3 []] } : State).recouple.lanesTakeReading d))
  ∧ ((∀ (s : State) (d : Deck) (event : Instr),
       event = .cellFrameRefused d ∨ event = .cellFrameGap d ∨ event = .cellFrameBadCount d →
       (s.phase.rank < 2 → exec event s = .next s)
       ∧ (2 ≤ s.phase.rank → exec event s = .next { s with
           decks := s.decks.set d { s.deck d with
             link := { (s.deck d).link with
               rx := []
               discarded := if (s.deck d).link.discarded < 65535 then (s.deck d).link.discarded + 1
                 else (s.deck d).link.discarded } } }))
     ∧ ∀ (s : State) (l : Lane) (event : Instr), event = .tagFrameRefused l ∨ event = .tagFrameGap l →
       (s.phase.rank < 1 → exec event s = .next s)
       ∧ (1 ≤ s.phase.rank → exec event s = .next { s with
           lanes := s.lanes.set l { s.lane l with
             tagRx := { (s.lane l).tagRx with
               rx := []
               discarded := if (s.lane l).tagRx.discarded < 65535 then (s.lane l).tagRx.discarded + 1
                 else (s.lane l).tagRx.discarded } } }))

/-- The coupled reading (R18, R19): W_gc, d_c and Max_c from both decks, the status by the order STALE, CELL_FAULT, OVER,
UNDER, the rounded weight kept while the status is not VALID; with d_c = 0 the rounded weight is a free value, log entry 39. -/
def Obligations.CoupledReadingIsFormed : Prop :=
  State.reset.coupled.w = 0 ∧ ∀ s : State,
    let a := s.decks.d0
    let b := s.decks.d1
    let c := s.recouple.coupled
    s.recouple = { s with coupled := c }
    ∧ c.division = max a.cal.committed.division b.cal.committed.division
    ∧ c.capacity = a.cal.committed.capacity + b.cal.committed.capacity
    ∧ c.counter0 = a.weight.reading.calCounter ∧ c.counter1 = b.weight.reading.calCounter
    ∧ (c.stable = true ↔ a.weight.reading.stable = true ∧ b.weight.reading.stable = true)
    ∧ (∀ x y, a.weight.reading.wG = some x → b.weight.reading.wG = some y → c.wG = some (x + y))
    ∧ (a.weight.reading.wG = none ∨ b.weight.reading.wG = none → c.wG = none)
    ∧ (∀ st, st = .stale ∨ st = .cellFault ∨ st = .over ∨ st = .under →
        (a.weight.reading.status = st ∨ b.weight.reading.status = st) →
        (∀ earlier, earlier ∈ [WeightStatus.stale, .cellFault, .over, .under].takeWhile (fun x => decide (x ≠ st)) →
          a.weight.reading.status ≠ earlier ∧ b.weight.reading.status ≠ earlier) →
        c.status = st ∧ c.w = s.coupled.w)
    ∧ ∀ g, a.weight.reading.status = .valid → b.weight.reading.status = .valid → c.wG = some g →
      (((c.capacity : Int) + 9 * c.division) * 1000 < g → c.status = .over ∧ c.w = s.coupled.w)
      ∧ (g ≤ ((c.capacity : Int) + 9 * c.division) * 1000 →
        c.status = .valid ∧ c.w = if c.division = 0 then Config.weightOfNoDivision g else roundDivision g c.division * c.division)

/-- Zero tracking (R38, R39, R10): a step is taken when every condition holds, makes Z + W_g the zero limited to ±Max_g / 50, and
restarts the interval; a cut step sets the zero limit flag and raises ZERO_LIMIT when the flag was clear. ZERO (R37): refused
at the first failing check, and otherwise Z takes the W_avg of the reading in place, the zero limit flag is cleared and the
tracking interval restarts. -/
def Obligations.DeckZeroIsSet : Prop :=
  (∀ (s : State) (d : Deck),
     let u := s.deck d
     let due := u.cal.committed.zeroTracking = 1 ∧ u.cal.state = .inService ∧ s.holders.get d = none ∧ s.claims.get d = []
       ∧ u.weight.reading.status = .valid ∧ u.weight.reading.stable = true
       ∧ (∃ g, u.weight.reading.wG = some g ∧ (g.natAbs : Int) ≤ 500 * u.cal.committed.division)
       ∧ ∀ ms, u.weight.trackMs = some ms → 1000 ≤ ms
     (¬due → s.track d = s)
     ∧ (due → ∀ (g limit : Int), u.weight.reading.wG = some g → limit = (u.cal.committed.capacity : Int) * 1000 / 50 →
       let target := u.weight.zero + g
       s.track d = { s with
         decks := s.decks.set d { u with
           weight := { u.weight with
             zero := max (-limit) (min limit target)
             zeroLimit := u.weight.zeroLimit || decide (target < -limit ∨ limit < target)
             trackMs := some 0 } }
         notices :=
           if (target < -limit ∨ limit < target) ∧ u.weight.zeroLimit = false then
             s.announced [s.notice .zeroLimit none (some d) 0 0 []]
           else s.notices }))
  ∧ (∀ (s : State) (r : Req) (b : Byte),
       (2 ≤ b.toNat → s.Takes r → exec (.zero r b) s = .next (s.refusedWith r 0x13 .range))
       ∧ ∀ d : Deck, b.toNat = d.toNat → s.Controls r .yard .deck →
         let u := s.deck d
         let far := u.cal.committed.capacity * 1000 / 50 < (u.weight.reading.wAvg.getD 0).natAbs
         (u.cal.state ≠ .inService → exec (.zero r b) s = .next (s.refusedWith r 0x13 .wrongState))
         ∧ (u.cal.state = .inService →
           (s.holders.get d ≠ none → exec (.zero r b) s = .next (s.refusedWith r 0x13 .deckClaimed))
           ∧ (s.holders.get d = none →
             (u.weight.reading.status ≠ .valid → exec (.zero r b) s = .next (s.refusedWith r 0x13 .status))
             ∧ (u.weight.reading.status = .valid →
               (u.weight.reading.stable = false → exec (.zero r b) s = .next (s.refusedWith r 0x13 .motion))
               ∧ (u.weight.reading.stable = true →
                 (far → exec (.zero r b) s = .next (s.refusedWith r 0x13 .range))
                 ∧ ∀ avg, ¬far → u.weight.reading.wAvg = some avg →
                   exec (.zero r b) s = .next { s with
                     decks := s.decks.set d { u with
                       weight := { u.weight with zero := avg, zeroLimit := false, trackMs := some 0 } }
                     ports := s.reply r 0x13 .ok false .none })))))

/-- The staged edit (R26, R27, R31): CAL_OPEN copies the committed record into the edit copy and holds the deck's state;
CAL_WRITE writes its pairs into the edit copy alone, a later one replacing an earlier; CAL_DISCARD drops it and the held state
returns, so that the queues are examined. A deck byte of 2 or more is refused with RANGE (R165); that an empty list of pairs or a
value outside its range is refused before WRONG_STATE is the model's deduction, log entry 14. -/
def Obligations.EditsAreStaged : Prop :=
  (∀ (s : State) (r : Req) (b : Byte) (pairs : List CalPair), 2 ≤ b.toNat → s.Takes r →
    exec (.calOpen r b) s = .next (s.refusedWith r 0x14 .range)
    ∧ exec (.calWrite r b pairs) s = .next (s.refusedWith r 0x15 .range)
    ∧ exec (.calDiscard r b) s = .next (s.refusedWith r 0x17 .range))
  ∧ ∀ (s : State) (r : Req) (b : Byte) (d : Deck), b.toNat = d.toNat → s.Controls r .yard .deck →
    let u := s.deck d
    (s.sealOpen = false → exec (.calOpen r b) s = .next (s.refusedWith r 0x14 .sealClosed))
    ∧ (s.sealOpen = true → u.cal.state = .calEdit → exec (.calOpen r b) s = .next (s.refusedWith r 0x14 .wrongState))
    ∧ (s.sealOpen = true → u.cal.state ≠ .calEdit →
      (s.holders.get d ≠ none → exec (.calOpen r b) s = .next (s.refusedWith r 0x14 .deckClaimed))
      ∧ (s.holders.get d = none → exec (.calOpen r b) s = .next { s with
          decks := s.decks.set d { u with
            cal := { state := .calEdit, preEdit := some u.cal.state, committed := u.cal.committed,
                     edit := some u.cal.committed } }
          ports := s.reply r 0x14 .ok false .none }))
    ∧ (∀ pairs : List CalPair,
      (pairs = [] ∨ (∃ p ∈ pairs, CalPair.ok p = false) → exec (.calWrite r b pairs) s = .next (s.refusedWith r 0x15 .range))
      ∧ (pairs ≠ [] → (∀ p ∈ pairs, CalPair.ok p = true) →
        (u.cal.state ≠ .calEdit → exec (.calWrite r b pairs) s = .next (s.refusedWith r 0x15 .wrongState))
        ∧ ∀ e, u.cal.state = .calEdit → u.cal.edit = some e →
          exec (.calWrite r b pairs) s = .next { s with
            decks := s.decks.set d { u with
              cal := { u.cal with edit := some (pairs.foldl (fun e p => CalPair.write p e) e) } }
            ports := s.reply r 0x15 .ok false .none }))
    ∧ (u.cal.state ≠ .calEdit → exec (.calDiscard r b) s = .next (s.refusedWith r 0x17 .wrongState))
    ∧ (∀ old, u.cal.state = .calEdit → u.cal.preEdit = some old →
      exec (.calDiscard r b) s = .next (({ s.heard r.station with
        decks := s.decks.set d { u with
          cal := { state := old, preEdit := none, committed := u.cal.committed, edit := none } } } :
            State).examine.acked r 0x17))

/-- CAL_COMMIT (R28, R29): refused at the first failing check with the edit copy as it was; otherwise the edit copy becomes the
committed record with the next counter and a fresh checksum, the histories are emptied, Z is 0, the record joins the write
queue, the deck is IN_SERVICE, CAL_BAD_Dn is inactive with its latch as it stood, CAL_COMMITTED is raised, and the queues are
examined. A deck byte of 2 or more is refused with RANGE (R165). -/
def Obligations.CommitsTakeTheEdit : Prop :=
  (∀ (s : State) (r : Req) (b : Byte), 2 ≤ b.toNat → s.Takes r → exec (.calCommit r b) s = .next (s.refusedWith r 0x16 .range))
  ∧ ∀ (s : State) (r : Req) (b : Byte) (d : Deck), b.toNat = d.toNat → s.Controls r .yard .deck →
    let u := s.deck d
    (u.cal.state ≠ .calEdit → exec (.calCommit r b) s = .next (s.refusedWith r 0x16 .wrongState))
    ∧ ∀ e, u.cal.state = .calEdit → u.cal.edit = some e →
      let good := e.commitOk = true ∧ 0 < e.division ∧ e.division ∣ e.capacity ∧ e.capacity / e.division ≤ 10000
      (¬good → exec (.calCommit r b) s = .next (s.refusedWith r 0x16 .range))
      ∧ (good → 65535 ≤ u.cal.committed.counter →
          exec (.calCommit r b) s = .next (s.refusedWith r 0x16 .counterExhausted))
      ∧ (good → u.cal.committed.counter < 65535 → s.slotFree = false →
          exec (.calCommit r b) s = .next (s.refusedWith r 0x16 .storeBusy))
      ∧ (good → u.cal.committed.counter < 65535 → s.slotFree = true →
        ∀ record : CalRecord,
          record = { e with
            counter := u.cal.committed.counter + 1
            checksum := crc16 ({ e with counter := u.cal.committed.counter + 1 } : CalRecord).body } →
          exec (.calCommit r b) s = .next (({ s.heard r.station with
            decks := s.decks.set d { u with
              weight := { u.weight with filter := [], stability := [], zero := 0, zeroLimit := false }
              cal := { state := .inService, preEdit := none, committed := record, edit := none } }
            store := s.queuedWith [.calibration d record]
            conditions := s.conditions.set (calBadCondition d) { s.condition (calBadCondition d) with active := false }
            notices := s.announced [s.notice .calCommitted none (some d) 0 0 [(record.counter : Int)]] } :
              State).examine.acked r 0x16))

/-- The committed record of a deck and its counter change by an accepted CAL_COMMIT, which raises the counter by exactly one,
and by the start-up events alone (R30). -/
def Obligations.CalibrationChangesByCommit : Prop :=
  ∀ (c : Instr) (s t : State) (d : Deck), exec c s = .next t →
    (∀ d0 d1, c ≠ .calibrationLoaded d0 d1) → (∀ a b, c ≠ .yardReset a b) →
    (t.deck d).cal.committed = (s.deck d).cal.committed
    ∨ (∃ r b, c = .calCommit r b ∧ b.toNat = d.toNat
        ∧ (t.deck d).cal.committed.counter = (s.deck d).cal.committed.counter + 1
        ∧ (t.deck d).cal.committed.checksum = crc16 (t.deck d).cal.committed.body)

/-! ### Barriers and the yard inputs -/

/-- A raise and a lower request to a barrier (R46, R47, R49, R50, R51, R56, R58): nothing in FAULT or while ESTOP is active;
otherwise by the barrier's state. A barrier A that enters FALLING clears go. BARRIER (R57): refused unless the lane is in HOLD,
while ESTOP is active, and by the barrier's FAULT; RAISE and LOWER are a raise and a lower request, CLEAR takes the barrier out
of FAULT into the state its limits show, and with both limits active is refused and sets the cause to LIMITS. A lane byte of 4 or
more, or a barrier byte of 2 or more, is refused with RANGE before the decision (R165). -/
def Obligations.BarriersTakeRequests : Prop :=
  (∀ (s : State) (l : Lane) (i : BarrierId),
     let b := (s.lane l).barrier i
     let time := (s.laneSettings l).travel
     let settled := b.beamBroken = false ∧ b.clearDelay = none
     (b.state = .fault ∨ s.estop = true → s.askRaise l i = s ∧ s.askLower l i = s)
     ∧ (s.estop = false →
       (b.state = .down → b.upLimit = false →
         s.askRaise l i = s.withBarrier l i false
           { b with state := .rising, lowerPending := false, travel := some time, leaveLimit := true })
       ∧ (b.state = .stopped ∨ b.state = .falling → b.upLimit = false →
         s.askRaise l i = s.withBarrier l i false
           { b with state := .rising, lowerPending := false, travel := some time, leaveLimit := false })
       ∧ (b.state = .down ∨ b.state = .stopped ∨ b.state = .falling → b.upLimit = true →
         s.askRaise l i = s.withBarrier l i false
           { b with state := .up, lowerPending := false, travel := none, leaveLimit := false })
       ∧ (b.state = .rising ∨ b.state = .up →
         s.askRaise l i = s.withBarrier l i false { b with lowerPending := false })
       ∧ (b.state = .up ∨ b.state = .stopped → b.lowerPending = false → settled → b.downLimit = false →
         s.askLower l i = s.withBarrier l i true
           { b with state := .falling, reversals := 0, travel := some time, leaveLimit := decide (b.state = .up) })
       ∧ (b.state = .up ∨ b.state = .stopped → b.lowerPending = false → settled → b.downLimit = true →
         s.askLower l i = s.withBarrier l i true
           { b with state := .down, reversals := 0, travel := none, leaveLimit := false })
       ∧ ((b.state = .up ∨ b.state = .stopped) ∧ ¬settled ∨ b.state = .rising → b.lowerPending = false →
         s.askLower l i = s.withBarrier l i false { b with reversals := 0, lowerPending := true })
       ∧ (b.state = .falling ∨ b.state = .down ∨ b.lowerPending = true → s.askLower l i = s)))
  ∧ (∀ (s : State) (r : Req) (x y : Byte), 4 ≤ x.toNat ∨ 2 ≤ y.toNat → s.Takes r →
       exec (.barrierRaise r x y) s = .next (s.refusedWith r 0x21 .range)
       ∧ exec (.barrierLower r x y) s = .next (s.refusedWith r 0x21 .range)
       ∧ exec (.barrierClear r x y) s = .next (s.refusedWith r 0x21 .range))
  ∧ (∀ (s : State) (r : Req) (x y : Byte) (l : Lane) (i : BarrierId), x.toNat = l.toNat → y.toNat = i.toNat →
       s.Controls r (.lane l) .lane →
       let b := (s.lane l).barrier i
       let refusal := (Host.Outcome.next (s.refusedWith r 0x21 .wrongState) : Host.Outcome State Fault Refusal)
       ((s.lane l).state ≠ .hold ∨ s.estop = true →
         exec (.barrierRaise r x y) s = refusal ∧ exec (.barrierLower r x y) s = refusal
           ∧ exec (.barrierClear r x y) s = refusal)
       ∧ ((s.lane l).state = .hold → s.estop = false →
         (b.state = .fault → exec (.barrierRaise r x y) s = refusal ∧ exec (.barrierLower r x y) s = refusal)
         ∧ (b.state ≠ .fault →
           exec (.barrierRaise r x y) s = .next (((s.heard r.station).askRaise l i).acked r 0x21)
           ∧ exec (.barrierLower r x y) s = .next (((s.heard r.station).askLower l i).acked r 0x21)
           ∧ exec (.barrierClear r x y) s = refusal)
         ∧ (b.state = .fault → ¬(b.upLimit = true ∧ b.downLimit = true) →
           exec (.barrierClear r x y) s = .next { (s.withBarrier l i false { b with
               state := if b.downLimit then .down else if b.upLimit then .up else .stopped
               cause := none
               lowerPending := false
               reversals := 0 }) with
             ports := s.reply r 0x21 .ok false .none })
         ∧ (b.state = .fault → b.upLimit = true → b.downLimit = true →
           exec (.barrierClear r x y) s = .next { (s.withBarrier l i false { b with cause := some .limits }) with
             ports := s.reply r 0x21 .wrongState false .none })))

/-- A limit changes (R49, R50, R52, R54): arrivals, the leave-limit timer, a barrier moved at rest; both limits active give
FAULT with cause LIMITS, with BARRIER_FAULT and the lane held; a barrier in FAULT takes the level alone, and so does a barrier
whose movement or rest a change does not touch. Then the lane's condition is evaluated (R76). A level already held is no change (log
entry 20); that a change before the configuration is loaded changes nothing is the model's deduction, log entry 32. -/
def Obligations.LimitsMoveBarriers : Prop :=
  ∀ (s : State) (l : Lane) (i : BarrierId) (limit : Limit) (active : Bool),
    let b := (s.lane l).barrier i
    let m := match limit with
      | .up => { b with upLimit := active }
      | .down => { b with downLimit := active }
    let time := (s.laneSettings l).travel
    let settled := b.beamBroken = false ∧ b.clearDelay = none
    let becomes := fun (fell : Bool) (x : Barrier) =>
      exec (.limitChange l i limit active) s = .next ((s.withBarrier l i fell x).evalPassage l)
    (s.phase.rank < 1 ∨ m = b → exec (.limitChange l i limit active) s = .next s)
    ∧ (1 ≤ s.phase.rank → m ≠ b →
      (b.state = .fault → becomes false m)
      ∧ (b.state ≠ .fault → m.upLimit = true → m.downLimit = true →
        exec (.limitChange l i limit active) s =
          .next (({ (s.withBarrier l i false { m with
            state := .fault
            cause := some .limits
            travel := none
            leaveLimit := false
            lowerPending := false }) with
            notices := s.announced [s.notice .barrierFault (some l) none 0 (3 * i.toNat + 2) []] } : State).hold l
              .barrierFault))
      ∧ (¬(m.upLimit = true ∧ m.downLimit = true) →
        (b.state = .rising ∨ b.state = .stopped → limit = .up → active = true → b.lowerPending = true → settled →
          becomes true { m with state := .falling, lowerPending := false, travel := some time, leaveLimit := true })
        ∧ (b.state = .rising → limit = .up → active = true → ¬(b.lowerPending = true ∧ settled) →
          becomes false { m with state := .up, travel := none, leaveLimit := false })
        ∧ (b.state = .stopped → limit = .up → active = true → ¬(b.lowerPending = true ∧ settled) →
          becomes false { m with state := .up })
        ∧ (b.state = .falling ∨ b.state = .stopped → limit = .down → active = true →
          becomes false { m with
            state := .down, travel := none, leaveLimit := false, reversals := 0, lowerPending := false })
        ∧ (b.state = .rising ∧ limit = .down ∨ b.state = .falling ∧ limit = .up → active = false →
          becomes false { m with leaveLimit := false })
        ∧ (b.state = .down ∧ limit = .down ∨ b.state = .up ∧ limit = .up → active = false →
          becomes false { m with state := .stopped })
        ∧ (b.state = .rising ∧ limit = .up ∨ b.state = .falling ∧ limit = .down ∨ b.state = .stopped → active = false →
          becomes false m)
        ∧ (b.state = .rising ∧ limit = .down ∨ b.state = .falling ∧ limit = .up → active = true → becomes false m)
        ∧ (b.state = .down ∧ (limit = .up ∨ active = true) ∨ b.state = .up ∧ (limit = .down ∨ active = true) →
          becomes false m)))

/-- The safety beam changes (R48, R53, R55): in FALLING a break reverses the barrier and counts, with the lowering taken up
again below the third reversal unless the lane is in HOLD, and the third raises OBSTRUCTED and holds the lane; any break stops
the clear-delay timer, and a change to clear starts it, a clear delay of 0 s expiring as it starts. At the clear-delay expiry a
waiting lowering begins; the travel and the leave-limit timer put the barrier in FAULT, with BARRIER_FAULT, and the lane is
held (R48, R50, R51, R52). What cannot take place changes nothing (log entry 20); that a beam change before the
configuration is loaded changes nothing is the model's deduction, log entry 32. -/
def Obligations.BeamsAndTimersOfBarriers : Prop :=
  (∀ (s : State) (l : Lane) (i : BarrierId),
     let b := (s.lane l).barrier i
     let c := s.laneSettings l
     let becomes := fun (broken fell : Bool) (x : Barrier) =>
       exec (.safetyBeamChange l i broken) s = .next ((s.withBarrier l i fell x).evalPassage l)
     (∀ broken, s.phase.rank < 1 ∨ b.beamBroken = broken → exec (.safetyBeamChange l i broken) s = .next s)
     ∧ (1 ≤ s.phase.rank → b.beamBroken = false →
       (b.state ≠ .falling → becomes true false { b with beamBroken := true, clearDelay := none })
       ∧ (b.state = .falling → b.reversals ≠ 2 →
         becomes true false { b with
           beamBroken := true
           clearDelay := none
           reversals := b.reversals + 1
           lowerPending := decide (b.reversals < 2 ∧ (s.lane l).state ≠ .hold)
           state := if b.upLimit then .up else .rising
           travel := if b.upLimit then none else some c.travel
           leaveLimit := false })
       ∧ (b.state = .falling → b.reversals = 2 →
         exec (.safetyBeamChange l i true) s =
           .next (({ (s.withBarrier l i false { b with
               beamBroken := true
               clearDelay := none
               reversals := 3
               lowerPending := false
               state := if b.upLimit then .up else .rising
               travel := if b.upLimit then none else some c.travel
               leaveLimit := false }) with
             notices := s.announced [s.notice .obstructed (some l) none 0 i.toNat []] } : State).hold l .obstructed)))
     ∧ (1 ≤ s.phase.rank → b.beamBroken = true →
       (0 < c.clear → becomes false false { b with beamBroken := false, clearDelay := some c.clear })
       ∧ (c.clear = 0 → b.lowerPending = true → b.state = .up ∨ b.state = .stopped → b.downLimit = false →
         becomes false true { b with
           beamBroken := false
           clearDelay := none
           state := .falling
           lowerPending := false
           travel := some c.travel
           leaveLimit := decide (b.state = .up) })
       ∧ (c.clear = 0 → b.lowerPending = false ∨ b.state ≠ .up ∧ b.state ≠ .stopped →
         becomes false false { b with beamBroken := false, clearDelay := none })))
  ∧ (∀ (s : State) (l : Lane) (i : BarrierId),
       let b := (s.lane l).barrier i
       let faults := fun (cause : FaultCause) (n : Nat) =>
         (.next (({ (s.withBarrier l i false { b with
           state := .fault, cause := some cause, travel := none, leaveLimit := false, lowerPending := false }) with
           notices := s.announced [s.notice .barrierFault (some l) none 0 (3 * i.toNat + n) []] } : State).hold l .barrierFault) :
           Host.Outcome State Fault Refusal)
       (b.clearDelay = none → exec (.clearDelayExpiry l i) s = .next s)
       ∧ (b.clearDelay ≠ none → b.lowerPending = true → b.state = .up ∨ b.state = .stopped → b.downLimit = false →
         exec (.clearDelayExpiry l i) s = .next ((s.withBarrier l i true { b with
           clearDelay := none
           state := .falling
           lowerPending := false
           travel := some (s.laneSettings l).travel
           leaveLimit := decide (b.state = .up) }).evalPassage l))
       ∧ (b.clearDelay ≠ none → b.lowerPending = false ∨ b.state ≠ .up ∧ b.state ≠ .stopped →
         exec (.clearDelayExpiry l i) s = .next ((s.withBarrier l i false { b with clearDelay := none }).evalPassage l))
       ∧ (b.travel = none → exec (.travelTimeout l i) s = .next s)
       ∧ (b.travel ≠ none → exec (.travelTimeout l i) s = faults .travel 1)
       ∧ (b.leaveLimit = false → exec (.leaveLimitExpiry l i) s = .next s)
       ∧ (b.leaveLimit = true → exec (.leaveLimitExpiry l i) s = faults .limitStuck 0))

/-- The emergency stop, mains fail and seal inputs (R24, R31, R56, R87, R164, R182, R183): the condition with its latch, its
notice when the enable is set; ESTOP stops every moving barrier in the state its limits show, clears every waiting lowering and
meets every lane, L0 first (R176); a change to SEALED discards the edits of both decks and lets the queues be examined. SEAL_CHANGE
goes to the stations that the new position's decisions allow. A level already held is no change (log entry 20); that a change
before the configuration is loaded changes nothing is the model's deduction, log entry 32. -/
def Obligations.YardInputsAreTaken : Prop :=
  ∀ s : State,
    let stop := fun (b : Barrier) => { b with
      lowerPending := false
      state :=
        if b.state = .rising ∨ b.state = .falling then
          if b.downLimit then .down else if b.upLimit then .up else .stopped
        else b.state
      travel := if b.state = .rising ∨ b.state = .falling then none else b.travel
      leaveLimit := if b.state = .rising ∨ b.state = .falling then false else b.leaveLimit }
    let told := fun (k : Condition) (kind : NoticeKind) (n : Nat) (t : State) =>
      if (s.condition k).enable then t.announced [t.notice kind none none 0 n []] else t.notices
    (s.phase.rank < 1 → ∀ level, exec (.estopInputChange level) s = .next s ∧ exec (.mainsFailInputChange level) s = .next s
        ∧ exec (.sealSwitchChange level) s = .next s)
    ∧ exec (.estopInputChange s.estop) s = .next s
    ∧ exec (.mainsFailInputChange (s.condition .mainsFail).active) s = .next s
    ∧ exec (.sealSwitchChange s.sealOpen) s = .next s
    ∧ (1 ≤ s.phase.rank →
      (s.estop = false → exec (.estopInputChange true) s =
        .next (((({ s with
          conditions := s.conditions.set .estop { s.condition .estop with active := true, latched := true }
          notices := told .estop .estopChange 1 s
          lanes := s.lanes.map fun u => { u with barrierA := stop u.barrierA, barrierX := stop u.barrierX } } :
            State).hold .l0 .estop).hold .l1 .estop).hold .l2 .estop |>.hold .l3 .estop))
      ∧ (s.estop = true → exec (.estopInputChange false) s = .next { s with
          conditions := s.conditions.set .estop { s.condition .estop with active := false }
          notices := told .estop .estopChange 0 s })
      ∧ ((s.condition .mainsFail).active = false → exec (.mainsFailInputChange true) s = .next { s with
          conditions := s.conditions.set .mainsFail { s.condition .mainsFail with active := true, latched := true }
          notices := told .mainsFail .mainsChange 1 s })
      ∧ ((s.condition .mainsFail).active = true → exec (.mainsFailInputChange false) s = .next { s with
          conditions := s.conditions.set .mainsFail { s.condition .mainsFail with active := false }
          notices := told .mainsFail .mainsChange 0 s })
      ∧ (s.sealOpen = false → ∀ t : State,
        t = { s with
          conditions := s.conditions.set .sealAccess { s.condition .sealAccess with active := true, latched := true } } →
        exec (.sealSwitchChange true) s = .next { t with notices := told .sealAccess .sealChange 1 t })
      ∧ (s.sealOpen = true → ∀ t : State,
        t = { s with
          conditions := s.conditions.set .sealAccess { s.condition .sealAccess with active := false } } →
        exec (.sealSwitchChange false) s = .next ({ t with
          notices := told .sealAccess .sealChange 0 t
          decks := s.decks.map fun u =>
            if u.cal.state = .calEdit then
              { u with cal := { u.cal with
                state := u.cal.preEdit.getD .outOfService, preEdit := none, edit := none } }
            else u } : State).examine))

/-! ### The lane sequence -/

/-- How a lane enters a state (R63, R64, R58, R65, R90) and how it is held (R82, R55, R103, R104): CLOSED stays CLOSED, IDLE is
held for BARRIER_FAULT and STARTUP alone, a lane in HOLD takes the new reason and announces it again; every other entry to HOLD
records the state it left, stops the dwell timer, clears go and the barriers' lower-pending flags, abandons a capture with
CAPTURE_FAILED, and raises LANE_HOLD. -/
def Obligations.LanesEnterAndAreHeld : Prop :=
  ∀ (s : State) (l : Lane),
    let u := s.lane l
    (∀ (st : LaneState) (keep : Bool), ∃ limit : Option Nat,
      (st.timed = false → limit = none)
      ∧ (st = .admitting → limit = some (s.laneSettings l).dwell.admitting)
      ∧ (st = .entering → limit = some (s.laneSettings l).dwell.entering)
      ∧ (st = .positioning → limit = some (s.laneSettings l).dwell.positioning)
      ∧ (st = .onDeck → limit = some (s.laneSettings l).dwell.onDeck)
      ∧ (st = .weighing → limit = some (s.laneSettings l).dwell.weighing)
      ∧ (st = .leaving → limit = some (s.laneSettings l).dwell.leaving)
      ∧ (st = .retreating → limit = some (s.laneSettings l).dwell.retreating)
      ∧ (st = .clearing → limit = some (s.laneSettings l).dwell.clearing)
      ∧ s.enter l st keep = { s with
        lanes := s.lanes.set l { u with
          state := st
          holdReason := none
          heldFrom := none
          dwell := limit
          marks :=
            if keep then u.marks
            else {
              ebSeen := decide (st = .entering ∧ u.eb = true)
              leavingStep := 0
              alStage := if st = .retreating ∧ u.al = true then 1 else 0
              reposition := false }
          lastRefused := none
          go := decide (st = .entering ∨ (st = .positioning ∧ u.go = true))
          capture := none } })
    ∧ ∀ reason : HoldReason,
      (u.state = .closed → s.hold l reason = s)
      ∧ (u.state = .idle → reason ≠ .barrierFault → reason ≠ .startup → s.hold l reason = s)
      ∧ (∀ old, u.state = .hold → u.heldFrom = some old →
        s.hold l reason = { s with
          lanes := s.lanes.set l { u with holdReason := some reason }
          notices := s.announced [s.notice .laneHold (some l) none 0 (reason.toNat + 8 * old.toNat) []] })
      ∧ (u.state ≠ .closed → u.state ≠ .hold → (u.state = .idle → reason = .barrierFault ∨ reason = .startup) →
        s.hold l reason = { s with
          lanes := s.lanes.set l { u with
            state := .hold
            holdReason := some reason
            heldFrom := some u.state
            dwell := none
            lastRefused := none
            go := false
            capture := none
            barrierA := { u.barrierA with lowerPending := false }
            barrierX := { u.barrierX with lowerPending := false } }
          notices := s.announced (
            (u.capture.toList.map fun c =>
              s.notice .captureFailed (some l) (s.laneSettings l).deck.noticeDeck (s.boundTicket l)
                ((if reason = .estop then 9 else 7) + 10 * (c.mode.toNat + 3 * originNat c.origin)) [])
            ++ [s.notice .laneHold (some l) none 0 (reason.toNat + 8 * u.state.toNat) []]) })

/-- R83: HOLD needs CONTROL over the lane and is subject to attendance; it is accepted in the eight timed states, answered OK,
and the lane enters HOLD(STATION); in CLOSED, IDLE and HOLD it is refused with WRONG_STATE. A lane byte of 4
or more is refused with RANGE (R165). -/
def Obligations.HoldIsTaken : Prop :=
  (∀ (s : State) (r : Req) (b : Byte), 4 ≤ b.toNat → s.Takes r → exec (.hold r b) s = .next (s.refusedWith r 0x25 .range))
  ∧ ∀ (s : State) (r : Req) (b : Byte) (l : Lane), b.toNat = l.toNat → s.Takes r →
    (s.decision r.station (.lane l) .lane ≠ .control → exec (.hold r b) s = .next (s.refusedWith r 0x25 .notPermitted))
    ∧ (s.decision r.station (.lane l) .lane = .control →
      (∀ other, s.attending.get l = some other → other ≠ r.station →
        exec (.hold r b) s = .next (s.refusedWith r 0x25 .attended))
      ∧ ((s.attending.get l = none ∨ s.attending.get l = some r.station) →
        ((s.lane l).state ∈ [LaneState.closed, .idle, .hold] →
          exec (.hold r b) s = .next (s.refusedWith r 0x25 .wrongState))
        ∧ ((s.lane l).state ∈ [LaneState.admitting, .entering, .positioning, .onDeck, .weighing, .leaving, .retreating,
            .clearing] →
          ∃ t, exec (.hold r b) s = .next t ∧ t = ((s.heard r.station).hold l .station).acked r 0x25
            ∧ (t.lane l).state = .hold ∧ (t.lane l).holdReason = some .station
            ∧ (t.lane l).heldFrom = some (s.lane l).state)))

/-- OPEN_LANE and CLOSE_LANE (R62): the open-at-start setting and the configuration record; OPEN_LANE enters IDLE with a lower
request to each barrier, a barrier in FAULT holding the lane from IDLE; CLOSE_LANE enters CLOSED and ends the lane's
attendance. ATTEND and ATTEND_END (R169, R171): a lane that is not CLOSED is attended by the station from then on, and no
longer; at the end the lane looks at auto-capture again. That WRONG_STATE comes before STORE_BUSY is the model's deduction, log
entry 24, and so is the hold from IDLE, log entry 16. A lane byte of 4 or more is refused with RANGE in all four (R165). -/
def Obligations.LanesOpenCloseAndAreAttended : Prop :=
  (∀ (s : State) (r : Req) (b : Byte), 4 ≤ b.toNat → s.Takes r →
    exec (.openLane r b) s = .next (s.refusedWith r 0x22 .range)
    ∧ exec (.closeLane r b) s = .next (s.refusedWith r 0x23 .range)
    ∧ exec (.attend r b) s = .next (s.refusedWith r 0x2A .range)
    ∧ exec (.attendEnd r b) s = .next (s.refusedWith r 0x2B .range))
  ∧ ∀ (s : State) (r : Req) (b : Byte) (l : Lane), b.toNat = l.toNat → s.Controls r (.lane l) .lane →
    let u := s.lane l
    let with_ := fun (v : Bool) => { s.settings with lanes := s.settings.lanes.set l { s.laneSettings l with openAtStart := v } }
    let rest := fun (st : LaneState) => { u with
      state := st
      holdReason := none
      heldFrom := none
      dwell := none
      marks := Marks.clear
      lastRefused := none
      go := false
      capture := none }
    (u.state ≠ .closed → exec (.openLane r b) s = .next (s.refusedWith r 0x22 .wrongState))
    ∧ (u.state = .closed → s.slotFree = false → exec (.openLane r b) s = .next (s.refusedWith r 0x22 .storeBusy))
    ∧ (u.state = .closed → s.slotFree = true → ∀ t : State,
      t = (({ s.heard r.station with
        settings := with_ true
        store := s.queuedWith [.configuration (with_ true)]
        lanes := s.lanes.set l (rest .idle) } : State).askLower l .a).askLower l .x →
      (u.barrierA.state ≠ .fault → u.barrierX.state ≠ .fault → exec (.openLane r b) s = .next (t.acked r 0x22))
      ∧ (u.barrierA.state = .fault ∨ u.barrierX.state = .fault →
        exec (.openLane r b) s = .next ((t.hold l .barrierFault).acked r 0x22)))
    ∧ (u.state ≠ .idle → exec (.closeLane r b) s = .next (s.refusedWith r 0x23 .wrongState))
    ∧ (u.state = .idle → s.slotFree = false → exec (.closeLane r b) s = .next (s.refusedWith r 0x23 .storeBusy))
    ∧ (u.state = .idle → s.slotFree = true → exec (.closeLane r b) s = .next { s with
        settings := with_ false
        store := s.queuedWith [.configuration (with_ false)]
        lanes := s.lanes.set l (rest .closed)
        attending := s.attending.set l none
        ports := s.reply r 0x23 .ok false .none })
    ∧ (u.state = .closed → exec (.attend r b) s = .next (s.refusedWith r 0x2A .wrongState))
    ∧ (u.state ≠ .closed → exec (.attend r b) s = .next { s with
        attending := s.attending.set l (some r.station)
        ports := s.reply r 0x2A .ok false .none })
    ∧ (s.attending.get l ≠ some r.station → exec (.attendEnd r b) s = .next (s.refusedWith r 0x2B .wrongState))
    ∧ (s.attending.get l = some r.station → exec (.attendEnd r b) s = .next ((({ s.heard r.station with
        attending := s.attending.set l none } : State).autoCapture l).acked r 0x2B))

/-- RESUME (R84): refused unless the lane is in HOLD, while ESTOP is active, a barrier of the lane is in FAULT or a deck it uses
is OUT_OF_SERVICE; otherwise the lane enters its held-from state with a fresh dwell timer and the marks kept through the hold,
makes the requests of that state, and looks at the state's condition at once; from ADMITTING a claim that was removed joins
again at the tail, and the queues are examined; from WEIGHING it is ON_DECK, with auto-capture armed. A lane byte of 4
or more is refused with RANGE (R165). -/
def Obligations.ResumeReturnsTheLane : Prop :=
  (∀ (s : State) (r : Req) (b : Byte), 4 ≤ b.toNat → s.Takes r → exec (.resume r b) s = .next (s.refusedWith r 0x26 .range))
  ∧ ∀ (s : State) (r : Req) (b : Byte) (l : Lane), b.toNat = l.toNat → s.Controls r (.lane l) .lane →
    let u := s.lane l
    let h := s.heard r.station
    let bad := u.state ≠ .hold ∨ s.estop = true ∨ u.barrierA.state = .fault ∨ u.barrierX.state = .fault
      ∨ ∃ d ∈ (s.laneSettings l).deck.decks, (s.deck d).cal.state = .outOfService
    let shut := if u.barrierA.state = .down ∨ u.barrierA.state = .falling then h else h.askLower l .a
    let resumes := fun (old : LaneState) (t : State) =>
      u.heldFrom = some old → exec (.resume r b) s = .next (t.acked r 0x26)
    (bad → exec (.resume r b) s = .next (s.refusedWith r 0x26 .wrongState))
    ∧ (¬bad →
      resumes .idle (((h.askLower l .a).askLower l .x).enter l .idle true)
      ∧ resumes .admitting
        (if l ∈ s.claims.d0 ∨ l ∈ s.claims.d1 then (h.enter l .admitting true).examine
         else ({ h.enter l .admitting true with
          claims := {
            d0 := if (s.laneSettings l).deck = .d1 then s.claims.d0 else s.claims.d0 ++ [l]
            d1 := if (s.laneSettings l).deck = .d0 then s.claims.d1 else s.claims.d1 ++ [l] } } : State).examine)
      ∧ resumes .entering (((h.askRaise l .a).enter l .entering true).evalPassage l)
      ∧ resumes .positioning ((shut.enter l .positioning true).evalPassage l)
      ∧ resumes .onDeck (((shut.enter l .onDeck true).setLane l
          { (shut.enter l .onDeck true).lane l with armed := true }).autoCapture l)
      ∧ resumes .weighing (((shut.enter l .onDeck false).setLane l
          { (shut.enter l .onDeck false).lane l with armed := true }).autoCapture l)
      ∧ resumes .leaving ((((h.askRaise l .x).askLowerUnlessDown l).enter l .leaving true).evalPassage l)
      ∧ resumes .retreating (((h.askRaise l .a).enter l .retreating true).evalPassage l)
      ∧ resumes .clearing ((((h.askLower l .a).askLower l .x).enter l .clearing true).evalPassage l))

/-- SEND_BACK and LANE_RESET (R85, R86). SEND_BACK is accepted from ADMITTING to WEIGHING and held from there, but not, held from
beyond ADMITTING, while ESTOP is active or barrier A is in FAULT; LANE_RESET in HOLD, but not while ESTOP is active or a barrier
is in FAULT. The lane's entry is let go: a RESERVED one leaves the register, another is unbound and stays. SEND_BACK from
ADMITTING leaves the queues for IDLE; from beyond it abandons a capture, with CAPTURE_FAILED, raises barrier A and retreats,
keeping its holding; LANE_RESET also releases the decks. That a barrier A in FAULT holds the lane from RETREATING, and that
CAPTURE_FAILED is raised while the entry is still bound, are the model's deductions, log entries 16 and 15. A lane byte of 4 or
more is refused with RANGE (R165). -/
def Obligations.SendBackAndResetLetGo : Prop :=
  (∀ (s : State) (r : Req) (b : Byte), 4 ≤ b.toNat → s.Takes r →
    exec (.sendBack r b) s = .next (s.refusedWith r 0x27 .range)
    ∧ exec (.laneReset r b) s = .next (s.refusedWith r 0x28 .range)) ∧
  (∀ (s : State) (r : Req) (b : Byte) (l : Lane), b.toNat = l.toNat → s.Controls r (.lane l) .lane →
    let u := s.lane l
    let h := s.heard r.station
    let passing := [LaneState.entering, .positioning, .onDeck, .weighing]
    let accepted := u.state = .admitting ∨ u.state ∈ passing
      ∨ (u.state = .hold ∧ (u.heldFrom = some .admitting
        ∨ ((∃ old ∈ passing, u.heldFrom = some old) ∧ s.estop = false ∧ u.barrierA.state ≠ .fault)))
    let fromQueue := u.state = .admitting ∨ (u.state = .hold ∧ u.heldFrom = some .admitting)
    let left : State := { h with claims := s.claims.map fun q => q.filter fun m => decide (m ≠ l) }
    (¬accepted → exec (.sendBack r b) s = .next (s.refusedWith r 0x27 .wrongState))
    ∧ (accepted → fromQueue → exec (.sendBack r b) s =
        .next ((((left.dropBinding l).enter l .idle false).examine).respond r.station ⟨0x27, r.tag, .accepted, false, .none⟩))
    ∧ (accepted → ¬fromQueue → ∀ t : State,
      t = ((((h.abandon l .sentBack).dropBinding l).askRaise l .a).enter l .retreating false) →
      exec (.sendBack r b) s = .next ((if u.barrierA.state = .fault then t.hold l .barrierFault else t.evalPassage l).respond
        r.station ⟨0x27, r.tag, .accepted, false, .none⟩))
    ∧ (u.state ≠ .hold ∨ s.estop = true ∨ u.barrierA.state = .fault ∨ u.barrierX.state = .fault →
      exec (.laneReset r b) s = .next (s.refusedWith r 0x28 .wrongState))
    ∧ (u.state = .hold → s.estop = false → u.barrierA.state ≠ .fault → u.barrierX.state ≠ .fault →
      exec (.laneReset r b) s = .next ((((((({ left with
          holders := s.holders.map fun x => if x = some l then none else x } : State).dropBinding l).askLower l .a).askLower l
            .x).enter l .idle false).examine).acked r 0x28)))
  ∧ ∀ (s : State) (l : Lane),
    (s.boundEntry? l = none → s.dropBinding l = s)
    ∧ (∀ e, s.boundEntry? l = some e →
      (e.state = .reserved → s.dropBinding l = ({ s with
        site := { s.site with entries := s.site.entries.filter fun x => decide (x.slot ≠ e.slot) } } : State).journalLowCheck)
      ∧ (e.state ≠ .reserved → s.dropBinding l = { s with
        site := { s.site with
          entries := s.site.entries.map fun x => if x.boundLane = some l then { x with boundLane := none } else x } }))
    ∧ s.unbind l = { s with
        site := { s.site with
          entries := s.site.entries.map fun x => if x.boundLane = some l then { x with boundLane := none } else x } }
    ∧ ((s.lane l).capture = none → s.abandon l .sentBack = s)
    ∧ ∀ c, (s.lane l).capture = some c → s.abandon l .sentBack = { s with
        lanes := s.lanes.set l { s.lane l with capture := none }
        notices := s.announced [s.notice .captureFailed (some l) (s.laneSettings l).deck.noticeDeck (s.boundTicket l)
          (8 + 10 * (c.mode.toNat + 3 * originNat c.origin)) []] }

/-- A lane takes an input change of AL, EB, XB or XL (R41, R65, R76, R77, R79, R81, R82, R93): the level; the mark of its state,
or in HOLD of the state it is held from; AL changing to clear frees the last refused tag; then auto-capture when the armed flag
has become set, and otherwise the state's condition. A level already held is no change (log entry 20). That AL broken at stage 2
brings the AL stage back to 1, that the reposition mark arms the lane while it is in HOLD, and that a change before the
configuration is loaded changes nothing, are the model's deductions, log entries 22, 23 and 32. -/
def Obligations.LaneInputsAreTaken : Prop :=
  ∀ (s : State) (l : Lane) (i : LaneInput) (broken : Bool),
    let u := s.lane l
    let held := match i with
      | .al => u.al
      | .eb => u.eb
      | .xb => u.xb
      | .xl => u.xl
    (s.phase.rank < 1 ∨ held = broken → exec (.laneInputChange l i broken) s = .next s)
    ∧ (1 ≤ s.phase.rank → held ≠ broken → ∃ (v : LaneUnit) (place : LaneState),
      (place = if u.state = .hold then u.heldFrom.getD .hold else u.state)
      ∧ v = { u with
        al := if i = .al then broken else u.al
        eb := if i = .eb then broken else u.eb
        xb := if i = .xb then broken else u.xb
        xl := if i = .xl then broken else u.xl
        lastRefused := if i = .al ∧ broken = false then none else u.lastRefused
        armed := v.armed
        marks := v.marks }
      ∧ (place = .entering → i = .eb → broken = true → v.marks = { u.marks with ebSeen := true } ∧ v.armed = u.armed)
      ∧ (place = .leaving → v.armed = u.armed ∧ v.marks = { u.marks with
          leavingStep :=
            if (u.marks.leavingStep = 0 ∧ i = .xb ∧ broken = true) ∨ (u.marks.leavingStep = 1 ∧ i = .xb ∧ broken = false)
              ∨ (u.marks.leavingStep = 2 ∧ i = .xl ∧ broken = true) ∨ (u.marks.leavingStep = 3 ∧ i = .xl ∧ broken = false)
            then u.marks.leavingStep + 1 else u.marks.leavingStep })
      ∧ (place = .retreating → v.armed = u.armed ∧ v.marks = { u.marks with
          alStage :=
            if i = .al ∧ broken = true then 1
            else if i = .al ∧ u.marks.alStage = 1 then 2
            else u.marks.alStage })
      ∧ (place = .onDeck → u.armed = false → i = .eb ∨ i = .xb →
        (broken = true → v.marks = { u.marks with reposition := true } ∧ v.armed = false)
        ∧ (broken = false → u.marks.reposition = true → v.eb = false → v.xb = false →
          v.marks = { u.marks with reposition := false } ∧ v.armed = true)
        ∧ (broken = false → u.marks.reposition = false ∨ v.eb = true ∨ v.xb = true → v.marks = u.marks ∧ v.armed = false))
      ∧ (place = .entering ∧ (i ≠ .eb ∨ broken = false) ∨ place = .onDeck ∧ (u.armed = true ∨ i = .al ∨ i = .xl)
          ∨ place ∈ [LaneState.closed, .idle, .admitting, .positioning, .weighing, .clearing] →
        v.marks = u.marks ∧ v.armed = u.armed)
      ∧ ((v.armed = true ∧ u.armed = false) → exec (.laneInputChange l i broken) s = .next ((s.setLane l v).autoCapture l))
      ∧ (¬(v.armed = true ∧ u.armed = false) →
        exec (.laneInputChange l i broken) s = .next ((s.setLane l v).evalPassage l)))

/-- The conditions of the passage (R76 to R81, R58, R75): what each state waits for, the request it makes and the state it goes
to, from there on at once where that state's condition holds too. A refusal by a barrier in FAULT holds the lane from the state
it has entered, which is the model's deduction, log entry 16. A new reading reaches the lanes that watch its deck, WEIGHING
evaluating the capture, the others their condition; that L0 is first, and LANE_CLEARED before the examination, is the model's
deduction, log entry 15. -/
def Obligations.PassageFollowsItsConditions : Prop :=
  (∀ (s : State) (l : Lane),
    let u := s.lane l
    let w := s.laneReading l
    let onto := fun (barrier : BarrierId) (t : State) =>
      if (u.barrier barrier).state = .fault then t.hold l .barrierFault else t.evalPassage l
    (u.state = .entering →
      (u.al = false ∧ u.marks.ebSeen = true ∧ u.barrierA.beamBroken = false →
        s.evalPassage l = onto .a ((s.askLower l .a).enter l .positioning false))
      ∧ (¬(u.al = false ∧ u.marks.ebSeen = true ∧ u.barrierA.beamBroken = false) → s.evalPassage l = s))
    ∧ (u.state = .positioning →
      (u.eb = false ∧ u.xb = false ∧ w.status = .valid ∧ 20 * (w.division : Int) ≤ w.w →
        s.evalPassage l = ((s.enter l .onDeck false).setLane l
          { (s.enter l .onDeck false).lane l with armed := true }).autoCapture l)
      ∧ (¬(u.eb = false ∧ u.xb = false ∧ w.status = .valid ∧ 20 * (w.division : Int) ≤ w.w) → s.evalPassage l = s))
    ∧ (u.state = .leaving →
      (u.marks.leavingStep = 4 → s.evalPassage l = onto .x (((s.askLower l .x).unbind l).enter l .clearing false))
      ∧ (u.marks.leavingStep ≠ 4 → s.evalPassage l = s))
    ∧ (u.state = .retreating →
      (u.eb = false ∧ u.marks.alStage = 2 ∧ w.status = .valid ∧ w.w < 20 * (w.division : Int) →
        s.evalPassage l = onto .a ((s.askLower l .a).enter l .clearing false))
      ∧ (¬(u.eb = false ∧ u.marks.alStage = 2 ∧ w.status = .valid ∧ w.w < 20 * (w.division : Int)) → s.evalPassage l = s))
    ∧ (u.state = .clearing →
      let clear := u.barrierA.state = .down ∧ u.barrierX.state = .down ∧ w.status = .valid ∧ w.stable = true
        ∧ w.w < 20 * (w.division : Int)
      (clear → ∀ t : State,
        t = ({ s with holders := s.holders.map fun x => if x = some l then none else x } : State).enter l .idle false →
        s.evalPassage l = ({ t with notices := s.announced [s.notice .laneCleared (some l) none 0 0 []] } : State).examine)
      ∧ (¬clear → s.evalPassage l = s))
    ∧ (u.state ∈ [LaneState.closed, .idle, .admitting, .onDeck, .weighing, .hold] → s.evalPassage l = s)
    ∧ (u.state = .weighing → s.takeReading l = s.evalCapture l)
    ∧ (u.state ≠ .weighing → s.takeReading l = s.evalPassage l))
  ∧ ∀ (s : State) (d : Deck), s.lanesTakeReading d =
      [Lane.l0, .l1, .l2, .l3].foldl (fun t l => if d ∈ (t.laneSettings l).deck.decks then t.takeReading l else t) s

/-- The arbiter (R71 to R74, R34): a claim joins the tail of the queue of each deck of its lane. A grantable claim stands at the
head of every queue it is in, its decks have no holder and are IN_SERVICE, and its lane is in ADMITTING. When every record it needs
passes its check the lane leaves the queues, holds the decks, raises barrier A and enters ENTERING. Each deck whose record fails,
one or both of a tandem claim, goes OUT_OF_SERVICE, with CAL_BAD_Dn active and latched and DECK_OUT while its enable is set (a
condition already active stays as it is), and every claim in its queue leaves every queue, its lane held for DECK_OUT; the
lanes' notices follow, L0 first (R176). That D0's DECK_OUT comes before D1's is the model's deduction, log entry 15. The examination goes on until no claim is
grantable. -/
def Obligations.ClaimsAreGranted : Prop :=
  (∀ (s : State) (l : Lane),
    (s.grantable l = true ↔ (s.lane l).state = .admitting ∧ ∀ d ∈ (s.laneSettings l).deck.decks,
      (s.claims.get d).head? = some l ∧ s.holders.get d = none ∧ (s.deck d).cal.state = .inService)
    ∧ s.joinClaim l = { s with
        claims := {
          d0 := if (s.laneSettings l).deck = .d1 then s.claims.d0 else s.claims.d0 ++ [l]
          d1 := if (s.laneSettings l).deck = .d0 then s.claims.d1 else s.claims.d1 ++ [l] } }
    ∧ ((∀ d ∈ (s.laneSettings l).deck.decks, (s.deck d).cal.committed.intact = true) → ∀ t : State,
      t = (({ s with
        claims := s.claims.map fun q => q.filter fun m => decide (m ≠ l)
        holders := {
          d0 := if (s.laneSettings l).deck = .d1 then s.holders.d0 else some l
          d1 := if (s.laneSettings l).deck = .d0 then s.holders.d1 else some l } } : State).askRaise l .a).enter l .entering
            false →
      s.takeGrant l = if (s.lane l).barrierA.state = .fault then t.hold l .barrierFault else t.evalPassage l)
    ∧ ∀ failing : List Deck,
      failing = (s.laneSettings l).deck.decks.filter (fun d => !(s.deck d).cal.committed.intact) → failing ≠ [] →
      let removed := [Lane.l0, .l1, .l2, .l3].filter fun m => failing.any fun d => (s.claims.get d).contains m
      let out := fun (d : Deck) =>
        if d ∈ failing then { s.deck d with cal := { (s.deck d).cal with state := .outOfService } } else s.deck d
      let bad := fun (d : Deck) =>
        if d ∈ failing ∧ (s.condition (calBadCondition d)).active = false then
          { s.condition (calBadCondition d) with active := true, latched := true }
        else s.condition (calBadCondition d)
      s.takeGrant l = removed.foldl (fun t m => t.hold m .deckOut) { s with
        decks := { d0 := out .d0, d1 := out .d1 }
        conditions := { s.conditions with calBad0 := bad .d0, calBad1 := bad .d1 }
        notices := s.announced ((failing.filter fun d =>
          !(s.condition (calBadCondition d)).active && (s.condition (calBadCondition d)).enable).map fun d =>
            s.notice .deckOut none (some d) 0 0 [])
        claims := s.claims.map fun q => q.filter fun m => decide (m ∉ removed) })
  ∧ ∀ s : State, s.claimsCoherent = true →
    (s.nextGrant = none → s.examine = s)
    ∧ (∀ l, s.nextGrant = some l → s.grantable l = true ∧ s.examine = (s.takeGrant l).examine)
    ∧ ∀ l, s.examine.grantable l = false

/-! ### Capture and admission -/

/-- CAPTURE (R91, R92): its operands, the state, and the cases of mode, waste code and weighings; accepted, the armed flag is
set, the context is created, the lane enters WEIGHING and the conditions are evaluated at once. Auto-capture (R94) does the same,
without a section code and of origin AUTO, in the mode of the lane's direction, in ON_DECK with the setting ON, the armed flag set,
no attendance and a bound entry of fewer than 5 weighings, and nothing otherwise. SETTLE_TIMEOUT (R102): the capture fails with
its pending reason, and the lane returns to ON_DECK with the armed flag clear. DWELL_EXPIRY (R64): the lane is held for TIMEOUT.
A SETTLE_TIMEOUT out of WEIGHING, and a DWELL_EXPIRY in WEIGHING or without a running timer, change nothing (log entry 20). A lane
byte of 4 or more is refused with RANGE (R165). -/
def Obligations.CapturesBeginAndTimeOut : Prop :=
  (∀ (s : State) (r : Req) (b : Byte) (mode waste : Option Byte), 4 ≤ b.toNat → s.Takes r →
    exec (.capture r b mode waste) s = .next (s.refusedWith r 0x29 .range)) ∧
  (∀ (s : State) (r : Req) (b : Byte) (mode waste : Option Byte) (l : Lane), b.toNat = l.toNat →
    let inSet := (∀ m, mode = some m → m.toNat < 3) ∧ ∀ w, waste = some w → 1 ≤ w.toNat ∧ w.toNat ≤ 32
    (¬inSet → s.Takes r → exec (.capture r b mode waste) s = .next (s.refusedWith r 0x29 .range))
    ∧ (inSet → s.Controls r (.lane l) .lane →
      ((s.lane l).state ≠ .onDeck → exec (.capture r b mode waste) s = .next (s.refusedWith r 0x29 .wrongState))
      ∧ ∀ (m : CaptureMode) (count : Nat), (s.lane l).state = .onDeck →
        (mode = none → m = if (s.laneSettings l).direction = .inbound then .first else .final) →
        (∀ x, mode = some x → x.toNat = m.toNat) →
        count = ((s.boundEntry? l).map fun e => e.weighings.length).getD 0 →
        let suits := ((s.laneSettings l).direction = .inbound ∧ m = .first ∧ waste = none)
          ∨ ((s.laneSettings l).direction = .outbound
            ∧ ((m = .intermediate ∧ count < 4) ∨ (m = .final ∧ count < 5)))
        (¬suits → exec (.capture r b mode waste) s = .next (s.refusedWith r 0x29 .range))
        ∧ (suits → exec (.capture r b mode waste) s =
          .next ((({ s.heard r.station with
            lanes := s.lanes.set l { s.lane l with
              state := .weighing
              holdReason := none
              heldFrom := none
              dwell := some (s.laneSettings l).dwell.weighing
              marks := Marks.clear
              lastRefused := none
              go := false
              armed := true
              capture := some {
                mode := m
                sectionCode := waste.map fun w => w.toNat
                origin := some r.station
                pending := .status } } } : State).evalCapture l).respond r.station
            ⟨0x29, r.tag, .accepted, false, .none⟩))))
  ∧ (∀ (s : State) (l : Lane),
    let due := (s.lane l).state = .onDeck ∧ (s.laneSettings l).autoCapture = true ∧ (s.lane l).armed = true
      ∧ s.attending.get l = none ∧ ∃ e, s.boundEntry? l = some e ∧ e.weighings.length < 5
    (¬due → s.autoCapture l = s)
    ∧ (due → s.autoCapture l = ({ s with
        lanes := s.lanes.set l { s.lane l with
          state := .weighing
          holdReason := none
          heldFrom := none
          dwell := some (s.laneSettings l).dwell.weighing
          marks := Marks.clear
          lastRefused := none
          go := false
          armed := true
          capture := some {
            mode := if (s.laneSettings l).direction = .inbound then .first else .final
            sectionCode := none
            origin := none
            pending := .status } } } : State).evalCapture l))
  ∧ ∀ (s : State) (l : Lane),
    (∀ c, (s.lane l).state = .weighing → (s.lane l).capture = some c →
      exec (.settleTimeout l) s = .next { s with
        lanes := s.lanes.set l { s.lane l with
          state := .onDeck
          holdReason := none
          heldFrom := none
          dwell := some (s.laneSettings l).dwell.onDeck
          marks := Marks.clear
          lastRefused := none
          go := false
          armed := false
          capture := none }
        notices := s.announced [s.notice .captureFailed (some l) (s.laneSettings l).deck.noticeDeck (s.boundTicket l)
          (c.pending.toNat + 10 * (c.mode.toNat + 3 * originNat c.origin)) []] })
    ∧ ((s.lane l).state ≠ .weighing → exec (.settleTimeout l) s = .next s)
    ∧ ((s.lane l).dwell ≠ none → (s.lane l).state ≠ .weighing → exec (.dwellExpiry l) s = .next (s.hold l .timeout))
    ∧ ((s.lane l).dwell = none ∨ (s.lane l).state = .weighing → exec (.dwellExpiry l) s = .next s)

/-- The reading a lane watches (R61): its deck's, or for BOTH the coupled one. The capture conditions (R95, R97) on it in their
order, and what follows (R99): the first unmet one becomes the pending reason;
with all met the context ends, the weighing is recorded, barrier X is raised and the lane enters LEAVING, held from there when X
is in FAULT. -/
def Obligations.CapturesAreEvaluated : Prop :=
  (∀ (s : State) (l : Lane),
    (∀ d, (s.laneSettings l).deck.decks = [d] → s.laneReading l = {
      w := (s.deck d).weight.reading.w
      status := (s.deck d).weight.reading.status
      stable := (s.deck d).weight.reading.stable
      division := (s.deck d).cal.committed.division
      capacity := (s.deck d).cal.committed.capacity })
    ∧ ((s.laneSettings l).deck = .both → s.laneReading l = {
      w := s.coupled.w
      status := s.coupled.status
      stable := s.coupled.stable
      division := s.coupled.division
      capacity := s.coupled.capacity }))
  ∧ ∀ (s : State) (l : Lane) (c : CaptureContext), (s.lane l).capture = some c →
    let w := s.laneReading l
    let pends := fun (reason : CaptureReason) =>
      s.evalCapture l = { s with lanes := s.lanes.set l { s.lane l with capture := some { c with pending := reason } } }
    (w.status ≠ .valid → pends .status)
    ∧ (w.status = .valid →
      (w.stable = false → pends .motion)
      ∧ (w.stable = true →
        ((s.lane l).eb = true ∨ (s.lane l).xb = true → pends .position)
        ∧ ((s.lane l).eb = false → (s.lane l).xb = false →
          (w.w < 20 * (w.division : Int) → pends .belowMin)
          ∧ (20 * (w.division : Int) ≤ w.w →
            ((w.capacity : Int) < w.w → pends .aboveMax)
            ∧ (w.w ≤ w.capacity →
              ((s.condition .storeFault).latched = true → pends .storeFault)
              ∧ ((s.condition .storeFault).latched = false →
                (16 ≤ s.store.ordinaryFilled → pends .storeBusy)
                ∧ (s.store.ordinaryFilled < 16 → ∀ t : State,
                  t = ((s.recordCapture l c).askRaise l .x).enter l .leaving false →
                  s.evalCapture l =
                    if (s.lane l).barrierX.state = .fault then t.hold l .barrierFault else t)))))))

/-- The admission checks (R67, R68): the first that fails, in their order, is the reason. -/
def Obligations.AdmissionChecksInOrder : Prop :=
  ∀ (s : State) (l : Lane) (i : Identity),
    ((s.laneSettings l).direction = .inbound →
      let vehicle := i.tag.bind fun t => (s.vehicle? t).map fun v => v.data
      let kind := (i.kind <|> vehicle.map fun v => v.kind).getD (s.laneSettings l).defaultKind
      let code := i.waste <|> vehicle.bind fun v => v.waste
      let checks : List (Result × Prop) := [
        (.clockUnset, s.clock.set = true),
        (.noAdmit, s.estop = false ∧ (s.condition .mainsFail).active = false),
        (.storeFault, (s.condition .storeFault).latched = false),
        (.notRegistered, i.byTag = true → vehicle ≠ none),
        (.barred, ∀ v, vehicle = some v → v.barred = false),
        (.alreadyOnSite, ∀ t, i.tag = some t → ∀ e ∈ s.site.entries, e.tag ≠ some t),
        (.full, (∃ slot < 64, ∀ e ∈ s.site.entries, e.slot ≠ slot)
          ∧ s.tickets.counter + (s.site.entries.filter fun e => decide (e.state = .reserved)).length < 4294967295),
        (.journalFull, ((s.index.nextSeq : Int) - s.index.archivedSeq) + s.site.entries.length + 1 ≤ 4096),
        (.noWasteCode, code ≠ none),
        (.permitCap, kind = .delivery → ∀ w, code = some w → s.capReached w = false)]
      ((∀ x ∈ checks, x.2) → s.admitRefusal l i = none)
      ∧ ∀ (n : Nat) (reason : Result) (p : Prop), checks[n]? = some (reason, p) → ¬p →
        (∀ m < n, ∀ x, checks[m]? = some x → x.2) → s.admitRefusal l i = some reason)
    ∧ ((s.laneSettings l).direction = .outbound →
      let found := fun (e : SiteEntry) => e.state = .opened
        ∧ (if i.ticket ≠ 0 then e.ticket = i.ticket else i.tag ≠ none) ∧ ∀ t, i.tag = some t → e.tag = some t
      ((∀ e ∈ s.site.entries, ¬found e) → s.admitRefusal l i = some .notFound)
      ∧ ∀ (before after : List SiteEntry) (e : SiteEntry), s.site.entries = before ++ e :: after → found e →
        (∀ x ∈ before, ¬found x) →
        s.outboundEntry i = some e
        ∧ (e.boundLane ≠ none → s.admitRefusal l i = some .bound)
        ∧ (e.boundLane = none → s.estop = true → s.admitRefusal l i = some .noAdmit)
        ∧ (e.boundLane = none → s.estop = false → s.admitRefusal l i = none))
    ∧ ∀ w, 1 ≤ w → w ≤ 32 → ∀ (cap : Nat) (x : DayTotals), s.settings.caps[w - 1]? = some cap →
      s.index.totals[w - 1]? = some x → (s.capReached w = true ↔ cap ≠ 0 ∧ cap ≤ x.today)

/-- ADMIT and a tag arrival (R44, R65, R66, R69): the cases before the checks; an admission creates or binds the entry, joins the
lane's claim, enters ADMITTING, raises ADMITTED, and lets the journal be compared and the queues be examined; a refused one
raises ADMIT_REFUSED and, by tag, makes the tag the last refused one. On an attended lane a tag raises TAG_READ alone. That
ADMITTED comes before the journal comparison and that before the examination is the model's deduction, log entry 15. A lane byte of 4
or more is refused with RANGE (R165). -/
def Obligations.VehiclesAreAdmitted : Prop :=
  (∀ (s : State) (r : Req) (b : Byte) (f : AdmitFields), 4 ≤ b.toNat → s.Takes r →
    exec (.admitVehicle r b f) s = .next (s.refusedWith r 0x24 .range)) ∧
  (∀ (s : State) (r : Req) (b : Byte) (f : AdmitFields) (l : Lane), b.toNat = l.toNat →
    (AdmitFields.ok f = false → s.Takes r → exec (.admitVehicle r b f) s = .next (s.refusedWith r 0x24 .range))
    ∧ (AdmitFields.ok f = true → s.Controls r (.lane l) .lane →
      let suits := ((s.laneSettings l).direction = .inbound ∧ f.ticket = 0)
        ∨ ((s.laneSettings l).direction = .outbound ∧ f.kind = none ∧ f.waste = none ∧ f.account = none ∧ f.hazard = none
          ∧ (f.tag ≠ none ∨ f.ticket ≠ 0))
      (¬suits → exec (.admitVehicle r b f) s = .next (s.refusedWith r 0x24 .range))
      ∧ (suits → (s.lane l).state ≠ .idle ∨ (s.lane l).al = false →
        exec (.admitVehicle r b f) s = .next (s.refusedWith r 0x24 .wrongState))
      ∧ (suits → (s.lane l).state = .idle → (s.lane l).al = true →
        (∀ reason, s.admitRefusal l (AdmitFields.identity f) = some reason →
          exec (.admitVehicle r b f) s = .next { s with
            notices := s.announced [s.notice .admitRefused (some l) none 0 reason.toNat []]
            ports := s.reply r 0x24 reason false .none })
        ∧ (s.admitRefusal l (AdmitFields.identity f) = none →
          exec (.admitVehicle r b f) s = .next (((s.heard r.station).accept l (AdmitFields.identity f)).respond r.station
            ⟨0x24, r.tag, .accepted, false, .none⟩)))))
  ∧ (∀ (s : State) (l : Lane) (t : Tag), t ≠ 0 →
    let u := s.lane l
    let seen := { u with tagRx := { u.tagRx with rx := [], last := some { tag := t, time := s.clock.count } } }
    let now : State := { s with lanes := s.lanes.set l seen }
    (s.phase.rank < 1 → exec (.tagArrival l t) s = .next s)
    ∧ (1 ≤ s.phase.rank →
      (u.state ≠ .idle → exec (.tagArrival l t) s = .next now)
      ∧ (u.state = .idle → s.attending.get l ≠ none → exec (.tagArrival l t) s = .next { now with
          notices := s.announced [s.notice .tagRead (some l) none 0 0
            [((t.toNat / 2 ^ 32 : Nat) : Int), ((t.toNat % 2 ^ 32 : Nat) : Int)]] })
      ∧ (u.state = .idle → s.attending.get l = none →
        (u.al = false ∨ (s.laneSettings l).tagAdmission = false ∨ u.lastRefused = some t →
          exec (.tagArrival l t) s = .next now)
        ∧ (u.al = true → (s.laneSettings l).tagAdmission = true → u.lastRefused ≠ some t →
          (∀ reason, s.admitRefusal l (Identity.ofTag t) = some reason → exec (.tagArrival l t) s = .next { s with
            lanes := s.lanes.set l { seen with lastRefused := some t }
            notices := s.announced [s.notice .admitRefused (some l) none 0 reason.toNat []] })
          ∧ (s.admitRefusal l (Identity.ofTag t) = none → exec (.tagArrival l t) s = .next (now.accept l (Identity.ofTag t)))))))
  ∧ ∀ (s : State) (l : Lane) (i : Identity), s.admitRefusal l i = none →
    let vehicle := i.tag.bind fun t => (s.vehicle? t).map fun v => v.data
    ∃ (site : SiteRegister) (ticket : Nat),
      ((s.laneSettings l).direction = .inbound → ∃ e : SiteEntry,
        site.entries.Perm (e :: s.site.entries)
        ∧ ((∀ x ∈ s.site.entries, x.ordinal < s.site.nextOrdinal) → site.entries = s.site.entries ++ [e])
        ∧ site.nextOrdinal = (if s.site.nextOrdinal < 4294967295 then s.site.nextOrdinal + 1 else s.site.nextOrdinal)
        ∧ ticket = 0 ∧ e.state = .reserved ∧ e.ticket = 0 ∧ e.tag = i.tag ∧ e.weighings = [] ∧ e.hazard = i.hazard
        ∧ e.boundLane = some l ∧ e.ordinal = s.site.nextOrdinal ∧ e.slot < 64 ∧ (∀ x ∈ s.site.entries, x.slot ≠ e.slot)
        ∧ (∀ n < e.slot, ∃ x ∈ s.site.entries, x.slot = n)
        ∧ e.kind = (i.kind <|> vehicle.map fun v => v.kind).getD (s.laneSettings l).defaultKind
        ∧ e.account = (i.account <|> vehicle.map fun v => v.account).getD 0
        ∧ some e.waste = (i.waste <|> vehicle.bind fun v => v.waste))
      ∧ ((s.laneSettings l).direction = .outbound → ∃ e, s.outboundEntry i = some e ∧ ticket = e.ticket
        ∧ site = { s.site with
            entries := s.site.entries.map fun x => if x.slot = e.slot then { x with boundLane := some l } else x })
      ∧ s.accept l i = ({ (({ s with site := site } : State).joinClaim l).enter l .admitting false with
          notices := s.announced [s.notice .admitted (some l) none ticket 0 []] } : State).journalLowCheck.examine

/-! ### Tickets and registers -/

/-- A capture's success is recorded (R98 to R101, R106, R123 to R126, R129): the weighing of the reading that met the
conditions; FIRST takes the next ticket number and opens the ticket, or with a valid registered tare closes it at once;
INTERMEDIATE appends; FINAL appends and closes into the journal. The extents join the write queue in the order of R146, the
ticket's notices come before CAPTURED, and a close credits the totals, may raise PERMIT_CAP, and is compared with the journal's
end. That PERMIT_CAP follows the whole credit, that JOURNAL_LOW stands before CAPTURED, that next_seq has no upper end, and
that the weighing carries the counters of the reading (R98) also after a commit (R29), are the model's deductions, log entries 12,
15, 36 and 47. -/
def Obligations.WeighingsAreApplied : Prop :=
  ∀ (s : State) (l : Lane) (c : CaptureContext) (e : SiteEntry), s.boundEntry? l = some e →
    let reading := s.laneReading l
    let deck := (s.laneSettings l).deck
    let w : Weighing := {
      weight := reading.w.toNat
      source := match deck with
        | .d0 => .deck0
        | .d1 => .deck1
        | .both => .coupled
      lane := l
      time := s.clock.count
      counter0 := match deck with
        | .d0 => s.decks.d0.weight.reading.calCounter
        | .d1 => s.decks.d1.weight.reading.calCounter
        | .both => s.coupled.counter0
      counter1 := match deck with
        | .d0 => 0
        | .d1 => 0
        | .both => s.coupled.counter1
      sectionCode := if c.mode = .first then 0 else c.sectionCode.getD e.waste }
    let single := fun (tare : Tare) => c.mode = .first ∧ (s.laneSettings l).storedTare = true
      ∧ (s.laneSettings l).direction = .inbound ∧ e.kind = .delivery
      ∧ (∃ tag v, e.tag = some tag ∧ s.vehicle? tag = some v ∧ v.data.tare = some tare)
      ∧ s.clock.count < tare.stamp + tare.validity * 86400 ∧ (tare.weight : Int) ≤ reading.w - 20 * (reading.division : Int)
    let detail := c.mode.toNat + 3 * originNat c.origin
    let lanes := s.lanes.set l { s.lane l with capture := none, dwell := none }
    let n := s.tickets.counter + 1
    let journal := fun (ticket : Nat) (close : CloseCondition) (ws : List Weighing) => ({
      seq := s.index.nextSeq
      ticket := ticket
      close := close
      voidReason := 0
      kind := e.kind
      tag := e.tag
      account := e.account
      hazard := e.hazard
      closeTime := s.clock.count
      weighings := ws } : JournalEntry)
    let index := fun (j : JournalEntry) => ({ s.index with
      nextSeq := s.index.nextSeq + 1
      lastCredited := j.ticket
      totals := creditTotals s.index.totals j } : IndexTotals)
    let recent := fun (ticket : Nat) =>
      let all := s.tickets.recent ++ [{ ticket := ticket, seq := s.index.nextSeq }]
      (all.drop (all.length - 16)).filter fun p => decide (s.index.nextSeq + 1 - 4096 ≤ p.seq)
    let left := { s.site with entries := s.site.entries.filter fun x => decide (x.slot ≠ e.slot) }
    let closed := fun (j : JournalEntry) => s.notice .ticketClosed (some l) none j.ticket j.close.toNat
      [totalNet (sectionsOf j.kind j.weighings)]
    let became := fun (x : SiteEntry) => { s.site with
      entries := s.site.entries.map fun y => if y.slot = e.slot then x else y }
    (c.mode = .first → (∀ tare, ¬single tare) →
      let x := { e with state := .opened, ticket := n, weighings := [w] }
      s.recordCapture l c = { s with
        lanes := lanes
        tickets := { s.tickets with counter := n }
        site := became x
        store := s.queuedWith [.counter n, .siteSlot e.slot (some x)]
        notices := s.announced [s.notice .ticketOpened (some l) none n 0 [],
          s.notice .captured (some l) deck.noticeDeck n detail []] })
    ∧ (∀ tare, single tare → ∀ j : JournalEntry,
      j = journal n .storedTare [w, { w with
        weight := tare.weight, source := .storedTare, counter0 := 0, counter1 := 0, sectionCode := e.waste }] →
      s.recordCapture l c = (({ s with
        lanes := lanes
        index := index j
        tickets := { s.tickets with counter := n, recent := recent n }
        site := left
        store := s.queuedWith [.counter n, .journal j, .indexTotals (index j)]
        notices := s.announced [closed j] } : State).permitCaps j).journalLowCheck.raiseNotice .captured (some l)
          deck.noticeDeck n (detail + 12) [])
    ∧ (c.mode = .intermediate →
      let x := { e with weighings := e.weighings ++ [w] }
      s.recordCapture l c = { s with
        lanes := lanes
        site := became x
        store := s.queuedWith [.siteSlot e.slot (some x)]
        notices := s.announced [s.notice .captured (some l) deck.noticeDeck e.ticket detail []] })
    ∧ (c.mode = .final → ∀ j : JournalEntry,
      j = journal e.ticket
        (if ∃ x ∈ sectionsOf e.kind (e.weighings ++ [w]), x.net < 0 then .netNegative else .normal) (e.weighings ++ [w]) →
      s.recordCapture l c = (({ s with
        lanes := lanes
        index := index j
        tickets := { s.tickets with recent := recent e.ticket }
        site := left
        store := s.queuedWith [.journal j, .indexTotals (index j), .siteSlot e.slot none]
        notices := s.announced [closed j] } : State).permitCaps j).journalLowCheck.raiseNotice .captured (some l)
          deck.noticeDeck e.ticket (detail + 12) [])

/-- Sections and the credit (R127, R136, R137): each section runs from one weighing to the next, takes the later one's code,
and its net is the fall in weight of a delivery and the rise of a collection. A NORMAL or STORED_TARE delivery adds each
section's net to the today total of its code, saturating; no other close changes a total. A credit that leaves a total at or
above a cap which is not 0 raises PERMIT_CAP once, the code's cap notice flag being set. The codes of a credited close are looked
at in the order of its sections, with the totals as the whole credit leaves them, which is the model's deduction, log entry
12. -/
def Obligations.SectionsAreCredited : Prop :=
  (∀ (kind : Kind) (ws : List Weighing),
    (sectionsOf kind ws).length = ws.length - 1
    ∧ ∀ (i : Nat) (w v : Weighing), ws[i]? = some w → ws[i + 1]? = some v →
      (sectionsOf kind ws)[i]? = some {
        net := if kind = .delivery then (w.weight : Int) - v.weight else (v.weight : Int) - w.weight
        code := v.sectionCode })
  ∧ (∀ (totals : List DayTotals) (j : JournalEntry),
    (j.kind = .collection ∨ j.close = .netNegative ∨ j.close = .void → creditTotals totals j = totals)
    ∧ (j.kind = .delivery → j.close = .normal ∨ j.close = .storedTare → totals.length = 32 →
      (∀ t ∈ totals, t.today ≤ 4294967295) →
      (creditTotals totals j).length = 32
      ∧ ∀ code, 1 ≤ code → code ≤ 32 → ∀ t, totals[code - 1]? = some t →
        (creditTotals totals j)[code - 1]? = some {
          today := min 4294967295 (t.today
            + (((sectionsOf j.kind j.weighings).filter fun x => decide (x.code = code)).map fun x => x.net.toNat).sum)
          previous := t.previous }))
  ∧ (∀ (s : State) (j : JournalEntry),
    (j.kind = .delivery → j.close = .normal ∨ j.close = .storedTare →
      s.permitCaps j = (sectionsOf j.kind j.weighings).foldl (fun t x => State.permitCapOf j.ticket t x) s)
    ∧ (j.kind = .collection ∨ j.close = .netNegative ∨ j.close = .void → s.permitCaps j = s))
  ∧ ∀ (s : State) (ticket code cap : Nat) (net : Int) (t : DayTotals) (flag : Bool), 1 ≤ code → code ≤ 32 →
    s.index.totals[code - 1]? = some t → s.settings.caps[code - 1]? = some cap → s.tickets.capNotice[code - 1]? = some flag →
    (cap ≠ 0 → cap ≤ t.today → flag = false →
      State.permitCapOf ticket s { net := net, code := code } = { s with
        tickets := { s.tickets with capNotice := s.tickets.capNotice.set (code - 1) true }
        notices := s.announced [s.notice .permitCap none none ticket code [(t.today : Int), (cap : Int)]] })
    ∧ (cap = 0 ∨ t.today < cap ∨ flag = true → State.permitCapOf ticket s { net := net, code := code } = s)

/-- VOID_TICKET and EDIT_TICKET (R130, R131), ARCHIVE (R154) and the journal-low comparison (R155). A void closes an unbound OPEN
or SUSPECT entry into the journal without a credit; an edit changes an unbound OPEN entry, every change in the order given;
ARCHIVE raises archived_seq within the journal. Each is refused at its first case, the number's scope being the bound lane of
its entry. JOURNAL_LOW is raised once when the free capacity comes to 256 or less. That a ticket number of 0 and an empty list of
changes are refused before the decision, and that next_seq has no upper end, are the model's deductions, log entries 14 and
36. -/
def Obligations.TicketsAreVoidedEditedArchived : Prop :=
  (∀ (s : State) (r : Req) (n : BitVec 32),
    (n = 0 → s.Takes r → (∀ reason, exec (.voidTicket r n reason) s = .next (s.refusedWith r 0x3A .range))
      ∧ ∀ changes, exec (.editTicket r n changes) s = .next (s.refusedWith r 0x3B .range))
    ∧ (∀ changes : List TicketChange, changes = [] ∨ (∃ x ∈ changes, TicketChange.ok x = false) → s.Takes r →
      exec (.editTicket r n changes) s = .next (s.refusedWith r 0x3B .range))
    ∧ (n ≠ 0 → ∀ (reason : Byte) (changes : List TicketChange), changes ≠ [] → (∀ x ∈ changes, TicketChange.ok x = true) →
      ((∀ e ∈ s.site.entries, e.state ≠ .reserved → e.ticket ≠ n.toNat) → s.Controls r .yard .ticket →
        exec (.voidTicket r n reason) s = .next (s.refusedWith r 0x3A .notFound)
        ∧ exec (.editTicket r n changes) s = .next (s.refusedWith r 0x3B .notFound))
      ∧ ∀ e, s.siteByTicket? n.toNat = some e →
        (∀ l, e.boundLane = some l → s.Controls r (.lane l) .ticket →
          exec (.voidTicket r n reason) s = .next (s.refusedWith r 0x3A .bound)
          ∧ (e.state = .opened → exec (.editTicket r n changes) s = .next (s.refusedWith r 0x3B .bound)))
        ∧ (e.boundLane = none → s.Controls r .yard .ticket →
          (s.slotFree = false →
            exec (.voidTicket r n reason) s = .next (s.refusedWith r 0x3A .storeBusy)
            ∧ (e.state = .opened → exec (.editTicket r n changes) s = .next (s.refusedWith r 0x3B .storeBusy)))
          ∧ (e.state = .suspect → exec (.editTicket r n changes) s = .next (s.refusedWith r 0x3B .wrongState))
          ∧ (s.slotFree = true →
            (∀ j : JournalEntry, j = {
                seq := s.index.nextSeq
                ticket := e.ticket
                close := .void
                voidReason := reason.toNat
                kind := e.kind
                tag := e.tag
                account := e.account
                hazard := e.hazard
                closeTime := s.clock.count
                weighings := e.weighings } →
              ∀ index : IndexTotals, index = { s.index with nextSeq := s.index.nextSeq + 1, lastCredited := e.ticket } →
              exec (.voidTicket r n reason) s = .next (({ s.heard r.station with
                index := index
                tickets := { s.tickets with
                  recent := joinRecent (s.index.nextSeq + 1) s.tickets.recent { ticket := e.ticket, seq := s.index.nextSeq } }
                site := { s.site with entries := s.site.entries.filter fun x => decide (x.slot ≠ e.slot) }
                store := s.queuedWith [.journal j, .indexTotals index, .siteSlot e.slot none]
                notices := s.announced [s.notice .ticketVoided none none e.ticket reason.toNat []] } :
                  State).journalLowCheck.acked r 0x3A))
            ∧ (e.state = .opened → ∀ x : SiteEntry,
              x = changes.foldl (fun e change => match change with
                | .account v => { e with account := v.toNat }
                | .waste v => { e with waste := v.toNat }
                | .hazard h => { e with hazard := h.map fun p => { code := p.1.toNat, containers := p.2.toNat } }
                | .otherField _ => e) e →
              exec (.editTicket r n changes) s = .next { s with
                site := { s.site with entries := s.site.entries.map fun y => if y.slot = e.slot then x else y }
                store := s.queuedWith [.siteSlot e.slot (some x)]
                ports := s.reply r 0x3B .ok false .none })))))
  ∧ (∀ (s : State) (r : Req) (n : BitVec 32),
    (n.toNat < s.index.archivedSeq ∨ s.index.nextSeq < n.toNat → s.Takes r →
      exec (.archive r n) s = .next (s.refusedWith r 0x3E .range))
    ∧ (s.index.archivedSeq ≤ n.toNat → n.toNat ≤ s.index.nextSeq → s.Controls r .yard .ticket →
      (s.slotFree = false → exec (.archive r n) s = .next (s.refusedWith r 0x3E .storeBusy))
      ∧ (s.slotFree = true → ∀ index : IndexTotals, index = { s.index with archivedSeq := n.toNat } →
        exec (.archive r n) s = .next (({ s.heard r.station with
          index := index
          store := s.queuedWith [.indexTotals index] } : State).journalLowCheck.acked r 0x3E))))
  ∧ ∀ (s : State) (free : Int),
    free = 4096 - ((s.index.nextSeq : Int) - s.index.archivedSeq) - s.site.entries.length →
    (256 < free → s.journalLowCheck = { s with journalLow := false })
    ∧ (free ≤ 256 → s.journalLow = true → s.journalLowCheck = s)
    ∧ (free ≤ 256 → s.journalLow = false → s.journalLowCheck = { s with
        journalLow := true
        notices := s.announced [s.notice .journalLow none none 0 0 [free]] })

/-- REG_ADD, REG_UPDATE and REG_REMOVE (R109, R110, R111): refused at their first case; an entry is created in the lowest free
slot with the defaults of omitted fields and a given tare stamped with the clock, changed by every change in the order given,
or removed; the slot's record joins the write queue. That the first case, REG_UPDATE with no change given among it, is answered
before the decision is the model's deduction, log entry 14. -/
def Obligations.RegisterIsChanged : Prop :=
  ∀ (s : State) (r : Req) (tag : Tag),
    (∀ f : RegFields,
      (RegFields.ok tag f = false → s.Takes r → exec (.regAdd r tag f) s = .next (s.refusedWith r 0x30 .range))
      ∧ (RegFields.ok tag f = true → s.Controls r .yard .register →
        ((∃ v ∈ s.vehicles, v.data.tag = tag) → exec (.regAdd r tag f) s = .next (s.refusedWith r 0x30 .duplicate))
        ∧ ((∀ v ∈ s.vehicles, v.data.tag ≠ tag) →
          ((∀ n < 512, ∃ v ∈ s.vehicles, v.slot = n) → exec (.regAdd r tag f) s = .next (s.refusedWith r 0x30 .full))
          ∧ ∀ slot < 512, (∀ v ∈ s.vehicles, v.slot ≠ slot) → (∀ n < slot, ∃ v ∈ s.vehicles, v.slot = n) →
            (f.tare ≠ none → s.clock.set = false → exec (.regAdd r tag f) s = .next (s.refusedWith r 0x30 .clockUnset))
            ∧ ((f.tare = none ∨ s.clock.set = true) →
              (s.slotFree = false → exec (.regAdd r tag f) s = .next (s.refusedWith r 0x30 .storeBusy))
              ∧ (s.slotFree = true → ∀ data : VehicleData,
                data = {
                  tag := tag
                  fleet := f.fleet.getD []
                  account := (f.account.map fun a => a.toNat).getD 0
                  waste := f.waste.map fun w => w.toNat
                  kind := if f.kind.any fun k => decide (k.toNat = 1) then .collection else .delivery
                  tare := f.tare.map fun t => { weight := t.1.toNat, stamp := s.clock.count, validity := t.2.toNat }
                  barred := f.barred.any fun b => decide (b.toNat = 1) } →
                ∃ vs : List VehicleEntry, vs.Perm ({ slot := slot, data := data } :: s.vehicles)
                  ∧ (keyed s.vehicles = true → keyed vs = true)
                  ∧ exec (.regAdd r tag f) s = .next { s with
                      vehicles := vs
                      store := s.queuedWith [.vehicleSlot slot (some data)]
                      ports := s.reply r 0x30 .ok false .none })))))
    ∧ (∀ changes : List RegChange,
      (tag = 0 ∨ changes = [] ∨ (∃ x ∈ changes, RegChange.ok x = false) → s.Takes r →
        exec (.regUpdate r tag changes) s = .next (s.refusedWith r 0x31 .range))
      ∧ (tag ≠ 0 → changes ≠ [] → (∀ x ∈ changes, RegChange.ok x = true) → s.Controls r .yard .register →
        ((∀ v ∈ s.vehicles, v.data.tag ≠ tag) → exec (.regUpdate r tag changes) s = .next (s.refusedWith r 0x31 .notFound))
        ∧ ∀ e ∈ s.vehicles, e.data.tag = tag → keyed s.vehicles = true →
          ((∃ t, RegChange.tare (some t) ∈ changes) → s.clock.set = false →
            exec (.regUpdate r tag changes) s = .next (s.refusedWith r 0x31 .clockUnset))
          ∧ ((∀ t, RegChange.tare (some t) ∉ changes) ∨ s.clock.set = true →
            (s.slotFree = false → exec (.regUpdate r tag changes) s = .next (s.refusedWith r 0x31 .storeBusy))
            ∧ (s.slotFree = true → ∀ data : VehicleData,
              data = changes.foldl (fun d change => match change with
                | .fleet v => { d with fleet := v }
                | .account v => { d with account := v.toNat }
                | .waste v => { d with waste := v.map fun w => w.toNat }
                | .kind v => { d with kind := if v.toNat = 0 then .delivery else .collection }
                | .tare v => { d with
                    tare := v.map fun t => { weight := t.1.toNat, stamp := s.clock.count, validity := t.2.toNat } }
                | .barred v => { d with barred := decide (v.toNat = 1) }
                | .otherField _ => d) e.data →
              exec (.regUpdate r tag changes) s = .next { s with
                vehicles := s.vehicles.map fun v => if v.data.tag = tag then { v with data := data } else v
                store := s.queuedWith [.vehicleSlot e.slot (some data)]
                ports := s.reply r 0x31 .ok false .none }))))
    ∧ (tag = 0 → s.Takes r → exec (.regRemove r tag) s = .next (s.refusedWith r 0x32 .range))
    ∧ (tag ≠ 0 → s.Controls r .yard .register →
      ((∀ v ∈ s.vehicles, v.data.tag ≠ tag) → exec (.regRemove r tag) s = .next (s.refusedWith r 0x32 .notFound))
      ∧ ∀ e ∈ s.vehicles, e.data.tag = tag → keyed s.vehicles = true →
        ((∃ x ∈ s.site.entries, x.tag = some tag) → exec (.regRemove r tag) s = .next (s.refusedWith r 0x32 .onSite))
        ∧ ((∀ x ∈ s.site.entries, x.tag ≠ some tag) →
          (s.slotFree = false → exec (.regRemove r tag) s = .next (s.refusedWith r 0x32 .storeBusy))
          ∧ (s.slotFree = true → exec (.regRemove r tag) s = .next { s with
              vehicles := s.vehicles.filter fun v => decide (v.data.tag ≠ tag)
              store := s.queuedWith [.vehicleSlot e.slot none]
              ports := s.reply r 0x32 .ok false .none })))

/-! ### Start-up -/

/-- A yard reset and the loading of the first areas (R157, R186, R42, R59, R158, R168, R183, R6, R40, R33, R34): a reset leaves
everything at its reset value with the rate of the straps, and the waiting commands (log entry 31). The configuration is taken, or
defaulted with CONFIG_DEFAULTED latched; the inputs' levels and the conditions are taken from the pins; a barrier with both limits
active starts in FAULT with cause LIMITS and raises BARRIER_FAULT (L0 first by R176, A before X by log entry 15). A calibration record that
passes its checks, which log entry 18 makes of all eight cells, puts its deck IN_SERVICE, another OUT_OF_SERVICE with CAL_BAD_Dn
active and latched and DECK_OUT, D0 first by log entry 15; the sample timers start. Nothing else changes. A load out of its turn has no effect (log
entry 20). -/
def Obligations.AreasAreLoaded : Prop :=
  (∀ (s : State) (a b : Bool), exec (.yardReset a b) s = .next { State.reset with
    rate := if a then (if b then .r115200 else .r57600) else (if b then .r38400 else .r19200)
    pending := s.pending })
  ∧ (∀ (s : State) (record : List Byte) (pins : YardPins),
    (s.phase ≠ .loading .configuration → exec (.configAreaLoaded record pins) s = .next s)
    ∧ (s.phase = .loading .configuration → (∀ l, (s.lane l).state = .closed) →
      let barrier := fun (p : BarrierPins) => ({
        state := if p.down then (if p.up then .fault else .down) else if p.up then .up else .stopped
        cause := if p.down ∧ p.up then some .limits else none
        lowerPending := false
        reversals := 0
        travel := none
        leaveLimit := false
        clearDelay := none
        upLimit := p.up
        downLimit := p.down
        beamBroken := p.beam } : Barrier)
      let shown := fun (l : Lane) (i : BarrierId) => match i with
        | .a => (pins.lanes.get l).a
        | .x => (pins.lanes.get l).x
      let good := (Settings.ofBytes? record).isSome
      ∀ t : State, t = { s with
        phase := .loading .calibration
        settings := (Settings.ofBytes? record).getD Settings.defaults
        startup := if good then s.startup else { s.startup with configDefaulted := true }
        conditions := { s.conditions with
          estop := { s.conditions.estop with active := pins.estop, latched := pins.estop }
          mainsFail := { s.conditions.mainsFail with active := pins.mainsFail, latched := pins.mainsFail }
          sealAccess := { s.conditions.sealAccess with active := pins.sealAccess, latched := pins.sealAccess }
          configDefaulted :=
            if good then s.conditions.configDefaulted else { s.conditions.configDefaulted with latched := true } }
        lanes := PerLane.ofFn fun l => { s.lane l with
          al := (pins.lanes.get l).al
          eb := (pins.lanes.get l).eb
          xb := (pins.lanes.get l).xb
          xl := (pins.lanes.get l).xl
          barrierA := barrier (shown l .a)
          barrierX := barrier (shown l .x) } } →
      exec (.configAreaLoaded record pins) s = .next { t with
        notices := t.announced ([Lane.l0, .l1, .l2, .l3].flatMap fun l =>
          ([BarrierId.a, .x].filter fun i => (shown l i).up && (shown l i).down).map fun i =>
            t.notice .barrierFault (some l) none 0 (3 * i.toNat + 2) []) }))
  ∧ ∀ (s : State) (d0 d1 : List Byte),
    (s.phase ≠ .loading .calibration → exec (.calibrationLoaded d0 d1) s = .next s)
    ∧ (s.phase = .loading .calibration →
      let record := fun (d : Deck) => CalRecord.ofBytes (if d = .d0 then d0 else d1)
      ∀ bad : List Deck,
        (bad = [Deck.d0, .d1].filter fun d =>
          !decide (crc16 (record d).body = (record d).checksum ∧ (record d).loadOk = true ∧ 0 < (record d).division
            ∧ (record d).capacity % (record d).division = 0 ∧ (record d).capacity / (record d).division ≤ 10000)) →
        let deck := fun (d : Deck) => { s.deck d with
          link := { (s.deck d).link with timer := .running (s.settings.sampleTimeout.get d) }
          cal := {
            state := if d ∈ bad then .outOfService else .inService
            preEdit := none
            committed := record d
            edit := none } }
        let condition := fun (d : Deck) =>
          if d ∈ bad ∧ (s.condition (calBadCondition d)).active = false then
            { s.condition (calBadCondition d) with active := true, latched := true }
          else s.condition (calBadCondition d)
        exec (.calibrationLoaded d0 d1) s = .next { s with
          phase := .loading .vehicle
          decks := { d0 := deck .d0, d1 := deck .d1 }
          conditions := { s.conditions with calBad0 := condition .d0, calBad1 := condition .d1 }
          notices := s.announced ((bad.filter fun d =>
            !(s.condition (calBadCondition d)).active && (s.condition (calBadCondition d)).enable).map fun d =>
              s.notice .deckOut none (some d) 0 1 []) })

/-- The vehicle register, the site register and the index/totals record (R117, R119, R121, R158), and the rest of start-up
(R159 to R161, R122, R89, R155). A vehicle slot is loaded when its check is good, its fields lie in their ranges and no lower slot
holds its tag; every other slot but an empty mark is dropped and counted. A site slot is loaded unless it is an empty mark or is
dropped and counted, OPEN when its check is good, its fields lie in their ranges (of the weighings: log entry 21) and no lower
slot holds its tag, and SUSPECT otherwise, with the substitutions. After the ring next_seq is known or rebuilt, the site entries
that the journal holds are dropped, and a rebuilt record is formed with RECORDS_REBUILT latched (the counts and the next ordinal
are of the entries that stand, log entry 28). With the counter, read or rebuilt and raised to the largest ticket number on site
(of the entries that stand, log entry 28), recovery is taken in the same event (log entry 29): an uncredited journal entry is
closed now, then the site entry of the newest journal entry is released; the repair items join the queue in their order;
STARTUP_REPORT, the journal-low comparison and the opening of the lanes follow (log entry 15). That loading and recovery make no journal
comparison, and that one is made at READY, is the model's deduction, log entry 26. A load out of its turn has no effect (log entry
20). -/
def Obligations.RegistersAreLoadedToReady : Prop :=
  (∀ (s : State) (slots : List (List Byte)),
    (s.phase ≠ .loading .vehicle → exec (.vehicleRegisterLoaded slots) s = .next s)
    ∧ (s.phase ≠ .loading .site → exec (.siteRegisterLoaded slots) s = .next s)
    ∧ (s.phase ≠ .loading .journal → exec (.journalRingLoaded slots) s = .next s)
    ∧ (∀ record, s.phase ≠ .loading .indexTotals → exec (.indexTotalsLoaded record) s = .next s)
    ∧ ∀ record, s.phase ≠ .loading .counter → exec (.counterLoaded record) s = .next s)
  ∧ (∀ (s : State) (slots : List (List Byte)), s.phase = .loading .vehicle → slots.length = 512 →
    let good := fun (bs : List Byte) => crcGood 38 bs = true ∧ byteAt bs 0 = 1 ∧ vehicleFieldsOk bs = true
    ∃ vs dropped, exec (.vehicleRegisterLoaded slots) s = .next { s with
        vehicles := vs
        startup := { s.startup with vehiclesDropped := dropped }
        phase := .loading .site }
      ∧ keyed vs = true
      ∧ (∀ v : VehicleEntry, v ∈ vs ↔ ∃ bs, slots[v.slot]? = some bs ∧ good bs ∧ v.data = vehicleOf bs
          ∧ ∀ j < v.slot, ∀ lower, slots[j]? = some lower → good lower → tagAt lower 1 ≠ tagAt bs 1)
      ∧ vs.length + dropped + (slots.filter fun bs => crcGood 38 bs && zeroBytes 38 bs).length = 512)
  ∧ (∀ (s : State) (slots : List (List Byte)), s.phase = .loading .site → slots.length = 64 →
    ∃ es dropped, exec (.siteRegisterLoaded slots) s = .next { s with
        site := { entries := es, nextOrdinal := min (es.foldl (fun m e => max m e.ordinal) 0 + 1) 4294967295 }
        startup := { s.startup with siteDropped := dropped }
        phase := .loading .indexTotals }
      ∧ (es.map fun e => e.slot).Nodup ∧ (es.map fun e => e.ticket).Nodup ∧ (es.filterMap fun e => e.tag).Nodup
      ∧ es.Pairwise (fun a b => a.ordinal < b.ordinal ∨ (a.ordinal = b.ordinal ∧ a.slot < b.slot))
      ∧ (∀ e ∈ es, e.boundLane = none ∧ e.state ≠ .reserved ∧ e.ticket ≠ 0 ∧ 1 ≤ e.weighings.length
          ∧ e.weighings.length ≤ 5 ∧ e.tag ≠ some 0 ∧ e.slot < 64)
      ∧ es.length + dropped + (slots.filter fun bs => crcGood 94 bs && zeroBytes 94 bs).length = 64
      ∧ ∀ (i : Nat) (bs : List Byte), slots[i]? = some bs →
        let lower := es.filter fun e => decide (e.slot < i)
        let unused := (crcGood 94 bs = true ∧ byteAt bs 0 ≠ 1) ∨ byteAt bs 0 = 0 ∨ natAt bs 1 4 = 0
          ∨ (∃ e ∈ lower, e.ticket = natAt bs 1 4) ∨ byteAt bs 23 = 0
        let tagTaken := tagAt bs 6 ≠ 0 ∧ ∃ e ∈ lower, e.tag = some (tagAt bs 6)
        let hazardOk := byteAt bs 17 = 0 ∨ byteAt bs 18 ≤ 99
        let wasteOk := 1 ≤ byteAt bs 16 ∧ byteAt bs 16 ≤ 32
        let fieldsOk := byteAt bs 5 ≤ 1 ∧ wasteOk ∧ hazardOk ∧ 1 ≤ natAt bs 19 4 ∧ byteAt bs 23 ≤ 5
          ∧ ∀ k < byteAt bs 23, byteAt bs (27 + 13 * k) < 16 ∧ byteAt bs (36 + 13 * k) ≤ 32
        (unused → ∀ e ∈ es, e.slot ≠ i)
        ∧ (¬unused → ∃ e ∈ es, e = {
            slot := i
            state := if crcGood 94 bs = true ∧ fieldsOk ∧ ¬tagTaken then .opened else .suspect
            ticket := natAt bs 1 4
            kind := if byteAt bs 5 = 1 then .collection else .delivery
            tag := if tagTaken ∨ tagAt bs 6 = 0 then none else some (tagAt bs 6)
            account := natAt bs 14 2
            waste := if wasteOk then byteAt bs 16 else 1
            hazard :=
              if byteAt bs 17 ≠ 0 ∧ hazardOk then some { code := byteAt bs 17, containers := byteAt bs 18 } else none
            weighings := weighingsAt bs 24 (byteAt bs 23)
            boundLane := none
            ordinal := natAt bs 19 4 }))
  ∧ (∀ (s : State) (record : List Byte), s.phase = .loading .indexTotals →
    (∀ t, IndexTotals.ofBytes? record = some t → exec (.indexTotalsLoaded record) s = .next { s with
      index := t, startup := { s.startup with indexGood := true }, phase := .loading .journal })
    ∧ (IndexTotals.ofBytes? record = none →
      exec (.indexTotalsLoaded record) s = .next { s with phase := .loading .journal }))
  ∧ (∀ (s : State) (positions : List (List Byte)), s.phase = .loading .journal →
    let ring := positions.zipIdx.filterMap fun p => validJournalAt p.2 p.1
    let good := s.startup.indexGood
    ∃ next : Nat, (good = true → next = s.index.nextSeq)
      ∧ (good = false → (∀ j ∈ ring, j.seq < next) ∧ (next ≠ 0 → ∃ j ∈ ring, j.seq + 1 = next))
      ∧ ∀ standing : List SiteEntry,
        standing = s.site.entries.filter (fun e =>
          !ring.any fun j => decide (j.ticket = e.ticket ∧ next - 4096 ≤ j.seq ∧ j.seq + 2 ≤ next)) →
        exec (.journalRingLoaded positions) s = .next { s with
          site := {
            entries := standing
            nextOrdinal := min (standing.foldl (fun m e => max m e.ordinal) 0 + 1) 4294967295 }
          index :=
            if good then s.index
            else {
              nextSeq := next
              archivedSeq := next + standing.length - 4096
              lastCredited := ((ring.find? fun j => decide (j.seq + 1 = next)).map fun j => j.ticket).getD 0
              storedDay := none
              totals := List.replicate 32 { today := 0, previous := 0 } }
          startup := { s.startup with
            indexRebuilt := !good
            openLoaded := (standing.filter fun e => decide (e.state = .opened)).length
            suspectLoaded := (standing.filter fun e => decide (e.state = .suspect)).length
            siteDropped := s.startup.siteDropped + (s.site.entries.length - standing.length)
            ring := ring.map fun j => { seq := j.seq, ticket := j.ticket }
            uncredited := ring.find? fun j => decide (j.seq = next) }
          conditions := { s.conditions with
            recordsRebuilt :=
              if good then s.conditions.recordsRebuilt else { s.conditions.recordsRebuilt with latched := true } }
          phase := .loading .counter })
  ∧ ∀ (s : State) (record : List Byte), s.phase = .loading .counter →
    let onSite := (s.site.entries.map fun e => e.ticket).foldl max 0
    let inRing := (s.startup.ring.map fun n => n.ticket).foldl max 0
    let found := (counterOf? record).getD (max onSite inRing)
    let counter := max found onSite
    let rebuilt := (counterOf? record).isNone
    let late := s.startup.uncredited
    let index := match late with
      | none => s.index
      | some j => { s.index with
          nextSeq := s.index.nextSeq + 1
          lastCredited := j.ticket
          totals := creditTotals s.index.totals j }
    let gone := (s.startup.ring.find? fun n => decide (n.seq + 1 = index.nextSeq)).bind fun n => s.siteByTicket? n.ticket
    let items : List (List Record) :=
      (if s.startup.configDefaulted then [[.configuration s.settings]] else [])
        ++ (if rebuilt ∨ counter ≠ found then [[.counter counter]] else [])
        ++ (if s.startup.indexRebuilt then [[.indexTotals index]] else [])
        ++ (late.toList.map fun _ => [.indexTotals index])
        ++ gone.toList.map fun e => [.siteSlot e.slot none]
    let counted : State := { s with
      tickets := { s.tickets with counter := counter }
      index := index
      conditions := { s.conditions with
        recordsRebuilt :=
          if rebuilt then { s.conditions.recordsRebuilt with latched := true } else s.conditions.recordsRebuilt } }
    let occupied := fun (l : Lane) =>
      let u := s.lane l
      u.al = true ∨ u.eb = true ∨ u.xb = true ∨ u.xl = true ∨ u.barrierA.beamBroken = true ∨ u.barrierX.beamBroken = true
        ∨ u.barrierA.state ≠ .down ∨ u.barrierX.state ≠ .down ∨ (s.laneReading l).status ≠ .valid
        ∨ 20 * ((s.laneReading l).division : Int) ≤ (s.laneReading l).w
    let opens := fun (t : State) (l : Lane) =>
      if (s.laneSettings l).openAtStart = false then t
      else if (s.lane l).barrierA.state = .fault ∨ (s.lane l).barrierX.state = .fault then
        (t.enter l .idle false).hold l .barrierFault
      else if occupied l then (t.enter l .idle false).hold l .startup
      else t.enter l .idle false
    ∀ credited : State, (late = none → credited = counted) → (∀ j, late = some j → credited = counted.permitCaps j) →
      exec (.counterLoaded record) s = .next ([Lane.l0, .l1, .l2, .l3].foldl opens ({ credited with
        phase := .ready
        startup := Startup.reset
        site := { s.site with
          entries := s.site.entries.filter fun x => gone.all fun e => decide (x.slot ≠ e.slot) }
        store := items.foldl (fun e x => e.join { extents := x, reserved := false }) s.store
        notices := credited.announced [s.notice .startupReport none none 0
          ((if s.startup.configDefaulted then 1 else 0) + (if rebuilt then 2 else 0) + if s.startup.indexRebuilt then 4 else 0)
          [(s.startup.vehiclesDropped : Int), (s.startup.openLoaded : Int), (s.startup.suspectLoaded : Int),
            (s.startup.siteDropped : Int), (((late.map fun j => j.ticket).getD 0 : Nat) : Int),
            (((gone.map fun e => e.ticket).getD 0 : Nat) : Int)]] } : State).journalLowCheck)

/-! ### What every step keeps -/

/-- The invariants that the next statements say every step keeps (ESTOP safety, lanes, decks, notices, write queue, start-up,
registers, claims, waiting commands) hold right after reset. -/
def Obligations.InvariantsHoldAtReset : Prop :=
  State.reset.estopSafe = true ∧ State.reset.lanesCoherent = true ∧ State.reset.decksCoherent = true
    ∧ State.reset.noticesBounded = true ∧ State.reset.store.fits = true ∧ State.reset.quietUntilReady = true
    ∧ keyed State.reset.vehicles = true ∧ State.reset.siteCoherent = true ∧ State.reset.claimsCoherent = true
    ∧ State.reset.pendingOk = true

/-- While ESTOP is active no barrier output of any lane is on and no lowering waits (R45, R56): every step of the machine keeps
this, whatever is commanded. -/
def Obligations.NoBarrierMovesUnderEstop : Prop :=
  ∀ s t : State, s.estopSafe = true → step s = .next t → t.estopSafe = true

/-- Every step keeps each block's own state whole (R25, R63, R64, R90, R176, R178, R180, R157): each lane controller holds its
hold reason and held-from state in HOLD, its capture context in WEIGHING, a running dwell timer in the timed states; each deck
has its edit copy in CAL_EDIT; each station's queue holds at most 32 notices and its sets are sets of levels; before READY
nothing is queued and every lane is CLOSED. -/
def Obligations.BlocksStayCoherent : Prop :=
  ∀ s t : State, s.lanesCoherent = true → s.decksCoherent = true → s.noticesBounded = true → s.quietUntilReady = true →
    step s = .next t →
    t.lanesCoherent = true ∧ t.decksCoherent = true ∧ t.noticesBounded = true ∧ t.quietUntilReady = true

/-- Every step keeps the write queue within its 17 slots (R145, R146, R142), 16 ordinary ones and the one reserved for the day
roll; the engine has a current extent exactly while the queue holds an item, is IDLE while it is empty, and is IDLE with an item
only while reads keep the port from its first attempt (R147, R152; log entry 11). -/
def Obligations.WriteQueueFits : Prop :=
  ∀ s t : State, s.store.fits = true → s.quietUntilReady = true → step s = .next t →
    t.store.fits = true ∧ t.quietUntilReady = true

/-- Every step keeps the registers keyed and the passage's holdings in their places (R63, R70, R107, R118): no two vehicle
entries hold one tag, no two site entries one slot, one tag or one lane; a lane is bound, claims and holds only in the states
that allow it. The commands that wait are ones that the part can receive. -/
def Obligations.RegistersAndClaimsStayCoherent : Prop :=
  ∀ s t : State, s.pendingOk = true → s.quietUntilReady = true → s.lanesCoherent = true → keyed s.vehicles = true →
    s.siteCoherent = true → s.claimsCoherent = true → step s = .next t →
    t.pendingOk = true ∧ keyed t.vehicles = true ∧ t.siteCoherent = true ∧ t.claimsCoherent = true
end

