-- ==== Sys2Proof/Laws/State.lean ====
section
/-! SUPPORT. The small lemmas of the state: what reading a part gives after that part or another has been written, one lemma
for each field of each update, true by definition. Later proofs rewrite with them and never unfold a record update. -/

namespace Sys2Proof

section Tables

variable {α β : Type}

@[simp] theorem PerLane.get_set (p : PerLane α) (l m : Lane) (v : α) :
    (p.set l v).get m = if m = l then v else p.get m := by
  cases l <;> cases m <;> rfl

@[simp] theorem PerDeck.get_set (p : PerDeck α) (d e : Deck) (v : α) :
    (p.set d v).get e = if e = d then v else p.get e := by
  cases d <;> cases e <;> rfl

@[simp] theorem PerStation.get_set (p : PerStation α) (a b : Station) (v : α) :
    (p.set a v).get b = if b = a then v else p.get b := by
  cases a <;> cases b <;> rfl

@[simp] theorem PerLane.set_set (p : PerLane α) (l : Lane) (v w : α) : (p.set l v).set l w = p.set l w := by
  cases l <;> rfl

@[simp] theorem PerDeck.set_set (p : PerDeck α) (d : Deck) (v w : α) : (p.set d v).set d w = p.set d w := by
  cases d <;> rfl

@[simp] theorem PerStation.set_set (p : PerStation α) (a : Station) (v w : α) : (p.set a v).set a w = p.set a w := by
  cases a <;> rfl

@[simp] theorem PerLane.set_get (p : PerLane α) (l : Lane) : p.set l (p.get l) = p := by cases l <;> rfl

@[simp] theorem PerDeck.set_get (p : PerDeck α) (d : Deck) : p.set d (p.get d) = p := by cases d <;> rfl

@[simp] theorem PerStation.set_get (p : PerStation α) (a : Station) : p.set a (p.get a) = p := by cases a <;> rfl

@[simp] theorem PerLane.get_map (f : α → β) (p : PerLane α) (l : Lane) : (p.map f).get l = f (p.get l) := by cases l <;> rfl

@[simp] theorem PerDeck.get_map (f : α → β) (p : PerDeck α) (d : Deck) : (p.map f).get d = f (p.get d) := by cases d <;> rfl

@[simp] theorem PerLane.get_ofFn (f : Lane → α) (l : Lane) : (PerLane.ofFn f).get l = f l := by cases l <;> rfl

@[simp] theorem PerStation.get_ofFn (f : Station → α) (a : Station) : (PerStation.ofFn f).get a = f a := by cases a <;> rfl

end Tables

namespace Machine

@[simp] theorem Conditions.get_set (c : Conditions) (k j : Condition) (v : CondState) :
    (c.set k v).get j = if j = k then v else c.get j := by
  cases k <;> cases j <;> rfl

@[simp] theorem LaneUnit.barrier_setBarrier (u : LaneUnit) (i j : BarrierId) (b : Barrier) :
    (u.setBarrier i b).barrier j = if j = i then b else u.barrier j := by
  cases i <;> cases j <;> rfl

@[simp] theorem LaneUnit.setBarrier_state (u : LaneUnit) (i : BarrierId) (b : Barrier) :
    (u.setBarrier i b).state = u.state := by
  cases i <;> rfl

@[simp] theorem LaneUnit.setBarrier_heldFrom (u : LaneUnit) (i : BarrierId) (b : Barrier) :
    (u.setBarrier i b).heldFrom = u.heldFrom := by
  cases i <;> rfl

@[simp] theorem LaneUnit.setBarrier_capture (u : LaneUnit) (i : BarrierId) (b : Barrier) :
    (u.setBarrier i b).capture = u.capture := by
  cases i <;> rfl

variable (s : State)

/-! #### `setLane` -/

@[simp] theorem State.setLane_rate (l : Lane) (v : LaneUnit) : (s.setLane l v).rate = s.rate := rfl

@[simp] theorem State.setLane_phase (l : Lane) (v : LaneUnit) : (s.setLane l v).phase = s.phase := rfl

@[simp] theorem State.setLane_startup (l : Lane) (v : LaneUnit) : (s.setLane l v).startup = s.startup := rfl

@[simp] theorem State.setLane_clock (l : Lane) (v : LaneUnit) : (s.setLane l v).clock = s.clock := rfl

@[simp] theorem State.setLane_conditions (l : Lane) (v : LaneUnit) : (s.setLane l v).conditions = s.conditions := rfl

@[simp] theorem State.setLane_settings (l : Lane) (v : LaneUnit) : (s.setLane l v).settings = s.settings := rfl

@[simp] theorem State.setLane_decks (l : Lane) (v : LaneUnit) : (s.setLane l v).decks = s.decks := rfl

@[simp] theorem State.setLane_coupled (l : Lane) (v : LaneUnit) : (s.setLane l v).coupled = s.coupled := rfl

@[simp] theorem State.setLane_lanes (l : Lane) (v : LaneUnit) :
    (s.setLane l v).lanes = s.lanes.set l v := rfl

@[simp] theorem State.setLane_claims (l : Lane) (v : LaneUnit) : (s.setLane l v).claims = s.claims := rfl

@[simp] theorem State.setLane_holders (l : Lane) (v : LaneUnit) : (s.setLane l v).holders = s.holders := rfl

@[simp] theorem State.setLane_attending (l : Lane) (v : LaneUnit) : (s.setLane l v).attending = s.attending := rfl

@[simp] theorem State.setLane_vehicles (l : Lane) (v : LaneUnit) : (s.setLane l v).vehicles = s.vehicles := rfl

@[simp] theorem State.setLane_site (l : Lane) (v : LaneUnit) : (s.setLane l v).site = s.site := rfl

@[simp] theorem State.setLane_index (l : Lane) (v : LaneUnit) : (s.setLane l v).index = s.index := rfl

@[simp] theorem State.setLane_tickets (l : Lane) (v : LaneUnit) : (s.setLane l v).tickets = s.tickets := rfl

@[simp] theorem State.setLane_journalLow (l : Lane) (v : LaneUnit) : (s.setLane l v).journalLow = s.journalLow := rfl

@[simp] theorem State.setLane_store (l : Lane) (v : LaneUnit) : (s.setLane l v).store = s.store := rfl

@[simp] theorem State.setLane_notices (l : Lane) (v : LaneUnit) : (s.setLane l v).notices = s.notices := rfl

@[simp] theorem State.setLane_ports (l : Lane) (v : LaneUnit) : (s.setLane l v).ports = s.ports := rfl

@[simp] theorem State.setLane_pending (l : Lane) (v : LaneUnit) : (s.setLane l v).pending = s.pending := rfl

/-! #### `setDeck` -/

@[simp] theorem State.setDeck_rate (d : Deck) (v : DeckUnit) : (s.setDeck d v).rate = s.rate := rfl

@[simp] theorem State.setDeck_phase (d : Deck) (v : DeckUnit) : (s.setDeck d v).phase = s.phase := rfl

@[simp] theorem State.setDeck_startup (d : Deck) (v : DeckUnit) : (s.setDeck d v).startup = s.startup := rfl

@[simp] theorem State.setDeck_clock (d : Deck) (v : DeckUnit) : (s.setDeck d v).clock = s.clock := rfl

@[simp] theorem State.setDeck_conditions (d : Deck) (v : DeckUnit) : (s.setDeck d v).conditions = s.conditions := rfl

@[simp] theorem State.setDeck_settings (d : Deck) (v : DeckUnit) : (s.setDeck d v).settings = s.settings := rfl

@[simp] theorem State.setDeck_decks (d : Deck) (v : DeckUnit) :
    (s.setDeck d v).decks = s.decks.set d v := rfl

@[simp] theorem State.setDeck_coupled (d : Deck) (v : DeckUnit) : (s.setDeck d v).coupled = s.coupled := rfl

@[simp] theorem State.setDeck_lanes (d : Deck) (v : DeckUnit) : (s.setDeck d v).lanes = s.lanes := rfl

@[simp] theorem State.setDeck_claims (d : Deck) (v : DeckUnit) : (s.setDeck d v).claims = s.claims := rfl

@[simp] theorem State.setDeck_holders (d : Deck) (v : DeckUnit) : (s.setDeck d v).holders = s.holders := rfl

@[simp] theorem State.setDeck_attending (d : Deck) (v : DeckUnit) : (s.setDeck d v).attending = s.attending := rfl

@[simp] theorem State.setDeck_vehicles (d : Deck) (v : DeckUnit) : (s.setDeck d v).vehicles = s.vehicles := rfl

@[simp] theorem State.setDeck_site (d : Deck) (v : DeckUnit) : (s.setDeck d v).site = s.site := rfl

@[simp] theorem State.setDeck_index (d : Deck) (v : DeckUnit) : (s.setDeck d v).index = s.index := rfl

@[simp] theorem State.setDeck_tickets (d : Deck) (v : DeckUnit) : (s.setDeck d v).tickets = s.tickets := rfl

@[simp] theorem State.setDeck_journalLow (d : Deck) (v : DeckUnit) : (s.setDeck d v).journalLow = s.journalLow := rfl

@[simp] theorem State.setDeck_store (d : Deck) (v : DeckUnit) : (s.setDeck d v).store = s.store := rfl

@[simp] theorem State.setDeck_notices (d : Deck) (v : DeckUnit) : (s.setDeck d v).notices = s.notices := rfl

@[simp] theorem State.setDeck_ports (d : Deck) (v : DeckUnit) : (s.setDeck d v).ports = s.ports := rfl

@[simp] theorem State.setDeck_pending (d : Deck) (v : DeckUnit) : (s.setDeck d v).pending = s.pending := rfl

/-! #### `setPort` -/

@[simp] theorem State.setPort_rate (st : Station) (v : Port) : (s.setPort st v).rate = s.rate := rfl

@[simp] theorem State.setPort_phase (st : Station) (v : Port) : (s.setPort st v).phase = s.phase := rfl

@[simp] theorem State.setPort_startup (st : Station) (v : Port) : (s.setPort st v).startup = s.startup := rfl

@[simp] theorem State.setPort_clock (st : Station) (v : Port) : (s.setPort st v).clock = s.clock := rfl

@[simp] theorem State.setPort_conditions (st : Station) (v : Port) : (s.setPort st v).conditions = s.conditions := rfl

@[simp] theorem State.setPort_settings (st : Station) (v : Port) : (s.setPort st v).settings = s.settings := rfl

@[simp] theorem State.setPort_decks (st : Station) (v : Port) : (s.setPort st v).decks = s.decks := rfl

@[simp] theorem State.setPort_coupled (st : Station) (v : Port) : (s.setPort st v).coupled = s.coupled := rfl

@[simp] theorem State.setPort_lanes (st : Station) (v : Port) : (s.setPort st v).lanes = s.lanes := rfl

@[simp] theorem State.setPort_claims (st : Station) (v : Port) : (s.setPort st v).claims = s.claims := rfl

@[simp] theorem State.setPort_holders (st : Station) (v : Port) : (s.setPort st v).holders = s.holders := rfl

@[simp] theorem State.setPort_attending (st : Station) (v : Port) : (s.setPort st v).attending = s.attending := rfl

@[simp] theorem State.setPort_vehicles (st : Station) (v : Port) : (s.setPort st v).vehicles = s.vehicles := rfl

@[simp] theorem State.setPort_site (st : Station) (v : Port) : (s.setPort st v).site = s.site := rfl

@[simp] theorem State.setPort_index (st : Station) (v : Port) : (s.setPort st v).index = s.index := rfl

@[simp] theorem State.setPort_tickets (st : Station) (v : Port) : (s.setPort st v).tickets = s.tickets := rfl

@[simp] theorem State.setPort_journalLow (st : Station) (v : Port) : (s.setPort st v).journalLow = s.journalLow := rfl

@[simp] theorem State.setPort_store (st : Station) (v : Port) : (s.setPort st v).store = s.store := rfl

@[simp] theorem State.setPort_notices (st : Station) (v : Port) : (s.setPort st v).notices = s.notices := rfl

@[simp] theorem State.setPort_ports (st : Station) (v : Port) :
    (s.setPort st v).ports = s.ports.set st v := rfl

@[simp] theorem State.setPort_pending (st : Station) (v : Port) : (s.setPort st v).pending = s.pending := rfl

/-! #### `setCondition` -/

@[simp] theorem State.setCondition_rate (k : Condition) (v : CondState) : (s.setCondition k v).rate = s.rate := rfl

@[simp] theorem State.setCondition_phase (k : Condition) (v : CondState) : (s.setCondition k v).phase = s.phase := rfl

@[simp] theorem State.setCondition_startup (k : Condition) (v : CondState) : (s.setCondition k v).startup = s.startup := rfl

@[simp] theorem State.setCondition_clock (k : Condition) (v : CondState) : (s.setCondition k v).clock = s.clock := rfl

@[simp] theorem State.setCondition_conditions (k : Condition) (v : CondState) :
    (s.setCondition k v).conditions = s.conditions.set k v := rfl

@[simp] theorem State.setCondition_settings (k : Condition) (v : CondState) : (s.setCondition k v).settings = s.settings := rfl

@[simp] theorem State.setCondition_decks (k : Condition) (v : CondState) : (s.setCondition k v).decks = s.decks := rfl

@[simp] theorem State.setCondition_coupled (k : Condition) (v : CondState) : (s.setCondition k v).coupled = s.coupled := rfl

@[simp] theorem State.setCondition_lanes (k : Condition) (v : CondState) : (s.setCondition k v).lanes = s.lanes := rfl

@[simp] theorem State.setCondition_claims (k : Condition) (v : CondState) : (s.setCondition k v).claims = s.claims := rfl

@[simp] theorem State.setCondition_holders (k : Condition) (v : CondState) : (s.setCondition k v).holders = s.holders := rfl

@[simp] theorem State.setCondition_attending (k : Condition) (v : CondState) : (s.setCondition k v).attending = s.attending := rfl

@[simp] theorem State.setCondition_vehicles (k : Condition) (v : CondState) : (s.setCondition k v).vehicles = s.vehicles := rfl

@[simp] theorem State.setCondition_site (k : Condition) (v : CondState) : (s.setCondition k v).site = s.site := rfl

@[simp] theorem State.setCondition_index (k : Condition) (v : CondState) : (s.setCondition k v).index = s.index := rfl

@[simp] theorem State.setCondition_tickets (k : Condition) (v : CondState) : (s.setCondition k v).tickets = s.tickets := rfl

@[simp] theorem State.setCondition_journalLow (k : Condition) (v : CondState) : (s.setCondition k v).journalLow = s.journalLow := rfl

@[simp] theorem State.setCondition_store (k : Condition) (v : CondState) : (s.setCondition k v).store = s.store := rfl

@[simp] theorem State.setCondition_notices (k : Condition) (v : CondState) : (s.setCondition k v).notices = s.notices := rfl

@[simp] theorem State.setCondition_ports (k : Condition) (v : CondState) : (s.setCondition k v).ports = s.ports := rfl

@[simp] theorem State.setCondition_pending (k : Condition) (v : CondState) : (s.setCondition k v).pending = s.pending := rfl

/-! #### `setStore` -/

@[simp] theorem State.setStore_rate (e : StoreEngine) : (s.setStore e).rate = s.rate := rfl

@[simp] theorem State.setStore_phase (e : StoreEngine) : (s.setStore e).phase = s.phase := rfl

@[simp] theorem State.setStore_startup (e : StoreEngine) : (s.setStore e).startup = s.startup := rfl

@[simp] theorem State.setStore_clock (e : StoreEngine) : (s.setStore e).clock = s.clock := rfl

@[simp] theorem State.setStore_conditions (e : StoreEngine) : (s.setStore e).conditions = s.conditions := rfl

@[simp] theorem State.setStore_settings (e : StoreEngine) : (s.setStore e).settings = s.settings := rfl

@[simp] theorem State.setStore_decks (e : StoreEngine) : (s.setStore e).decks = s.decks := rfl

@[simp] theorem State.setStore_coupled (e : StoreEngine) : (s.setStore e).coupled = s.coupled := rfl

@[simp] theorem State.setStore_lanes (e : StoreEngine) : (s.setStore e).lanes = s.lanes := rfl

@[simp] theorem State.setStore_claims (e : StoreEngine) : (s.setStore e).claims = s.claims := rfl

@[simp] theorem State.setStore_holders (e : StoreEngine) : (s.setStore e).holders = s.holders := rfl

@[simp] theorem State.setStore_attending (e : StoreEngine) : (s.setStore e).attending = s.attending := rfl

@[simp] theorem State.setStore_vehicles (e : StoreEngine) : (s.setStore e).vehicles = s.vehicles := rfl

@[simp] theorem State.setStore_site (e : StoreEngine) : (s.setStore e).site = s.site := rfl

@[simp] theorem State.setStore_index (e : StoreEngine) : (s.setStore e).index = s.index := rfl

@[simp] theorem State.setStore_tickets (e : StoreEngine) : (s.setStore e).tickets = s.tickets := rfl

@[simp] theorem State.setStore_journalLow (e : StoreEngine) : (s.setStore e).journalLow = s.journalLow := rfl

@[simp] theorem State.setStore_store (e : StoreEngine) :
    (s.setStore e).store = e := rfl

@[simp] theorem State.setStore_notices (e : StoreEngine) : (s.setStore e).notices = s.notices := rfl

@[simp] theorem State.setStore_ports (e : StoreEngine) : (s.setStore e).ports = s.ports := rfl

@[simp] theorem State.setStore_pending (e : StoreEngine) : (s.setStore e).pending = s.pending := rfl

/-! #### `setNotices` -/

@[simp] theorem State.setNotices_rate (st : Station) (n : NoticeState) : (s.setNotices st n).rate = s.rate := rfl

@[simp] theorem State.setNotices_phase (st : Station) (n : NoticeState) : (s.setNotices st n).phase = s.phase := rfl

@[simp] theorem State.setNotices_startup (st : Station) (n : NoticeState) : (s.setNotices st n).startup = s.startup := rfl

@[simp] theorem State.setNotices_clock (st : Station) (n : NoticeState) : (s.setNotices st n).clock = s.clock := rfl

@[simp] theorem State.setNotices_conditions (st : Station) (n : NoticeState) : (s.setNotices st n).conditions = s.conditions := rfl

@[simp] theorem State.setNotices_settings (st : Station) (n : NoticeState) : (s.setNotices st n).settings = s.settings := rfl

@[simp] theorem State.setNotices_decks (st : Station) (n : NoticeState) : (s.setNotices st n).decks = s.decks := rfl

@[simp] theorem State.setNotices_coupled (st : Station) (n : NoticeState) : (s.setNotices st n).coupled = s.coupled := rfl

@[simp] theorem State.setNotices_lanes (st : Station) (n : NoticeState) : (s.setNotices st n).lanes = s.lanes := rfl

@[simp] theorem State.setNotices_claims (st : Station) (n : NoticeState) : (s.setNotices st n).claims = s.claims := rfl

@[simp] theorem State.setNotices_holders (st : Station) (n : NoticeState) : (s.setNotices st n).holders = s.holders := rfl

@[simp] theorem State.setNotices_attending (st : Station) (n : NoticeState) : (s.setNotices st n).attending = s.attending := rfl

@[simp] theorem State.setNotices_vehicles (st : Station) (n : NoticeState) : (s.setNotices st n).vehicles = s.vehicles := rfl

@[simp] theorem State.setNotices_site (st : Station) (n : NoticeState) : (s.setNotices st n).site = s.site := rfl

@[simp] theorem State.setNotices_index (st : Station) (n : NoticeState) : (s.setNotices st n).index = s.index := rfl

@[simp] theorem State.setNotices_tickets (st : Station) (n : NoticeState) : (s.setNotices st n).tickets = s.tickets := rfl

@[simp] theorem State.setNotices_journalLow (st : Station) (n : NoticeState) : (s.setNotices st n).journalLow = s.journalLow := rfl

@[simp] theorem State.setNotices_store (st : Station) (n : NoticeState) : (s.setNotices st n).store = s.store := rfl

@[simp] theorem State.setNotices_notices (st : Station) (n : NoticeState) :
    (s.setNotices st n).notices = s.notices.set st n := rfl

@[simp] theorem State.setNotices_ports (st : Station) (n : NoticeState) : (s.setNotices st n).ports = s.ports := rfl

@[simp] theorem State.setNotices_pending (st : Station) (n : NoticeState) : (s.setNotices st n).pending = s.pending := rfl

/-! #### `setMarker` -/

@[simp] theorem State.setMarker_rate (st : Station) (m : Option Marker) : (s.setMarker st m).rate = s.rate := rfl

@[simp] theorem State.setMarker_phase (st : Station) (m : Option Marker) : (s.setMarker st m).phase = s.phase := rfl

@[simp] theorem State.setMarker_startup (st : Station) (m : Option Marker) : (s.setMarker st m).startup = s.startup := rfl

@[simp] theorem State.setMarker_clock (st : Station) (m : Option Marker) : (s.setMarker st m).clock = s.clock := rfl

@[simp] theorem State.setMarker_conditions (st : Station) (m : Option Marker) : (s.setMarker st m).conditions = s.conditions := rfl

@[simp] theorem State.setMarker_settings (st : Station) (m : Option Marker) : (s.setMarker st m).settings = s.settings := rfl

@[simp] theorem State.setMarker_decks (st : Station) (m : Option Marker) : (s.setMarker st m).decks = s.decks := rfl

@[simp] theorem State.setMarker_coupled (st : Station) (m : Option Marker) : (s.setMarker st m).coupled = s.coupled := rfl

@[simp] theorem State.setMarker_lanes (st : Station) (m : Option Marker) : (s.setMarker st m).lanes = s.lanes := rfl

@[simp] theorem State.setMarker_claims (st : Station) (m : Option Marker) : (s.setMarker st m).claims = s.claims := rfl

@[simp] theorem State.setMarker_holders (st : Station) (m : Option Marker) : (s.setMarker st m).holders = s.holders := rfl

@[simp] theorem State.setMarker_attending (st : Station) (m : Option Marker) : (s.setMarker st m).attending = s.attending := rfl

@[simp] theorem State.setMarker_vehicles (st : Station) (m : Option Marker) : (s.setMarker st m).vehicles = s.vehicles := rfl

@[simp] theorem State.setMarker_site (st : Station) (m : Option Marker) : (s.setMarker st m).site = s.site := rfl

@[simp] theorem State.setMarker_index (st : Station) (m : Option Marker) : (s.setMarker st m).index = s.index := rfl

@[simp] theorem State.setMarker_tickets (st : Station) (m : Option Marker) : (s.setMarker st m).tickets = s.tickets := rfl

@[simp] theorem State.setMarker_journalLow (st : Station) (m : Option Marker) : (s.setMarker st m).journalLow = s.journalLow := rfl

@[simp] theorem State.setMarker_store (st : Station) (m : Option Marker) : (s.setMarker st m).store = s.store := rfl

@[simp] theorem State.setMarker_notices (st : Station) (m : Option Marker) : (s.setMarker st m).notices = s.notices := rfl

@[simp] theorem State.setMarker_ports (st : Station) (m : Option Marker) :
    (s.setMarker st m).ports = s.ports.set st { s.port st with marker := m } := rfl

@[simp] theorem State.setMarker_pending (st : Station) (m : Option Marker) : (s.setMarker st m).pending = s.pending := rfl

/-! #### `endFrame` -/

@[simp] theorem State.endFrame_rate (st : Station) : (s.endFrame st).rate = s.rate := rfl

@[simp] theorem State.endFrame_phase (st : Station) : (s.endFrame st).phase = s.phase := rfl

@[simp] theorem State.endFrame_startup (st : Station) : (s.endFrame st).startup = s.startup := rfl

@[simp] theorem State.endFrame_clock (st : Station) : (s.endFrame st).clock = s.clock := rfl

@[simp] theorem State.endFrame_conditions (st : Station) : (s.endFrame st).conditions = s.conditions := rfl

@[simp] theorem State.endFrame_settings (st : Station) : (s.endFrame st).settings = s.settings := rfl

@[simp] theorem State.endFrame_decks (st : Station) : (s.endFrame st).decks = s.decks := rfl

@[simp] theorem State.endFrame_coupled (st : Station) : (s.endFrame st).coupled = s.coupled := rfl

@[simp] theorem State.endFrame_lanes (st : Station) : (s.endFrame st).lanes = s.lanes := rfl

@[simp] theorem State.endFrame_claims (st : Station) : (s.endFrame st).claims = s.claims := rfl

@[simp] theorem State.endFrame_holders (st : Station) : (s.endFrame st).holders = s.holders := rfl

@[simp] theorem State.endFrame_attending (st : Station) : (s.endFrame st).attending = s.attending := rfl

@[simp] theorem State.endFrame_vehicles (st : Station) : (s.endFrame st).vehicles = s.vehicles := rfl

@[simp] theorem State.endFrame_site (st : Station) : (s.endFrame st).site = s.site := rfl

@[simp] theorem State.endFrame_index (st : Station) : (s.endFrame st).index = s.index := rfl

@[simp] theorem State.endFrame_tickets (st : Station) : (s.endFrame st).tickets = s.tickets := rfl

@[simp] theorem State.endFrame_journalLow (st : Station) : (s.endFrame st).journalLow = s.journalLow := rfl

@[simp] theorem State.endFrame_store (st : Station) : (s.endFrame st).store = s.store := rfl

@[simp] theorem State.endFrame_notices (st : Station) : (s.endFrame st).notices = s.notices := rfl

@[simp] theorem State.endFrame_ports (st : Station) :
    (s.endFrame st).ports = s.ports.set st { s.port st with rx := [] } := rfl

@[simp] theorem State.endFrame_pending (st : Station) : (s.endFrame st).pending = s.pending := rfl

/-! #### `respond` -/

@[simp] theorem State.respond_rate (st : Station) (r : Response) : (s.respond st r).rate = s.rate := rfl

@[simp] theorem State.respond_phase (st : Station) (r : Response) : (s.respond st r).phase = s.phase := rfl

@[simp] theorem State.respond_startup (st : Station) (r : Response) : (s.respond st r).startup = s.startup := rfl

@[simp] theorem State.respond_clock (st : Station) (r : Response) : (s.respond st r).clock = s.clock := rfl

@[simp] theorem State.respond_conditions (st : Station) (r : Response) : (s.respond st r).conditions = s.conditions := rfl

@[simp] theorem State.respond_settings (st : Station) (r : Response) : (s.respond st r).settings = s.settings := rfl

@[simp] theorem State.respond_decks (st : Station) (r : Response) : (s.respond st r).decks = s.decks := rfl

@[simp] theorem State.respond_coupled (st : Station) (r : Response) : (s.respond st r).coupled = s.coupled := rfl

@[simp] theorem State.respond_lanes (st : Station) (r : Response) : (s.respond st r).lanes = s.lanes := rfl

@[simp] theorem State.respond_claims (st : Station) (r : Response) : (s.respond st r).claims = s.claims := rfl

@[simp] theorem State.respond_holders (st : Station) (r : Response) : (s.respond st r).holders = s.holders := rfl

@[simp] theorem State.respond_attending (st : Station) (r : Response) : (s.respond st r).attending = s.attending := rfl

@[simp] theorem State.respond_vehicles (st : Station) (r : Response) : (s.respond st r).vehicles = s.vehicles := rfl

@[simp] theorem State.respond_site (st : Station) (r : Response) : (s.respond st r).site = s.site := rfl

@[simp] theorem State.respond_index (st : Station) (r : Response) : (s.respond st r).index = s.index := rfl

@[simp] theorem State.respond_tickets (st : Station) (r : Response) : (s.respond st r).tickets = s.tickets := rfl

@[simp] theorem State.respond_journalLow (st : Station) (r : Response) : (s.respond st r).journalLow = s.journalLow := rfl

@[simp] theorem State.respond_store (st : Station) (r : Response) : (s.respond st r).store = s.store := rfl

@[simp] theorem State.respond_notices (st : Station) (r : Response) : (s.respond st r).notices = s.notices := rfl

@[simp] theorem State.respond_ports (st : Station) (r : Response) :
    (s.respond st r).ports = s.ports.set st ((s.port st).form r) := rfl

@[simp] theorem State.respond_pending (st : Station) (r : Response) : (s.respond st r).pending = s.pending := rfl

/-! #### `raiseNotice` -/

@[simp] theorem State.raiseNotice_rate (k : NoticeKind) (l : Option Lane) (d : Option Deck) (n c : Nat) (vs : List Int) : (s.raiseNotice k l d n c vs).rate = s.rate := rfl

@[simp] theorem State.raiseNotice_phase (k : NoticeKind) (l : Option Lane) (d : Option Deck) (n c : Nat) (vs : List Int) : (s.raiseNotice k l d n c vs).phase = s.phase := rfl

@[simp] theorem State.raiseNotice_startup (k : NoticeKind) (l : Option Lane) (d : Option Deck) (n c : Nat) (vs : List Int) : (s.raiseNotice k l d n c vs).startup = s.startup := rfl

@[simp] theorem State.raiseNotice_clock (k : NoticeKind) (l : Option Lane) (d : Option Deck) (n c : Nat) (vs : List Int) : (s.raiseNotice k l d n c vs).clock = s.clock := rfl

@[simp] theorem State.raiseNotice_conditions (k : NoticeKind) (l : Option Lane) (d : Option Deck) (n c : Nat) (vs : List Int) : (s.raiseNotice k l d n c vs).conditions = s.conditions := rfl

@[simp] theorem State.raiseNotice_settings (k : NoticeKind) (l : Option Lane) (d : Option Deck) (n c : Nat) (vs : List Int) : (s.raiseNotice k l d n c vs).settings = s.settings := rfl

@[simp] theorem State.raiseNotice_decks (k : NoticeKind) (l : Option Lane) (d : Option Deck) (n c : Nat) (vs : List Int) : (s.raiseNotice k l d n c vs).decks = s.decks := rfl

@[simp] theorem State.raiseNotice_coupled (k : NoticeKind) (l : Option Lane) (d : Option Deck) (n c : Nat) (vs : List Int) : (s.raiseNotice k l d n c vs).coupled = s.coupled := rfl

@[simp] theorem State.raiseNotice_lanes (k : NoticeKind) (l : Option Lane) (d : Option Deck) (n c : Nat) (vs : List Int) : (s.raiseNotice k l d n c vs).lanes = s.lanes := rfl

@[simp] theorem State.raiseNotice_claims (k : NoticeKind) (l : Option Lane) (d : Option Deck) (n c : Nat) (vs : List Int) : (s.raiseNotice k l d n c vs).claims = s.claims := rfl

@[simp] theorem State.raiseNotice_holders (k : NoticeKind) (l : Option Lane) (d : Option Deck) (n c : Nat) (vs : List Int) : (s.raiseNotice k l d n c vs).holders = s.holders := rfl

@[simp] theorem State.raiseNotice_attending (k : NoticeKind) (l : Option Lane) (d : Option Deck) (n c : Nat) (vs : List Int) : (s.raiseNotice k l d n c vs).attending = s.attending := rfl

@[simp] theorem State.raiseNotice_vehicles (k : NoticeKind) (l : Option Lane) (d : Option Deck) (n c : Nat) (vs : List Int) : (s.raiseNotice k l d n c vs).vehicles = s.vehicles := rfl

@[simp] theorem State.raiseNotice_site (k : NoticeKind) (l : Option Lane) (d : Option Deck) (n c : Nat) (vs : List Int) : (s.raiseNotice k l d n c vs).site = s.site := rfl

@[simp] theorem State.raiseNotice_index (k : NoticeKind) (l : Option Lane) (d : Option Deck) (n c : Nat) (vs : List Int) : (s.raiseNotice k l d n c vs).index = s.index := rfl

@[simp] theorem State.raiseNotice_tickets (k : NoticeKind) (l : Option Lane) (d : Option Deck) (n c : Nat) (vs : List Int) : (s.raiseNotice k l d n c vs).tickets = s.tickets := rfl

@[simp] theorem State.raiseNotice_journalLow (k : NoticeKind) (l : Option Lane) (d : Option Deck) (n c : Nat) (vs : List Int) : (s.raiseNotice k l d n c vs).journalLow = s.journalLow := rfl

@[simp] theorem State.raiseNotice_store (k : NoticeKind) (l : Option Lane) (d : Option Deck) (n c : Nat) (vs : List Int) : (s.raiseNotice k l d n c vs).store = s.store := rfl

@[simp] theorem State.raiseNotice_notices (k : NoticeKind) (l : Option Lane) (d : Option Deck) (n c : Nat) (vs : List Int) :
    (s.raiseNotice k l d n c vs).notices = s.announced [s.notice k l d n c vs] := rfl

@[simp] theorem State.raiseNotice_ports (k : NoticeKind) (l : Option Lane) (d : Option Deck) (n c : Nat) (vs : List Int) : (s.raiseNotice k l d n c vs).ports = s.ports := rfl

@[simp] theorem State.raiseNotice_pending (k : NoticeKind) (l : Option Lane) (d : Option Deck) (n c : Nat) (vs : List Int) : (s.raiseNotice k l d n c vs).pending = s.pending := rfl

/-! #### `activate` -/

@[simp] theorem State.activate_rate (k : Condition) : (s.activate k).rate = s.rate := rfl

@[simp] theorem State.activate_phase (k : Condition) : (s.activate k).phase = s.phase := rfl

@[simp] theorem State.activate_startup (k : Condition) : (s.activate k).startup = s.startup := rfl

@[simp] theorem State.activate_clock (k : Condition) : (s.activate k).clock = s.clock := rfl

@[simp] theorem State.activate_conditions (k : Condition) :
    (s.activate k).conditions = s.conditions.set k { s.condition k with active := true, latched := (s.condition k).latched || !(s.condition k).active } := rfl

@[simp] theorem State.activate_settings (k : Condition) : (s.activate k).settings = s.settings := rfl

@[simp] theorem State.activate_decks (k : Condition) : (s.activate k).decks = s.decks := rfl

@[simp] theorem State.activate_coupled (k : Condition) : (s.activate k).coupled = s.coupled := rfl

@[simp] theorem State.activate_lanes (k : Condition) : (s.activate k).lanes = s.lanes := rfl

@[simp] theorem State.activate_claims (k : Condition) : (s.activate k).claims = s.claims := rfl

@[simp] theorem State.activate_holders (k : Condition) : (s.activate k).holders = s.holders := rfl

@[simp] theorem State.activate_attending (k : Condition) : (s.activate k).attending = s.attending := rfl

@[simp] theorem State.activate_vehicles (k : Condition) : (s.activate k).vehicles = s.vehicles := rfl

@[simp] theorem State.activate_site (k : Condition) : (s.activate k).site = s.site := rfl

@[simp] theorem State.activate_index (k : Condition) : (s.activate k).index = s.index := rfl

@[simp] theorem State.activate_tickets (k : Condition) : (s.activate k).tickets = s.tickets := rfl

@[simp] theorem State.activate_journalLow (k : Condition) : (s.activate k).journalLow = s.journalLow := rfl

@[simp] theorem State.activate_store (k : Condition) : (s.activate k).store = s.store := rfl

@[simp] theorem State.activate_notices (k : Condition) : (s.activate k).notices = s.notices := rfl

@[simp] theorem State.activate_ports (k : Condition) : (s.activate k).ports = s.ports := rfl

@[simp] theorem State.activate_pending (k : Condition) : (s.activate k).pending = s.pending := rfl

/-! #### `deactivate` -/

@[simp] theorem State.deactivate_rate (k : Condition) : (s.deactivate k).rate = s.rate := rfl

@[simp] theorem State.deactivate_phase (k : Condition) : (s.deactivate k).phase = s.phase := rfl

@[simp] theorem State.deactivate_startup (k : Condition) : (s.deactivate k).startup = s.startup := rfl

@[simp] theorem State.deactivate_clock (k : Condition) : (s.deactivate k).clock = s.clock := rfl

@[simp] theorem State.deactivate_conditions (k : Condition) :
    (s.deactivate k).conditions = s.conditions.set k { s.condition k with active := false } := rfl

@[simp] theorem State.deactivate_settings (k : Condition) : (s.deactivate k).settings = s.settings := rfl

@[simp] theorem State.deactivate_decks (k : Condition) : (s.deactivate k).decks = s.decks := rfl

@[simp] theorem State.deactivate_coupled (k : Condition) : (s.deactivate k).coupled = s.coupled := rfl

@[simp] theorem State.deactivate_lanes (k : Condition) : (s.deactivate k).lanes = s.lanes := rfl

@[simp] theorem State.deactivate_claims (k : Condition) : (s.deactivate k).claims = s.claims := rfl

@[simp] theorem State.deactivate_holders (k : Condition) : (s.deactivate k).holders = s.holders := rfl

@[simp] theorem State.deactivate_attending (k : Condition) : (s.deactivate k).attending = s.attending := rfl

@[simp] theorem State.deactivate_vehicles (k : Condition) : (s.deactivate k).vehicles = s.vehicles := rfl

@[simp] theorem State.deactivate_site (k : Condition) : (s.deactivate k).site = s.site := rfl

@[simp] theorem State.deactivate_index (k : Condition) : (s.deactivate k).index = s.index := rfl

@[simp] theorem State.deactivate_tickets (k : Condition) : (s.deactivate k).tickets = s.tickets := rfl

@[simp] theorem State.deactivate_journalLow (k : Condition) : (s.deactivate k).journalLow = s.journalLow := rfl

@[simp] theorem State.deactivate_store (k : Condition) : (s.deactivate k).store = s.store := rfl

@[simp] theorem State.deactivate_notices (k : Condition) : (s.deactivate k).notices = s.notices := rfl

@[simp] theorem State.deactivate_ports (k : Condition) : (s.deactivate k).ports = s.ports := rfl

@[simp] theorem State.deactivate_pending (k : Condition) : (s.deactivate k).pending = s.pending := rfl

/-! #### `latch` -/

@[simp] theorem State.latch_rate (k : Condition) : (s.latch k).rate = s.rate := rfl

@[simp] theorem State.latch_phase (k : Condition) : (s.latch k).phase = s.phase := rfl

@[simp] theorem State.latch_startup (k : Condition) : (s.latch k).startup = s.startup := rfl

@[simp] theorem State.latch_clock (k : Condition) : (s.latch k).clock = s.clock := rfl

@[simp] theorem State.latch_conditions (k : Condition) :
    (s.latch k).conditions = s.conditions.set k { s.condition k with latched := true } := rfl

@[simp] theorem State.latch_settings (k : Condition) : (s.latch k).settings = s.settings := rfl

@[simp] theorem State.latch_decks (k : Condition) : (s.latch k).decks = s.decks := rfl

@[simp] theorem State.latch_coupled (k : Condition) : (s.latch k).coupled = s.coupled := rfl

@[simp] theorem State.latch_lanes (k : Condition) : (s.latch k).lanes = s.lanes := rfl

@[simp] theorem State.latch_claims (k : Condition) : (s.latch k).claims = s.claims := rfl

@[simp] theorem State.latch_holders (k : Condition) : (s.latch k).holders = s.holders := rfl

@[simp] theorem State.latch_attending (k : Condition) : (s.latch k).attending = s.attending := rfl

@[simp] theorem State.latch_vehicles (k : Condition) : (s.latch k).vehicles = s.vehicles := rfl

@[simp] theorem State.latch_site (k : Condition) : (s.latch k).site = s.site := rfl

@[simp] theorem State.latch_index (k : Condition) : (s.latch k).index = s.index := rfl

@[simp] theorem State.latch_tickets (k : Condition) : (s.latch k).tickets = s.tickets := rfl

@[simp] theorem State.latch_journalLow (k : Condition) : (s.latch k).journalLow = s.journalLow := rfl

@[simp] theorem State.latch_store (k : Condition) : (s.latch k).store = s.store := rfl

@[simp] theorem State.latch_notices (k : Condition) : (s.latch k).notices = s.notices := rfl

@[simp] theorem State.latch_ports (k : Condition) : (s.latch k).ports = s.ports := rfl

@[simp] theorem State.latch_pending (k : Condition) : (s.latch k).pending = s.pending := rfl

/-! #### `enqueue` -/

@[simp] theorem State.enqueue_rate (es : List Record) : (s.enqueue es).rate = s.rate := rfl

@[simp] theorem State.enqueue_phase (es : List Record) : (s.enqueue es).phase = s.phase := rfl

@[simp] theorem State.enqueue_startup (es : List Record) : (s.enqueue es).startup = s.startup := rfl

@[simp] theorem State.enqueue_clock (es : List Record) : (s.enqueue es).clock = s.clock := rfl

@[simp] theorem State.enqueue_conditions (es : List Record) : (s.enqueue es).conditions = s.conditions := rfl

@[simp] theorem State.enqueue_settings (es : List Record) : (s.enqueue es).settings = s.settings := rfl

@[simp] theorem State.enqueue_decks (es : List Record) : (s.enqueue es).decks = s.decks := rfl

@[simp] theorem State.enqueue_coupled (es : List Record) : (s.enqueue es).coupled = s.coupled := rfl

@[simp] theorem State.enqueue_lanes (es : List Record) : (s.enqueue es).lanes = s.lanes := rfl

@[simp] theorem State.enqueue_claims (es : List Record) : (s.enqueue es).claims = s.claims := rfl

@[simp] theorem State.enqueue_holders (es : List Record) : (s.enqueue es).holders = s.holders := rfl

@[simp] theorem State.enqueue_attending (es : List Record) : (s.enqueue es).attending = s.attending := rfl

@[simp] theorem State.enqueue_vehicles (es : List Record) : (s.enqueue es).vehicles = s.vehicles := rfl

@[simp] theorem State.enqueue_site (es : List Record) : (s.enqueue es).site = s.site := rfl

@[simp] theorem State.enqueue_index (es : List Record) : (s.enqueue es).index = s.index := rfl

@[simp] theorem State.enqueue_tickets (es : List Record) : (s.enqueue es).tickets = s.tickets := rfl

@[simp] theorem State.enqueue_journalLow (es : List Record) : (s.enqueue es).journalLow = s.journalLow := rfl

@[simp] theorem State.enqueue_store (es : List Record) :
    (s.enqueue es).store = s.queuedWith es := rfl

@[simp] theorem State.enqueue_notices (es : List Record) : (s.enqueue es).notices = s.notices := rfl

@[simp] theorem State.enqueue_ports (es : List Record) : (s.enqueue es).ports = s.ports := rfl

@[simp] theorem State.enqueue_pending (es : List Record) : (s.enqueue es).pending = s.pending := rfl

/-! #### `updateSite` -/

@[simp] theorem State.updateSite_rate (n : Nat) (f : SiteEntry → SiteEntry) : (s.updateSite n f).rate = s.rate := rfl

@[simp] theorem State.updateSite_phase (n : Nat) (f : SiteEntry → SiteEntry) : (s.updateSite n f).phase = s.phase := rfl

@[simp] theorem State.updateSite_startup (n : Nat) (f : SiteEntry → SiteEntry) : (s.updateSite n f).startup = s.startup := rfl

@[simp] theorem State.updateSite_clock (n : Nat) (f : SiteEntry → SiteEntry) : (s.updateSite n f).clock = s.clock := rfl

@[simp] theorem State.updateSite_conditions (n : Nat) (f : SiteEntry → SiteEntry) : (s.updateSite n f).conditions = s.conditions := rfl

@[simp] theorem State.updateSite_settings (n : Nat) (f : SiteEntry → SiteEntry) : (s.updateSite n f).settings = s.settings := rfl

@[simp] theorem State.updateSite_decks (n : Nat) (f : SiteEntry → SiteEntry) : (s.updateSite n f).decks = s.decks := rfl

@[simp] theorem State.updateSite_coupled (n : Nat) (f : SiteEntry → SiteEntry) : (s.updateSite n f).coupled = s.coupled := rfl

@[simp] theorem State.updateSite_lanes (n : Nat) (f : SiteEntry → SiteEntry) : (s.updateSite n f).lanes = s.lanes := rfl

@[simp] theorem State.updateSite_claims (n : Nat) (f : SiteEntry → SiteEntry) : (s.updateSite n f).claims = s.claims := rfl

@[simp] theorem State.updateSite_holders (n : Nat) (f : SiteEntry → SiteEntry) : (s.updateSite n f).holders = s.holders := rfl

@[simp] theorem State.updateSite_attending (n : Nat) (f : SiteEntry → SiteEntry) : (s.updateSite n f).attending = s.attending := rfl

@[simp] theorem State.updateSite_vehicles (n : Nat) (f : SiteEntry → SiteEntry) : (s.updateSite n f).vehicles = s.vehicles := rfl

@[simp] theorem State.updateSite_site (n : Nat) (f : SiteEntry → SiteEntry) :
    (s.updateSite n f).site = { s.site with entries := s.site.entries.map fun e => if e.slot = n then f e else e } := rfl

@[simp] theorem State.updateSite_index (n : Nat) (f : SiteEntry → SiteEntry) : (s.updateSite n f).index = s.index := rfl

@[simp] theorem State.updateSite_tickets (n : Nat) (f : SiteEntry → SiteEntry) : (s.updateSite n f).tickets = s.tickets := rfl

@[simp] theorem State.updateSite_journalLow (n : Nat) (f : SiteEntry → SiteEntry) : (s.updateSite n f).journalLow = s.journalLow := rfl

@[simp] theorem State.updateSite_store (n : Nat) (f : SiteEntry → SiteEntry) : (s.updateSite n f).store = s.store := rfl

@[simp] theorem State.updateSite_notices (n : Nat) (f : SiteEntry → SiteEntry) : (s.updateSite n f).notices = s.notices := rfl

@[simp] theorem State.updateSite_ports (n : Nat) (f : SiteEntry → SiteEntry) : (s.updateSite n f).ports = s.ports := rfl

@[simp] theorem State.updateSite_pending (n : Nat) (f : SiteEntry → SiteEntry) : (s.updateSite n f).pending = s.pending := rfl

/-! #### `releaseSite` -/

@[simp] theorem State.releaseSite_rate (n : Nat) : (s.releaseSite n).rate = s.rate := rfl

@[simp] theorem State.releaseSite_phase (n : Nat) : (s.releaseSite n).phase = s.phase := rfl

@[simp] theorem State.releaseSite_startup (n : Nat) : (s.releaseSite n).startup = s.startup := rfl

@[simp] theorem State.releaseSite_clock (n : Nat) : (s.releaseSite n).clock = s.clock := rfl

@[simp] theorem State.releaseSite_conditions (n : Nat) : (s.releaseSite n).conditions = s.conditions := rfl

@[simp] theorem State.releaseSite_settings (n : Nat) : (s.releaseSite n).settings = s.settings := rfl

@[simp] theorem State.releaseSite_decks (n : Nat) : (s.releaseSite n).decks = s.decks := rfl

@[simp] theorem State.releaseSite_coupled (n : Nat) : (s.releaseSite n).coupled = s.coupled := rfl

@[simp] theorem State.releaseSite_lanes (n : Nat) : (s.releaseSite n).lanes = s.lanes := rfl

@[simp] theorem State.releaseSite_claims (n : Nat) : (s.releaseSite n).claims = s.claims := rfl

@[simp] theorem State.releaseSite_holders (n : Nat) : (s.releaseSite n).holders = s.holders := rfl

@[simp] theorem State.releaseSite_attending (n : Nat) : (s.releaseSite n).attending = s.attending := rfl

@[simp] theorem State.releaseSite_vehicles (n : Nat) : (s.releaseSite n).vehicles = s.vehicles := rfl

@[simp] theorem State.releaseSite_site (n : Nat) :
    (s.releaseSite n).site = { s.site with entries := s.site.entries.filter fun e => decide (e.slot ≠ n) } := rfl

@[simp] theorem State.releaseSite_index (n : Nat) : (s.releaseSite n).index = s.index := rfl

@[simp] theorem State.releaseSite_tickets (n : Nat) : (s.releaseSite n).tickets = s.tickets := rfl

@[simp] theorem State.releaseSite_journalLow (n : Nat) : (s.releaseSite n).journalLow = s.journalLow := rfl

@[simp] theorem State.releaseSite_store (n : Nat) : (s.releaseSite n).store = s.store := rfl

@[simp] theorem State.releaseSite_notices (n : Nat) : (s.releaseSite n).notices = s.notices := rfl

@[simp] theorem State.releaseSite_ports (n : Nat) : (s.releaseSite n).ports = s.ports := rfl

@[simp] theorem State.releaseSite_pending (n : Nat) : (s.releaseSite n).pending = s.pending := rfl

/-! #### `unbind` -/

@[simp] theorem State.unbind_rate (l : Lane) : (s.unbind l).rate = s.rate := rfl

@[simp] theorem State.unbind_phase (l : Lane) : (s.unbind l).phase = s.phase := rfl

@[simp] theorem State.unbind_startup (l : Lane) : (s.unbind l).startup = s.startup := rfl

@[simp] theorem State.unbind_clock (l : Lane) : (s.unbind l).clock = s.clock := rfl

@[simp] theorem State.unbind_conditions (l : Lane) : (s.unbind l).conditions = s.conditions := rfl

@[simp] theorem State.unbind_settings (l : Lane) : (s.unbind l).settings = s.settings := rfl

@[simp] theorem State.unbind_decks (l : Lane) : (s.unbind l).decks = s.decks := rfl

@[simp] theorem State.unbind_coupled (l : Lane) : (s.unbind l).coupled = s.coupled := rfl

@[simp] theorem State.unbind_lanes (l : Lane) : (s.unbind l).lanes = s.lanes := rfl

@[simp] theorem State.unbind_claims (l : Lane) : (s.unbind l).claims = s.claims := rfl

@[simp] theorem State.unbind_holders (l : Lane) : (s.unbind l).holders = s.holders := rfl

@[simp] theorem State.unbind_attending (l : Lane) : (s.unbind l).attending = s.attending := rfl

@[simp] theorem State.unbind_vehicles (l : Lane) : (s.unbind l).vehicles = s.vehicles := rfl

@[simp] theorem State.unbind_site (l : Lane) :
    (s.unbind l).site = { s.site with entries := s.site.entries.map fun e => if e.boundLane = some l then { e with boundLane := none } else e } := rfl

@[simp] theorem State.unbind_index (l : Lane) : (s.unbind l).index = s.index := rfl

@[simp] theorem State.unbind_tickets (l : Lane) : (s.unbind l).tickets = s.tickets := rfl

@[simp] theorem State.unbind_journalLow (l : Lane) : (s.unbind l).journalLow = s.journalLow := rfl

@[simp] theorem State.unbind_store (l : Lane) : (s.unbind l).store = s.store := rfl

@[simp] theorem State.unbind_notices (l : Lane) : (s.unbind l).notices = s.notices := rfl

@[simp] theorem State.unbind_ports (l : Lane) : (s.unbind l).ports = s.ports := rfl

@[simp] theorem State.unbind_pending (l : Lane) : (s.unbind l).pending = s.pending := rfl

/-! #### `leaveClaim` -/

@[simp] theorem State.leaveClaim_rate (l : Lane) : (s.leaveClaim l).rate = s.rate := rfl

@[simp] theorem State.leaveClaim_phase (l : Lane) : (s.leaveClaim l).phase = s.phase := rfl

@[simp] theorem State.leaveClaim_startup (l : Lane) : (s.leaveClaim l).startup = s.startup := rfl

@[simp] theorem State.leaveClaim_clock (l : Lane) : (s.leaveClaim l).clock = s.clock := rfl

@[simp] theorem State.leaveClaim_conditions (l : Lane) : (s.leaveClaim l).conditions = s.conditions := rfl

@[simp] theorem State.leaveClaim_settings (l : Lane) : (s.leaveClaim l).settings = s.settings := rfl

@[simp] theorem State.leaveClaim_decks (l : Lane) : (s.leaveClaim l).decks = s.decks := rfl

@[simp] theorem State.leaveClaim_coupled (l : Lane) : (s.leaveClaim l).coupled = s.coupled := rfl

@[simp] theorem State.leaveClaim_lanes (l : Lane) : (s.leaveClaim l).lanes = s.lanes := rfl

@[simp] theorem State.leaveClaim_claims (l : Lane) :
    (s.leaveClaim l).claims = s.claims.map fun q => q.filter fun m => decide (m ≠ l) := rfl

@[simp] theorem State.leaveClaim_holders (l : Lane) : (s.leaveClaim l).holders = s.holders := rfl

@[simp] theorem State.leaveClaim_attending (l : Lane) : (s.leaveClaim l).attending = s.attending := rfl

@[simp] theorem State.leaveClaim_vehicles (l : Lane) : (s.leaveClaim l).vehicles = s.vehicles := rfl

@[simp] theorem State.leaveClaim_site (l : Lane) : (s.leaveClaim l).site = s.site := rfl

@[simp] theorem State.leaveClaim_index (l : Lane) : (s.leaveClaim l).index = s.index := rfl

@[simp] theorem State.leaveClaim_tickets (l : Lane) : (s.leaveClaim l).tickets = s.tickets := rfl

@[simp] theorem State.leaveClaim_journalLow (l : Lane) : (s.leaveClaim l).journalLow = s.journalLow := rfl

@[simp] theorem State.leaveClaim_store (l : Lane) : (s.leaveClaim l).store = s.store := rfl

@[simp] theorem State.leaveClaim_notices (l : Lane) : (s.leaveClaim l).notices = s.notices := rfl

@[simp] theorem State.leaveClaim_ports (l : Lane) : (s.leaveClaim l).ports = s.ports := rfl

@[simp] theorem State.leaveClaim_pending (l : Lane) : (s.leaveClaim l).pending = s.pending := rfl

/-! #### `releaseDecks` -/

@[simp] theorem State.releaseDecks_rate (l : Lane) : (s.releaseDecks l).rate = s.rate := rfl

@[simp] theorem State.releaseDecks_phase (l : Lane) : (s.releaseDecks l).phase = s.phase := rfl

@[simp] theorem State.releaseDecks_startup (l : Lane) : (s.releaseDecks l).startup = s.startup := rfl

@[simp] theorem State.releaseDecks_clock (l : Lane) : (s.releaseDecks l).clock = s.clock := rfl

@[simp] theorem State.releaseDecks_conditions (l : Lane) : (s.releaseDecks l).conditions = s.conditions := rfl

@[simp] theorem State.releaseDecks_settings (l : Lane) : (s.releaseDecks l).settings = s.settings := rfl

@[simp] theorem State.releaseDecks_decks (l : Lane) : (s.releaseDecks l).decks = s.decks := rfl

@[simp] theorem State.releaseDecks_coupled (l : Lane) : (s.releaseDecks l).coupled = s.coupled := rfl

@[simp] theorem State.releaseDecks_lanes (l : Lane) : (s.releaseDecks l).lanes = s.lanes := rfl

@[simp] theorem State.releaseDecks_claims (l : Lane) : (s.releaseDecks l).claims = s.claims := rfl

@[simp] theorem State.releaseDecks_holders (l : Lane) :
    (s.releaseDecks l).holders = s.holders.map fun h => if h = some l then none else h := rfl

@[simp] theorem State.releaseDecks_attending (l : Lane) : (s.releaseDecks l).attending = s.attending := rfl

@[simp] theorem State.releaseDecks_vehicles (l : Lane) : (s.releaseDecks l).vehicles = s.vehicles := rfl

@[simp] theorem State.releaseDecks_site (l : Lane) : (s.releaseDecks l).site = s.site := rfl

@[simp] theorem State.releaseDecks_index (l : Lane) : (s.releaseDecks l).index = s.index := rfl

@[simp] theorem State.releaseDecks_tickets (l : Lane) : (s.releaseDecks l).tickets = s.tickets := rfl

@[simp] theorem State.releaseDecks_journalLow (l : Lane) : (s.releaseDecks l).journalLow = s.journalLow := rfl

@[simp] theorem State.releaseDecks_store (l : Lane) : (s.releaseDecks l).store = s.store := rfl

@[simp] theorem State.releaseDecks_notices (l : Lane) : (s.releaseDecks l).notices = s.notices := rfl

@[simp] theorem State.releaseDecks_ports (l : Lane) : (s.releaseDecks l).ports = s.ports := rfl

@[simp] theorem State.releaseDecks_pending (l : Lane) : (s.releaseDecks l).pending = s.pending := rfl

/-! #### `enter` -/

@[simp] theorem State.enter_rate (l : Lane) (st : LaneState) (k : Bool) : (s.enter l st k).rate = s.rate := rfl

@[simp] theorem State.enter_phase (l : Lane) (st : LaneState) (k : Bool) : (s.enter l st k).phase = s.phase := rfl

@[simp] theorem State.enter_startup (l : Lane) (st : LaneState) (k : Bool) : (s.enter l st k).startup = s.startup := rfl

@[simp] theorem State.enter_clock (l : Lane) (st : LaneState) (k : Bool) : (s.enter l st k).clock = s.clock := rfl

@[simp] theorem State.enter_conditions (l : Lane) (st : LaneState) (k : Bool) : (s.enter l st k).conditions = s.conditions := rfl

@[simp] theorem State.enter_settings (l : Lane) (st : LaneState) (k : Bool) : (s.enter l st k).settings = s.settings := rfl

@[simp] theorem State.enter_decks (l : Lane) (st : LaneState) (k : Bool) : (s.enter l st k).decks = s.decks := rfl

@[simp] theorem State.enter_coupled (l : Lane) (st : LaneState) (k : Bool) : (s.enter l st k).coupled = s.coupled := rfl

@[simp] theorem State.enter_lanes (l : Lane) (st : LaneState) (k : Bool) :
    (s.enter l st k).lanes = s.lanes.set l ((s.lane l).enter (s.laneSettings l) st k) := rfl

@[simp] theorem State.enter_claims (l : Lane) (st : LaneState) (k : Bool) : (s.enter l st k).claims = s.claims := rfl

@[simp] theorem State.enter_holders (l : Lane) (st : LaneState) (k : Bool) : (s.enter l st k).holders = s.holders := rfl

@[simp] theorem State.enter_attending (l : Lane) (st : LaneState) (k : Bool) : (s.enter l st k).attending = s.attending := rfl

@[simp] theorem State.enter_vehicles (l : Lane) (st : LaneState) (k : Bool) : (s.enter l st k).vehicles = s.vehicles := rfl

@[simp] theorem State.enter_site (l : Lane) (st : LaneState) (k : Bool) : (s.enter l st k).site = s.site := rfl

@[simp] theorem State.enter_index (l : Lane) (st : LaneState) (k : Bool) : (s.enter l st k).index = s.index := rfl

@[simp] theorem State.enter_tickets (l : Lane) (st : LaneState) (k : Bool) : (s.enter l st k).tickets = s.tickets := rfl

@[simp] theorem State.enter_journalLow (l : Lane) (st : LaneState) (k : Bool) : (s.enter l st k).journalLow = s.journalLow := rfl

@[simp] theorem State.enter_store (l : Lane) (st : LaneState) (k : Bool) : (s.enter l st k).store = s.store := rfl

@[simp] theorem State.enter_notices (l : Lane) (st : LaneState) (k : Bool) : (s.enter l st k).notices = s.notices := rfl

@[simp] theorem State.enter_ports (l : Lane) (st : LaneState) (k : Bool) : (s.enter l st k).ports = s.ports := rfl

@[simp] theorem State.enter_pending (l : Lane) (st : LaneState) (k : Bool) : (s.enter l st k).pending = s.pending := rfl

/-! #### `setBarrier` -/

@[simp] theorem State.setBarrier_rate (l : Lane) (i : BarrierId) (b : Barrier) : (s.setBarrier l i b).rate = s.rate := rfl

@[simp] theorem State.setBarrier_phase (l : Lane) (i : BarrierId) (b : Barrier) : (s.setBarrier l i b).phase = s.phase := rfl

@[simp] theorem State.setBarrier_startup (l : Lane) (i : BarrierId) (b : Barrier) : (s.setBarrier l i b).startup = s.startup := rfl

@[simp] theorem State.setBarrier_clock (l : Lane) (i : BarrierId) (b : Barrier) : (s.setBarrier l i b).clock = s.clock := rfl

@[simp] theorem State.setBarrier_conditions (l : Lane) (i : BarrierId) (b : Barrier) : (s.setBarrier l i b).conditions = s.conditions := rfl

@[simp] theorem State.setBarrier_settings (l : Lane) (i : BarrierId) (b : Barrier) : (s.setBarrier l i b).settings = s.settings := rfl

@[simp] theorem State.setBarrier_decks (l : Lane) (i : BarrierId) (b : Barrier) : (s.setBarrier l i b).decks = s.decks := rfl

@[simp] theorem State.setBarrier_coupled (l : Lane) (i : BarrierId) (b : Barrier) : (s.setBarrier l i b).coupled = s.coupled := rfl

@[simp] theorem State.setBarrier_lanes (l : Lane) (i : BarrierId) (b : Barrier) :
    (s.setBarrier l i b).lanes = s.lanes.set l ((s.lane l).setBarrier i b) := rfl

@[simp] theorem State.setBarrier_claims (l : Lane) (i : BarrierId) (b : Barrier) : (s.setBarrier l i b).claims = s.claims := rfl

@[simp] theorem State.setBarrier_holders (l : Lane) (i : BarrierId) (b : Barrier) : (s.setBarrier l i b).holders = s.holders := rfl

@[simp] theorem State.setBarrier_attending (l : Lane) (i : BarrierId) (b : Barrier) : (s.setBarrier l i b).attending = s.attending := rfl

@[simp] theorem State.setBarrier_vehicles (l : Lane) (i : BarrierId) (b : Barrier) : (s.setBarrier l i b).vehicles = s.vehicles := rfl

@[simp] theorem State.setBarrier_site (l : Lane) (i : BarrierId) (b : Barrier) : (s.setBarrier l i b).site = s.site := rfl

@[simp] theorem State.setBarrier_index (l : Lane) (i : BarrierId) (b : Barrier) : (s.setBarrier l i b).index = s.index := rfl

@[simp] theorem State.setBarrier_tickets (l : Lane) (i : BarrierId) (b : Barrier) : (s.setBarrier l i b).tickets = s.tickets := rfl

@[simp] theorem State.setBarrier_journalLow (l : Lane) (i : BarrierId) (b : Barrier) : (s.setBarrier l i b).journalLow = s.journalLow := rfl

@[simp] theorem State.setBarrier_store (l : Lane) (i : BarrierId) (b : Barrier) : (s.setBarrier l i b).store = s.store := rfl

@[simp] theorem State.setBarrier_notices (l : Lane) (i : BarrierId) (b : Barrier) : (s.setBarrier l i b).notices = s.notices := rfl

@[simp] theorem State.setBarrier_ports (l : Lane) (i : BarrierId) (b : Barrier) : (s.setBarrier l i b).ports = s.ports := rfl

@[simp] theorem State.setBarrier_pending (l : Lane) (i : BarrierId) (b : Barrier) : (s.setBarrier l i b).pending = s.pending := rfl

/-! #### `recouple` -/

@[simp] theorem State.recouple_rate : s.recouple.rate = s.rate := rfl

@[simp] theorem State.recouple_phase : s.recouple.phase = s.phase := rfl

@[simp] theorem State.recouple_startup : s.recouple.startup = s.startup := rfl

@[simp] theorem State.recouple_clock : s.recouple.clock = s.clock := rfl

@[simp] theorem State.recouple_conditions : s.recouple.conditions = s.conditions := rfl

@[simp] theorem State.recouple_settings : s.recouple.settings = s.settings := rfl

@[simp] theorem State.recouple_decks : s.recouple.decks = s.decks := rfl

@[simp] theorem State.recouple_coupled :
    s.recouple.coupled = formCoupled s.coupled s.decks.d0 s.decks.d1 := rfl

@[simp] theorem State.recouple_lanes : s.recouple.lanes = s.lanes := rfl

@[simp] theorem State.recouple_claims : s.recouple.claims = s.claims := rfl

@[simp] theorem State.recouple_holders : s.recouple.holders = s.holders := rfl

@[simp] theorem State.recouple_attending : s.recouple.attending = s.attending := rfl

@[simp] theorem State.recouple_vehicles : s.recouple.vehicles = s.vehicles := rfl

@[simp] theorem State.recouple_site : s.recouple.site = s.site := rfl

@[simp] theorem State.recouple_index : s.recouple.index = s.index := rfl

@[simp] theorem State.recouple_tickets : s.recouple.tickets = s.tickets := rfl

@[simp] theorem State.recouple_journalLow : s.recouple.journalLow = s.journalLow := rfl

@[simp] theorem State.recouple_store : s.recouple.store = s.store := rfl

@[simp] theorem State.recouple_notices : s.recouple.notices = s.notices := rfl

@[simp] theorem State.recouple_ports : s.recouple.ports = s.ports := rfl

@[simp] theorem State.recouple_pending : s.recouple.pending = s.pending := rfl

/-! #### Reading one part after it has been written -/

@[simp] theorem State.lane_setLane (l m : Lane) (v : LaneUnit) : (s.setLane l v).lane m = if m = l then v else s.lane m :=
  PerLane.get_set ..

@[simp] theorem State.deck_setDeck (d e : Deck) (v : DeckUnit) : (s.setDeck d v).deck e = if e = d then v else s.deck e :=
  PerDeck.get_set ..

@[simp] theorem State.port_setPort (a b : Station) (v : Port) : (s.setPort a v).port b = if b = a then v else s.port b :=
  PerStation.get_set ..

@[simp] theorem State.condition_setCondition (k j : Condition) (v : CondState) :
    (s.setCondition k v).condition j = if j = k then v else s.condition j :=
  Conditions.get_set ..

end Machine

end Sys2Proof
end

