-- ==== Sys2Proof/Laws/Blocks.lean ====
section
/-! SUPPORT. What the shared operations of the single blocks do, each said once: a notice joining a queue, a response being
formed, an item joining the write queue, a condition that changes, the claim queues, and holding a lane. -/

namespace Sys2Proof.Machine

/-! ### Notices and responses -/

/-- A notice that joins touches neither the mask nor the levels in progress. -/
theorem NoticeState.join_rest (q : NoticeState) (n : Notice) :
    (q.join n).mask = q.mask ∧ (q.join n).inProgress = q.inProgress := by
  unfold NoticeState.join
  split
  · exact ⟨rfl, rfl⟩
  · split <;> exact ⟨rfl, rfl⟩

/-- The queue after a notice has arrived: the notice at its end with at most one older notice gone, or the queue as it was. -/
theorem NoticeState.join_queue (q : NoticeState) (n : Notice) :
    (q.join n).queue = q.queue ∨ (q.join n).queue = q.queue ++ [n]
      ∨ (q.join n).queue = q.queue.eraseP (fun x => decide (x.level = lowestPriority q.queue)) ++ [n] := by
  unfold NoticeState.join
  split
  · exact Or.inr (Or.inl rfl)
  · split
    · exact Or.inr (Or.inr rfl)
    · exact Or.inl rfl

/-- Overrun is set at a full queue and otherwise stays. -/
theorem NoticeState.join_overrun (q : NoticeState) (n : Notice) :
    (q.join n).overrun = if q.queue.length < 32 then q.overrun else true := by
  unfold NoticeState.join
  split
  · rfl
  · split <;> rfl

/-- The lowest priority present is the least bound on the level numbers of the queue. -/
theorem lowestPriority_le_iff (q : List Notice) (v : Nat) : lowestPriority q ≤ v ↔ ∀ n ∈ q, n.level ≤ v := by
  have general : ∀ start, q.foldl (fun m n => max m n.level) start ≤ v ↔ start ≤ v ∧ ∀ n ∈ q, n.level ≤ v := by
    induction q with
    | nil => simp
    | cons first others ih => simp [ih, Nat.max_le, and_assoc]
  simpa [lowestPriority] using general 0

/-- A response formed on a port leaves its receiver and its marker alone. -/
theorem Port.form_rest (p : Port) (r : Response) : (p.form r).rx = p.rx ∧ (p.form r).marker = p.marker := by
  unfold Port.form
  split <;> exact ⟨rfl, rfl⟩

/-- The response is being sent or waits behind those formed before it. -/
theorem Port.form_cases (p : Port) (r : Response) :
    (p.sending = none ∧ p.form r = { p with sending := some r })
      ∨ ∃ x, p.sending = some x ∧ p.form r = { p with waiting := p.waiting ++ [r] } := by
  unfold Port.form
  split
  · rename_i h; exact Or.inl ⟨h, rfl⟩
  · rename_i x h; exact Or.inr ⟨x, h, rfl⟩

/-! ### The write queue -/

/-- Entering WRITING touches the engine's state alone, and only while no read is being served. -/
theorem StoreEngine.enterWriting_eq (e : StoreEngine) :
    e.enterWriting = { e with state := if e.serving = [] then .writing else e.state } := by
  unfold StoreEngine.enterWriting
  cases e with | mk _ _ _ _ _ _ serving _ => cases serving <;> simp

/-- An item that joins an empty queue while the engine is IDLE: its first extent is current, and the engine is in WRITING unless
reads are being served. -/
theorem StoreEngine.join_idle {e : StoreEngine} (i : WriteItem) (h : e.state = .idle) (hq : e.queue = []) :
    e.join i = { e with
      queue := [i]
      state := if e.serving = [] then .writing else .idle
      current := some { index := 0, attempt := 1 } } := by
  simp [StoreEngine.join, StoreEngine.enterWriting_eq, h, hq]

/-- Any other item joins at the end, and the engine goes on as it was. -/
theorem StoreEngine.join_busy {e : StoreEngine} (i : WriteItem) (h : e.state ≠ .idle ∨ e.queue ≠ []) :
    e.join i = { e with queue := e.queue ++ [i] } := by
  unfold StoreEngine.join
  exact if_neg fun k => h.elim (fun a => a k.1) (fun a => a k.2)

/-- Every item joins at the end. -/
@[simp] theorem StoreEngine.join_queue (e : StoreEngine) (i : WriteItem) : (e.join i).queue = e.queue ++ [i] := by
  by_cases h : e.state = .idle ∧ e.queue = []
  · simp [StoreEngine.join_idle i h.1 h.2, h.2]
  · rw [StoreEngine.join_busy i (Decidable.not_and_iff_not_or_not.1 h)]

/-- Joining leaves the memory port and the engine's last failure alone. -/
theorem StoreEngine.join_rest (e : StoreEngine) (i : WriteItem) :
    (e.join i).serving = e.serving ∧ (e.join i).waiting = e.waiting ∧ (e.join i).lastFailure = e.lastFailure
      ∧ (e.join i).attemptOn = e.attemptOn ∧ (e.join i).verifying = e.verifying := by
  by_cases h : e.state = .idle ∧ e.queue = []
  · simp [StoreEngine.join_idle i h.1 h.2]
  · rw [StoreEngine.join_busy i (Decidable.not_and_iff_not_or_not.1 h)]; simp

/-- The reads left at the port: the queue stays, and an engine that waited for the port is in WRITING once none is left. -/
theorem StoreEngine.readsLeft_eq (e : StoreEngine) (gs : List ReadGroup) :
    e.readsLeft gs = { e with
      serving := gs
      state := if ({ e with serving := gs } : StoreEngine).awaitsPort = true ∧ gs = [] then .writing else e.state } := by
  unfold StoreEngine.readsLeft
  by_cases h : ({ e with serving := gs } : StoreEngine).awaitsPort = true <;>
    simp [h, StoreEngine.enterWriting_eq]

/-- The four ways of a day-roll item (R142). -/
theorem State.enqueueRoll_cases (s : State) :
    (s.tickets.rollPending = true ∧ s.enqueueRoll = s)
      ∨ (s.tickets.rollPending = false ∧ s.store.reservedFilled = false
        ∧ s.enqueueRoll = { s with store := s.store.join { extents := [.indexTotals s.index], reserved := true } })
      ∨ (s.tickets.rollPending = false ∧ s.store.reservedFilled = true ∧ s.slotFree = true
        ∧ s.enqueueRoll = s.enqueue [.indexTotals s.index])
      ∨ (s.tickets.rollPending = false ∧ s.store.reservedFilled = true ∧ s.slotFree = false
        ∧ s.enqueueRoll = { s with tickets := { s.tickets with rollPending := true } }) := by
  unfold State.enqueueRoll
  cases h1 : s.tickets.rollPending <;> cases h2 : s.store.reservedFilled <;> cases h3 : s.slotFree <;> simp

/-! ### Claims -/

@[simp] theorem State.leaveClaim_get (s : State) (l : Lane) (d : Deck) :
    (s.leaveClaim l).claims.get d = (s.claims.get d).filter fun m => decide (m ≠ l) := by cases d <;> rfl

@[simp] theorem State.releaseDecks_get (s : State) (l : Lane) (d : Deck) :
    (s.releaseDecks l).holders.get d = if s.holders.get d = some l then none else s.holders.get d := by cases d <;> rfl

/-- A lane that leaves its queues is in none. -/
theorem State.leaveClaim_hasClaim (s : State) (l : Lane) : (s.leaveClaim l).hasClaim l = false := by
  simp [State.hasClaim, State.leaveClaim, PerDeck.map]

/-! ### Holding a lane -/

theorem State.hold_closed {s : State} {l : Lane} {r : HoldReason} (h : (s.lane l).state = .closed) : s.hold l r = s := by
  simp [State.hold, h]

theorem State.hold_idle {s : State} {l : Lane} {r : HoldReason} (h : (s.lane l).state = .idle)
    (hr : r ≠ .barrierFault) (hs : r ≠ .startup) : s.hold l r = s := by
  simp [State.hold, h, hr, hs]

/-- A lane under way is held whatever the reason. -/
theorem State.hold_timed {s : State} {l : Lane} {r : HoldReason} (h1 : (s.lane l).state ≠ .closed)
    (h2 : (s.lane l).state ≠ .idle) (h3 : (s.lane l).state ≠ .hold) : s.hold l r = s.enterHold l r := by
  unfold State.hold
  split
  · exact absurd ‹_› h1
  · exact absurd ‹_› h2
  · exact absurd ‹_› h3
  · rfl

end Sys2Proof.Machine
end

