-- ==== Sys2Proof/Laws/Frames.lean ====
section
/-! SUPPORT. What the operations of the yard leave alone. `Keeps s t` says that `t` differs from `s` at most in the parts that
an event of the lanes, the arbiter, the ticket engine and the write queue may touch; it composes, and each shared operation
has it as one lemma. -/

namespace Sys2Proof.Machine

/-- `t` has the line rate, phase, start-up record, clock, settings, coupled reading, attendance, vehicle register, ports and
waiting commands of `s`, its seal position and ESTOP state, and its decks but for their calibration state. -/
structure Keeps (s t : State) : Prop where
  rate : t.rate = s.rate
  phase : t.phase = s.phase
  startup : t.startup = s.startup
  clock : t.clock = s.clock
  settings : t.settings = s.settings
  coupled : t.coupled = s.coupled
  attending : t.attending = s.attending
  vehicles : t.vehicles = s.vehicles
  ports : t.ports = s.ports
  pending : t.pending = s.pending
  estop : t.conditions.estop = s.conditions.estop
  mainsFail : t.conditions.mainsFail = s.conditions.mainsFail
  sealAccess : t.conditions.sealAccess = s.conditions.sealAccess
  storeFault : t.conditions.storeFault = s.conditions.storeFault
  link : ∀ d, (t.deck d).link = (s.deck d).link
  weight : ∀ d, (t.deck d).weight = (s.deck d).weight
  committed : ∀ d, (t.deck d).cal.committed = (s.deck d).cal.committed

theorem Keeps.refl (s : State) : Keeps s s := by constructor <;> intros <;> rfl

theorem Keeps.trans {s t u : State} (h : Keeps s t) (k : Keeps t u) : Keeps s u := by
  constructor
  case link => intro d; exact (k.link d).trans (h.link d)
  case weight => intro d; exact (k.weight d).trans (h.weight d)
  case committed => intro d; exact (k.committed d).trans (h.committed d)
  all_goals first
    | exact k.rate.trans h.rate | exact k.phase.trans h.phase | exact k.startup.trans h.startup
    | exact k.clock.trans h.clock | exact k.settings.trans h.settings | exact k.coupled.trans h.coupled
    | exact k.attending.trans h.attending | exact k.vehicles.trans h.vehicles | exact k.ports.trans h.ports
    | exact k.pending.trans h.pending | exact k.estop.trans h.estop | exact k.mainsFail.trans h.mainsFail
    | exact k.sealAccess.trans h.sealAccess | exact k.storeFault.trans h.storeFault

/-- Operations chained over a list keep what each keeps. -/
theorem Keeps.foldl {α : Type} (f : State → α → State) (h : ∀ t a, Keeps t (f t a)) (l : List α)
    (s : State) : Keeps s (l.foldl f s) :=
  List.foldlRecOn l f (motive := fun t => Keeps s t) (Keeps.refl s) fun t sofar a _ => sofar.trans (h t a)

/-- A state that differs in the parts an event touches alone. -/
theorem Keeps.touch (s : State) (lanes : PerLane LaneUnit) (claims : PerDeck (List Lane)) (holders : PerDeck (Option Lane))
    (site : SiteRegister) (index : IndexTotals) (tickets : TicketEngine) (low : Bool) (store : StoreEngine)
    (notices : PerStation NoticeState) :
    Keeps s { s with lanes := lanes, claims := claims, holders := holders, site := site, index := index,
                     tickets := tickets, journalLow := low, store := store, notices := notices } := by
  constructor <;> intros <;> rfl

variable (s : State)

theorem Keeps.setLane (l : Lane) (v : LaneUnit) : Keeps s (s.setLane l v) := by constructor <;> intros <;> rfl

theorem Keeps.raiseNotice (k : NoticeKind) (l : Option Lane) (d : Option Deck) (n c : Nat) (vs : List Int) :
    Keeps s (s.raiseNotice k l d n c vs) := by constructor <;> intros <;> rfl

theorem Keeps.enqueue (es : List Record) : Keeps s (s.enqueue es) := by constructor <;> intros <;> rfl

theorem Keeps.setStore (e : StoreEngine) : Keeps s (s.setStore e) := by constructor <;> intros <;> rfl

theorem Keeps.updateSite (n : Nat) (f : SiteEntry → SiteEntry) : Keeps s (s.updateSite n f) := by
  constructor <;> intros <;> rfl

theorem Keeps.releaseSite (n : Nat) : Keeps s (s.releaseSite n) := by constructor <;> intros <;> rfl

theorem Keeps.unbind (l : Lane) : Keeps s (s.unbind l) := by constructor <;> intros <;> rfl

theorem Keeps.leaveClaim (l : Lane) : Keeps s (s.leaveClaim l) := by constructor <;> intros <;> rfl

theorem Keeps.releaseDecks (l : Lane) : Keeps s (s.releaseDecks l) := by constructor <;> intros <;> rfl

theorem Keeps.takeDecks (l : Lane) : Keeps s (s.takeDecks l) := by constructor <;> intros <;> rfl

theorem Keeps.joinClaim (l : Lane) : Keeps s (s.joinClaim l) := by
  unfold State.joinClaim
  split <;> constructor <;> intros <;> rfl

theorem Keeps.enter (l : Lane) (st : LaneState) (k : Bool) : Keeps s (s.enter l st k) := Keeps.setLane ..

theorem Keeps.putBarrier (l : Lane) (i : BarrierId) (r : BarrierStep) : Keeps s (s.putBarrier l i r) := Keeps.setLane ..

theorem Keeps.askRaise (l : Lane) (i : BarrierId) : Keeps s (s.askRaise l i) := Keeps.putBarrier ..

theorem Keeps.askLower (l : Lane) (i : BarrierId) : Keeps s (s.askLower l i) := Keeps.putBarrier ..

theorem Keeps.askLowerUnlessDown (l : Lane) : Keeps s (s.askLowerUnlessDown l) := by
  unfold State.askLowerUnlessDown
  split
  · exact Keeps.refl s
  · exact Keeps.askLower ..

theorem Keeps.journalLowCheck : Keeps s s.journalLowCheck := by
  unfold State.journalLowCheck
  split
  · split
    · exact Keeps.refl s
    · constructor <;> intros <;> rfl
  · constructor <;> intros <;> rfl

theorem Keeps.dropBinding (l : Lane) : Keeps s (s.dropBinding l) := by
  unfold State.dropBinding
  split
  · exact Keeps.refl s
  · split
    · exact (Keeps.releaseSite ..).trans (Keeps.journalLowCheck _)
    · exact Keeps.unbind ..

theorem Keeps.abandon (l : Lane) (r : CaptureReason) : Keeps s (s.abandon l r) := by
  unfold State.abandon
  split
  · exact Keeps.refl s
  · exact (Keeps.setLane ..).trans (Keeps.raiseNotice ..)

theorem Keeps.enterHold (l : Lane) (r : HoldReason) : Keeps s (s.enterHold l r) :=
  ((Keeps.abandon ..).trans (Keeps.setLane ..)).trans (Keeps.raiseNotice ..)

theorem Keeps.hold (l : Lane) (r : HoldReason) : Keeps s (s.hold l r) := by
  unfold State.hold
  split
  · exact Keeps.refl s
  · split
    · exact Keeps.enterHold ..
    · exact Keeps.refl s
  · exact (Keeps.setLane ..).trans (Keeps.raiseNotice ..)
  · exact Keeps.enterHold ..

theorem Keeps.takeBarrier (l : Lane) (i : BarrierId) (r : BarrierStep) : Keeps s (s.takeBarrier l i r) := by
  unfold State.takeBarrier
  have h : ∀ t, Keeps s t → Keeps s (if r.obstructed then (t.raiseNotice .obstructed (some l) none 0 i.toNat []).hold l
      .obstructed else t) := by
    intro t ht
    split
    · exact ht.trans ((Keeps.raiseNotice ..).trans (Keeps.hold ..))
    · exact ht
  apply h
  split
  · exact (Keeps.putBarrier ..).trans ((Keeps.raiseNotice ..).trans (Keeps.hold ..))
  · exact Keeps.putBarrier ..

theorem Keeps.enterLeaving (l : Lane) : Keeps s (s.enterLeaving l) := by
  unfold State.enterLeaving
  have h := (Keeps.askRaise s l .x).trans (Keeps.enter _ l .leaving false)
  simp only
  split
  · exact h.trans (Keeps.hold ..)
  · exact h

theorem Keeps.permitCapOf (n : Nat) (x : TicketSection) : Keeps s (State.permitCapOf n s x) := by
  unfold State.permitCapOf
  simp only
  split
  · constructor <;> intros <;> rfl
  · exact Keeps.refl s

theorem Keeps.permitCaps (e : JournalEntry) : Keeps s (s.permitCaps e) := by
  unfold State.permitCaps
  split
  · exact Keeps.foldl _ (fun t x => Keeps.permitCapOf t e.ticket x) _ s
  · exact Keeps.refl s

theorem Keeps.closeEntry (n : Nat) (j : JournalEntry) : Keeps s (s.closeEntry n j) := by constructor <;> intros <;> rfl

theorem Keeps.closeNotices (l : Lane) (j : JournalEntry) : Keeps s (s.closeNotices l j) :=
  ((Keeps.raiseNotice ..).trans (Keeps.permitCaps ..)).trans (Keeps.journalLowCheck _)

theorem Keeps.applyWeighing (l : Lane) (m : CaptureMode) (e : SiteEntry) (w : Weighing) (tare : Option Weighing) :
    Keeps s (s.applyWeighing l m e w tare) := by
  unfold State.applyWeighing
  split
  · constructor <;> intros <;> rfl
  · exact (Keeps.touch ..).trans ((Keeps.closeEntry ..).trans ((Keeps.enqueue ..).trans (Keeps.closeNotices ..)))
  · exact (Keeps.updateSite ..).trans (Keeps.enqueue ..)
  · exact (Keeps.closeEntry ..).trans ((Keeps.enqueue ..).trans (Keeps.closeNotices ..))

theorem Keeps.recordCapture (l : Lane) (c : CaptureContext) : Keeps s (s.recordCapture l c) := by
  unfold State.recordCapture
  simp only
  split
  · exact Keeps.setLane ..
  · exact (Keeps.setLane ..).trans ((Keeps.applyWeighing ..).trans (Keeps.raiseNotice ..))

theorem Keeps.evalCapture (l : Lane) : Keeps s (s.evalCapture l) := by
  unfold State.evalCapture
  split
  · exact Keeps.refl s
  · split
    · exact Keeps.setLane ..
    · exact (Keeps.recordCapture ..).trans (Keeps.enterLeaving ..)

theorem Keeps.beginCapture (l : Lane) (m : CaptureMode) (code : Option Nat) (origin : Option Station) :
    Keeps s (s.beginCapture l m code origin) :=
  (Keeps.enter ..).trans ((Keeps.setLane ..).trans (Keeps.evalCapture ..))

theorem Keeps.autoCapture (l : Lane) : Keeps s (s.autoCapture l) := by
  unfold State.autoCapture
  split
  · exact Keeps.beginCapture ..
  · exact Keeps.refl s

theorem Keeps.enterOnDeck (l : Lane) (k : Bool) : Keeps s (s.enterOnDeck l k) :=
  (Keeps.enter ..).trans ((Keeps.setLane ..).trans (Keeps.autoCapture ..))

theorem Keeps.evalPositioning (l : Lane) : Keeps s (s.evalPositioning l) := by
  unfold State.evalPositioning
  simp only
  split
  · exact Keeps.enterOnDeck ..
  · exact Keeps.refl s

theorem Keeps.evalEntering (l : Lane) : Keeps s (s.evalEntering l) := by
  unfold State.evalEntering
  simp only
  have h := (Keeps.askLower s l .a).trans (Keeps.enter _ l .positioning false)
  split
  · split
    · exact h.trans (Keeps.hold ..)
    · exact h.trans (Keeps.evalPositioning ..)
  · exact Keeps.refl s

theorem Keeps.grant (l : Lane) : Keeps s (s.grant l) := by
  unfold State.grant
  simp only
  have h := (Keeps.leaveClaim s l).trans ((Keeps.takeDecks _ l).trans ((Keeps.askRaise _ l .a).trans
    (Keeps.enter _ l .entering false)))
  split
  · exact h.trans (Keeps.hold ..)
  · exact h.trans (Keeps.evalEntering ..)

/-- CAL_BAD_Dn, when it becomes active with its notice, touches no other part than its own state and the notices. -/
theorem Keeps.activateCalBad (d : Deck) (n : Nat) :
    Keeps s (s.activateWith (calBadCondition d) fun t => t.raiseNotice .deckOut none (some d) 0 n []) := by
  unfold State.activateWith
  split
  · exact Keeps.refl s
  · have h : Keeps s (s.activate (calBadCondition d)) := by cases d <;> constructor <;> intros <;> rfl
    split
    · exact h.trans (Keeps.raiseNotice ..)
    · exact h

theorem Keeps.deckOut (d : Deck) (n : Nat) : Keeps s (s.deckOut d n) := by
  unfold State.deckOut
  refine Keeps.trans ?_ (Keeps.activateCalBad _ d n)
  cases d <;> constructor <;> first | rfl | (intro e; cases e <;> rfl)

theorem Keeps.failGrant (ds : List Deck) : Keeps s (s.failGrant ds) :=
  ((Keeps.foldl _ (fun t d => Keeps.deckOut t d 0) ds s).trans
    (Keeps.foldl _ Keeps.leaveClaim _ _)).trans (Keeps.foldl _ (fun t l => Keeps.hold t l .deckOut) _ _)

theorem Keeps.takeGrant (l : Lane) : Keeps s (s.takeGrant l) := by
  unfold State.takeGrant
  split
  · exact Keeps.grant ..
  · exact Keeps.failGrant ..

theorem Keeps.examineFor (n : Nat) : ∀ s, Keeps s (State.examineFor n s) := by
  induction n with
  | zero => exact Keeps.refl
  | succ n ih =>
    intro s
    unfold State.examineFor
    split
    · exact Keeps.refl s
    · exact (Keeps.takeGrant ..).trans (ih _)

theorem Keeps.examine : Keeps s s.examine := Keeps.examineFor 8 s

theorem Keeps.evalClearing (l : Lane) : Keeps s (s.evalClearing l) := by
  unfold State.evalClearing
  simp only
  split
  · exact (Keeps.releaseDecks ..).trans ((Keeps.enter ..).trans ((Keeps.raiseNotice ..).trans (Keeps.examine _)))
  · exact Keeps.refl s

theorem Keeps.evalRetreating (l : Lane) : Keeps s (s.evalRetreating l) := by
  unfold State.evalRetreating
  simp only
  have h := (Keeps.askLower s l .a).trans (Keeps.enter _ l .clearing false)
  split
  · split
    · exact h.trans (Keeps.hold ..)
    · exact h.trans (Keeps.evalClearing ..)
  · exact Keeps.refl s

theorem Keeps.evalLeaving (l : Lane) : Keeps s (s.evalLeaving l) := by
  unfold State.evalLeaving
  simp only
  have h := (Keeps.askLower s l .x).trans ((Keeps.unbind _ l).trans (Keeps.enter _ l .clearing false))
  split
  · split
    · exact h.trans (Keeps.hold ..)
    · exact h.trans (Keeps.evalClearing ..)
  · exact Keeps.refl s

theorem Keeps.evalPassage (l : Lane) : Keeps s (s.evalPassage l) := by
  unfold State.evalPassage
  split
  · exact Keeps.evalEntering ..
  · exact Keeps.evalPositioning ..
  · exact Keeps.evalLeaving ..
  · exact Keeps.evalRetreating ..
  · exact Keeps.evalClearing ..
  all_goals exact Keeps.refl s

theorem Keeps.takeReading (l : Lane) : Keeps s (s.takeReading l) := by
  unfold State.takeReading
  split
  · exact Keeps.evalCapture ..
  · exact Keeps.evalPassage ..

theorem Keeps.lanesTakeReading (d : Deck) : Keeps s (s.lanesTakeReading d) := by
  unfold State.lanesTakeReading
  apply Keeps.foldl
  intro t l
  split
  · exact Keeps.takeReading ..
  · exact Keeps.refl t

theorem Keeps.bindAdmission (l : Lane) (i : Identity) : Keeps s (s.bindAdmission l i).1 := by
  unfold State.bindAdmission
  split
  · constructor <;> intros <;> rfl
  · split
    · exact Keeps.refl s
    · exact Keeps.updateSite ..

theorem Keeps.accept (l : Lane) (i : Identity) : Keeps s (s.accept l i) :=
  (Keeps.bindAdmission ..).trans ((Keeps.joinClaim ..).trans ((Keeps.enter ..).trans ((Keeps.raiseNotice ..).trans
    ((Keeps.journalLowCheck _).trans (Keeps.examine _)))))

theorem Keeps.resumeLane (l : Lane) : Keeps s (s.resumeLane l) := by
  unfold State.resumeLane
  split
  · exact (Keeps.askLower ..).trans ((Keeps.askLower ..).trans (Keeps.enter ..))
  · have h := Keeps.enter s l .admitting true
    simp only
    split
    · exact h.trans (Keeps.examine _)
    · exact h.trans ((Keeps.joinClaim ..).trans (Keeps.examine _))
  · exact (Keeps.askRaise ..).trans ((Keeps.enter ..).trans (Keeps.evalEntering ..))
  · exact (Keeps.askLowerUnlessDown ..).trans ((Keeps.enter ..).trans (Keeps.evalPositioning ..))
  · exact (Keeps.askLowerUnlessDown ..).trans (Keeps.enterOnDeck ..)
  · exact (Keeps.askLowerUnlessDown ..).trans (Keeps.enterOnDeck ..)
  · exact (Keeps.askRaise ..).trans ((Keeps.askLowerUnlessDown ..).trans ((Keeps.enter ..).trans (Keeps.evalLeaving ..)))
  · exact (Keeps.askRaise ..).trans ((Keeps.enter ..).trans (Keeps.evalRetreating ..))
  · exact (Keeps.askLower ..).trans ((Keeps.askLower ..).trans ((Keeps.enter ..).trans (Keeps.evalClearing ..)))
  all_goals exact Keeps.refl s

theorem Keeps.sendBack (l : Lane) : Keeps s (s.sendBack l) := by
  unfold State.sendBack
  split
  · exact (Keeps.leaveClaim ..).trans ((Keeps.dropBinding ..).trans ((Keeps.enter ..).trans (Keeps.examine _)))
  · have h := (Keeps.abandon s l .sentBack).trans ((Keeps.dropBinding _ l).trans ((Keeps.askRaise _ l .a).trans
      (Keeps.enter _ l .retreating false)))
    simp only
    split
    · exact h.trans (Keeps.hold ..)
    · exact h.trans (Keeps.evalRetreating ..)

theorem Keeps.resetLane (l : Lane) : Keeps s (s.resetLane l) :=
  (Keeps.leaveClaim ..).trans ((Keeps.releaseDecks ..).trans ((Keeps.dropBinding ..).trans ((Keeps.askLower ..).trans
    ((Keeps.askLower ..).trans ((Keeps.enter ..).trans (Keeps.examine _))))))

theorem Keeps.enqueueRoll : Keeps s s.enqueueRoll := by
  unfold State.enqueueRoll
  split
  · exact Keeps.refl s
  · split
    · constructor <;> intros <;> rfl
    · split
      · exact Keeps.enqueue ..
      · constructor <;> intros <;> rfl

theorem Keeps.examineDay : Keeps s s.examineDay := by
  unfold State.examineDay
  split
  · split
    · exact (Keeps.touch ..).trans (Keeps.enqueueRoll _)
    · split
      · exact ((Keeps.touch ..).trans (Keeps.raiseNotice ..)).trans (Keeps.enqueueRoll _)
      · exact Keeps.refl s
  · exact Keeps.refl s

end Sys2Proof.Machine
end

