-- ==== Sys2Proof/Laws/Requests.lean ====
section
/-! SUPPORT. How a request is taken, said once: each case of R189, the decision and the attendance of R165, and the range
checks. A proof about a request cites these and then speaks of the block's own operation alone. -/

namespace Sys2Proof.Machine

variable (s : State) (r : Req) (code : Byte) (anyPhase : Bool) (handler : Handler)

/-! ### Hearing a request -/

@[simp] theorem State.heard_port (st a : Station) :
    (s.heard st).port a = if a = st then { s.port st with rx := [] } else s.port a :=
  PerStation.get_set ..

@[simp] theorem State.heard_lane (st : Station) (l : Lane) : (s.heard st).lane l = s.lane l := rfl

@[simp] theorem State.heard_deck (st : Station) (d : Deck) : (s.heard st).deck d = s.deck d := rfl

@[simp] theorem State.heard_condition (st : Station) (k : Condition) : (s.heard st).condition k = s.condition k := rfl

@[simp] theorem State.heard_phase (st : Station) : (s.heard st).phase = s.phase := rfl

@[simp] theorem State.heard_decision (st a : Station) (scope : Scope) (cls : Cls) :
    (s.heard st).decision a scope cls = s.decision a scope cls := rfl

@[simp] theorem State.heard_attendedByOther (st a : Station) (scope : Scope) :
    (s.heard st).attendedByOther a scope = s.attendedByOther a scope := rfl

theorem State.heard_respond (x : Response) (st : Station) :
    (s.heard st).respond st x = { s with ports := s.ports.set st (({ s.port st with rx := [] } : Port).form x) } := by
  show ({ s with ports := (s.ports.set st _).set st _ } : State) = _
  rw [PerStation.set_set]
  congr 2
  show Port.form ((s.ports.set st _).get st) x = _
  rw [PerStation.get_set, if_pos rfl]

/-- A refusal formed on a port that has just taken a frame. -/
theorem State.heard_respond_refused (result : Result) :
    (s.heard r.station).respond r.station ⟨code, r.tag, result, false, .none⟩ = s.refusedWith r code result :=
  s.heard_respond _ _

/-! ### The cases of R189 -/

theorem State.takeRequest_full (h : 4 ≤ (s.port r.station).waiting.length) :
    s.takeRequest r code anyPhase handler = s.heard r.station := by
  have h' : ((s.heard r.station).port r.station).full = true := by simp [Port.full, h]
  unfold State.takeRequest
  simp only
  rw [show s.endFrame r.station = s.heard r.station from rfl, if_pos h']

theorem State.takeRequest_behind (h : (s.port r.station).waiting.length < 4)
    (hm : (s.port r.station).marker.isSome = true) :
    s.takeRequest r code anyPhase handler = s.refusedWith r code .busy := by
  have h' : ¬((s.heard r.station).port r.station).full = true := by simp [Port.full]; omega
  have hm' : ((s.heard r.station).port r.station).marker.isSome = true := by simpa using hm
  unfold State.takeRequest
  simp only
  rw [show s.endFrame r.station = s.heard r.station from rfl, if_neg h', if_pos hm', State.heard_respond_refused]

theorem State.listens_not_full (h : s.Listens r.station) : ¬((s.heard r.station).port r.station).full = true := by
  have := h.1
  simp [Port.full]; omega

theorem State.listens_no_marker (h : s.Listens r.station) :
    ¬((s.heard r.station).port r.station).marker.isSome = true := by
  simp [h.2]

theorem State.takeRequest_notReady (h : s.Listens r.station) (hp : s.phase ≠ .ready) :
    s.takeRequest r code false handler = s.refusedWith r code .notReady := by
  unfold State.takeRequest
  simp only
  rw [show s.endFrame r.station = s.heard r.station from rfl, if_neg (s.listens_not_full r h),
    if_neg (s.listens_no_marker r h), if_pos ⟨hp, trivial⟩, State.heard_respond_refused]

theorem State.takeRequest_malformed (h : s.Listens r.station) (hp : s.phase = .ready ∨ anyPhase = true)
    (hb : r.bodyOk = false) : s.takeRequest r code anyPhase handler = s.refusedWith r code .range := by
  unfold State.takeRequest
  simp only
  rw [show s.endFrame r.station = s.heard r.station from rfl, if_neg (s.listens_not_full r h),
    if_neg (s.listens_no_marker r h), if_neg, if_pos hb, State.heard_respond_refused]
  rintro ⟨h1, h2⟩
  rcases hp with hp | hp
  · exact h1 hp
  · simp [hp] at h2

/-- A request that reaches its block: the block's answer becomes a response or the deferred marker. -/
theorem State.takeRequest_taken (h : s.Listens r.station) (hp : s.phase = .ready ∨ anyPhase = true)
    (hb : r.bodyOk = true) :
    s.takeRequest r code anyPhase handler =
      match handler (s.heard r.station) with
      | (t, .reply result clamped body) => t.respond r.station ⟨code, r.tag, result, clamped, body⟩
      | (t, .deferred) => t.setMarker r.station (some ⟨code, r.tag⟩) := by
  have hn : ¬((s.heard r.station).phase ≠ .ready ∧ anyPhase = false) := by
    rintro ⟨h1, h2⟩
    rcases hp with hp | hp
    · exact h1 hp
    · simp [hp] at h2
  unfold State.takeRequest
  simp only
  rw [show s.endFrame r.station = s.heard r.station from rfl, if_neg (s.listens_not_full r h),
    if_neg (s.listens_no_marker r h), if_neg hn, if_neg (show ¬r.bodyOk = false by simp [hb])]
  all_goals rfl

/-- `takeRequest_taken` for a request that `Takes` admits to its block. -/
theorem State.takeRequest_takes (h : s.Takes r) :
    s.takeRequest r code anyPhase handler =
      match handler (s.heard r.station) with
      | (t, .reply result clamped body) => t.respond r.station ⟨code, r.tag, result, clamped, body⟩
      | (t, .deferred) => t.setMarker r.station (some ⟨code, r.tag⟩) :=
  s.takeRequest_taken r code anyPhase handler h.1 (Or.inl h.2.1) h.2.2

/-- A request that its block answers at once, and whose effect leaves the ports alone: the block's effect, and the response
on the port of the station. -/
theorem State.takeRequest_replied (h : s.Takes r) {t : State} {result : Result} {clamped : Bool} {body : RespBody}
    (hk : handler (s.heard r.station) = (t, .reply result clamped body)) (hp : t.ports = (s.heard r.station).ports) :
    s.takeRequest r code anyPhase handler = { t with ports := s.reply r code result clamped body } := by
  rw [s.takeRequest_takes r code anyPhase handler h, hk]
  have e := congrArg State.ports (s.heard_respond ⟨code, r.tag, result, clamped, body⟩ r.station)
  show ({ t with ports := t.ports.set r.station ((t.ports.get r.station).form _) } : State) = _
  rw [hp]
  exact congrArg (fun p => ({ t with ports := p } : State)) e

/-- Every request leaves the part as its handler leaves it, but for the port, or as it was, but for the port. -/
theorem State.takeRequest_rest :
    ∃ t ports, (t = s.heard r.station ∨ t = (handler (s.heard r.station)).1)
      ∧ s.takeRequest r code anyPhase handler = { t with ports := ports } := by
  unfold State.takeRequest
  simp only
  rw [show s.endFrame r.station = s.heard r.station from rfl]
  have refused : ∀ result, ∃ t ports, (t = s.heard r.station ∨ t = (handler (s.heard r.station)).1)
      ∧ (s.heard r.station).respond r.station ⟨code, r.tag, result, false, .none⟩ = { t with ports := ports } :=
    fun result => ⟨s.heard r.station, _, .inl rfl, rfl⟩
  repeat' split
  case isTrue => exact ⟨s.heard r.station, (s.heard r.station).ports, .inl rfl, rfl⟩
  all_goals first
    | exact refused _
    | rename_i taken; exact ⟨(handler (s.heard r.station)).1, _, .inr rfl, by rw [taken]; rfl⟩

/-! ### Decision, attendance and ranges (R165) -/

variable {s r} (st : Station) (scope : Scope) (cls : Cls) (k : Handler)

theorem needControl_refused (h : s.decision st scope cls ≠ .control) :
    needControl st scope cls k s = (s, .plain .notPermitted) := if_pos h

theorem needControl_attended (h : s.decision st scope cls = .control) (hc : cls = .lane ∨ cls = .ticket)
    (ha : s.attendedByOther st scope = true) : needControl st scope cls k s = (s, .plain .attended) := by
  unfold needControl
  rw [if_neg (by simp [h]), if_pos ⟨hc, ha⟩]

theorem needControl_passes (h : s.decision st scope cls = .control)
    (ha : (cls = .lane ∨ cls = .ticket) → s.attendedByOther st scope = false) : needControl st scope cls k s = k s := by
  unfold needControl
  rw [if_neg (by simp [h]), if_neg]
  rintro ⟨h1, h2⟩
  simp [ha h1] at h2

theorem needWatch_refused (h : s.decision st scope cls = .none) :
    needWatch st scope cls k s = (s, .plain .notPermitted) := if_pos h

theorem needWatch_passes (h : s.decision st scope cls ≠ .none) : needWatch st scope cls k s = k s := if_neg h

theorem needSlot_refused (h : s.slotFree = false) : needSlot k s = (s, .plain .storeBusy) := by simp [needSlot, h]

theorem needSlot_passes (h : s.slotFree = true) : needSlot k s = k s := by simp [needSlot, h]

theorem withLane_some {b : Byte} {l : Lane} (h : Lane.ofNat? b.toNat = some l) (k : Lane → Handler) :
    withLane b k = k l := by simp [withLane, h]

theorem withLane_none {b : Byte} (h : Lane.ofNat? b.toNat = none) (k : Lane → Handler) :
    withLane b k = refuse .range := by simp [withLane, h]

theorem withDeck_some {b : Byte} {d : Deck} (h : Deck.ofNat? b.toNat = some d) (k : Deck → Handler) :
    withDeck b k = k d := by simp [withDeck, h]

theorem withDeck_none {b : Byte} (h : Deck.ofNat? b.toNat = none) (k : Deck → Handler) :
    withDeck b k = refuse .range := by simp [withDeck, h]

theorem inRange_true (k : Handler) : inRange true k = k := rfl

theorem inRange_false (k : Handler) : inRange false k = refuse .range := rfl

end Sys2Proof.Machine
end

