-- ==== Sys2Proof/Tests/Slice0.lean ====
section
/-! SUPPORT. The model's own tests: the smoke tests of well-formedness, the worked examples of the manual as single steps, and a
witness for every statement of Sys2Proof/Certificates/Slice0/Obligations.lean that has hypotheses: a state and operands that
meet them. Expected results come from the manual's tables and worked examples, named in each comment. -/

namespace Sys2Proof.Tests

open Sys2Proof Machine

-- One theorem after the other: each waits for the kernel, and a hundred that wait at once need a thread each.
set_option Elab.async false

/-! ### Helpers -/

/-- The state after one command. -/
def after (c : Instr) (s : State) : State :=
  match exec c s with
  | .next t => t
  | .fault _ | .refused _ => s

/-- The result a command forms on a port that sends nothing yet. -/
def answer (c : Instr) (st : Station) (s : State) : Option Result := ((after c s).port st).sending.map fun r => r.result

/-- The body a command forms on a port that sends nothing yet. -/
def body (c : Instr) (st : Station) (s : State) : Option RespBody := ((after c s).port st).sending.map fun r => r.body

/-- The kinds and detail codes of the notices that wait for a station. -/
def told (st : Station) (s : State) : List (NoticeKind × Nat) := (s.notices.get st).queue.map fun n => (n.kind, n.detail)

/-- A well-formed request of a station. -/
def req (st : Station) : Req := { station := st, tag := 0x41, bodyOk := true }

/-- The calibration record of the manual's examples (1.3.1): d 20 kg, Max 60,000 kg, F 1. -/
def record : CalRecord :=
  let r : CalRecord := {
    cellCount := 4
    zeros := [200000, 190000, 205000, 195000, 0, 0, 0, 0]
    spans := [7680, 7680, 7681, 7680, 1, 1, 1, 1]
    division := 20
    capacity := 60000
    filterLength := 1
    motionBand := 1
    stabilityCount := 2
    zeroTracking := 1
    counter := 41
    checksum := 0 }
  { r with checksum := r.computedChecksum }

/-- A deck in service. -/
def deckUp : DeckUnit :=
  { DeckUnit.reset with
    link := { rx := [], discarded := 0, latest := none, timer := .running 250 }
    cal := { state := .inService, preEdit := none, committed := record, edit := none } }

/-- A barrier that is DOWN. -/
def downBarrier : Barrier := { Barrier.reset with state := .down, downLimit := true }

/-- A lane with both barriers DOWN. -/
def laneDown : LaneUnit := { LaneUnit.reset with barrierA := downBarrier, barrierX := downBarrier }

/-- READY under the defaulted configuration, both decks in service, every lane CLOSED with its barriers DOWN, the clock SET.
Station S0 has CONTROL over everything, S1 over (lane, LANE), S2 WATCH. -/
def ready : State :=
  { State.reset with
    phase := .ready
    clock := { count := 2400000, set := true }
    decks := { d0 := deckUp, d1 := deckUp }
    lanes := { l0 := laneDown, l1 := laneDown, l2 := laneDown, l3 := laneDown } }

/-- `s` with L0 in a state. -/
def inState (st : LaneState) (s : State) : State := s.enter .l0 st false

/-- `s` with L0 held from a state. -/
def heldFrom (st : LaneState) (s : State) : State := (inState st s).hold .l0 .station

/-- `s` with a VALID reading of D0. -/
def shows (w : Int) (stable : Bool) (s : State) : State :=
  s.setDeck .d0 { s.deck .d0 with
    weight := { (s.deck .d0).weight with
      reading := { (s.deck .d0).weight.reading with
        w := w, status := .valid, stable := stable, wG := some (w * 1000), wAvg := some (w * 1000), calCounter := 41 } } }

/-- `s` with every ordinary slot of the write queue filled. -/
def filled (s : State) : State :=
  { s with store := { s.store with
      queue := List.replicate 16 { extents := [.counter 1], reserved := false }
      state := .writing
      current := some { index := 0, attempt := 1 } } }

/-- `s` with S2 shut out of everything. -/
def shut (s : State) : State :=
  { s with settings := { s.settings with
      windows := { s.settings.windows with s2 := [{ enabled := true, scopes := 31, classes := 31, access := .none }] } } }

/-- A response. -/
def response : Response := ⟨0x01, 0x41, .ok, false, .none⟩

/-- `s` with a port of S0 that sends one response and has `n` waiting. -/
def sendingOn (n : Nat) (s : State) : State :=
  s.setPort .s0 { rx := [], marker := none, sending := some response, waiting := List.replicate n response }

/-- `s` with a deferred response on S0's port. -/
def deferredOn (s : State) : State := s.setMarker .s0 (some ⟨0x3D, 0x41⟩)

/-- A RESERVED delivery of waste code 7 bound to L0. -/
def reservedEntry : SiteEntry where
  slot := 5
  state := .reserved
  ticket := 0
  kind := .delivery
  tag := some 0x1A01
  account := 310
  waste := 7
  hazard := none
  weighings := []
  boundLane := some .l0
  ordinal := 214

/-- A weighing of D0 on L0. -/
def weighing (kg code : Nat) : Weighing where
  weight := kg
  source := .deck0
  lane := .l0
  time := 2400000
  counter0 := 41
  counter1 := 0
  sectionCode := code

/-- The OPEN ticket 88,411 of 7.4.1 with these weighings, bound or not. -/
def openEntry (bound : Option Lane) (ws : List Weighing) : SiteEntry :=
  { reservedEntry with state := .opened, ticket := 88411, weighings := ws, boundLane := bound }

/-- `s` with one site entry, the ticket counter at 88,410 and next_seq 61,902 (7.4.1). -/
def onSite (e : SiteEntry) (s : State) : State :=
  { s with
    site := { entries := [e], nextOrdinal := 215 }
    tickets := { s.tickets with counter := 88410 }
    index := { s.index with nextSeq := 61902, archivedSeq := 60000 } }

/-- A registered vehicle with the tare of 6.7. -/
def vehicle (slot : Nat) (tag : Tag) : VehicleEntry where
  slot := slot
  data := {
    tag := tag
    fleet := [0x53]
    account := 310
    waste := some 7
    kind := .delivery
    tare := some { weight := 12200, stamp := 1000000, validity := 30 }
    barred := false }

/-! ### Well-formedness: an ill-formed command for each check -/

/-- A lane group in its ranges (R61). -/
def laneGroup : LaneGroup where
  deck := 0
  direction := 0
  autoCapture := 1
  tagAdmission := 1
  storedTare := 0
  defaultKind := 0
  debounce := 100
  travel := 6
  clear := 1
  dwell := List.replicate 8 60
  openAtStart := 1

theorem test_wf_lane_group : (Instr.configWriteLane (req .s0) .l0 { laneGroup with dwell := [1] }).wf = false := by decide
theorem test_wf_windows : (Instr.configWriteWindows (req .s0) .s1 []).wf = false := by decide
theorem test_wf_levels : (Instr.configWriteNoticeLevels (req .s0) [1]).wf = false := by decide
theorem test_wf_caps : (Instr.configWriteWasteCaps (req .s0) [1]).wf = false := by decide
theorem test_wf_mask : (Instr.setNoticeMask (req .s0) (List.replicate 256 1)).wf = false := by decide +kernel
theorem test_wf_cal_write : (Instr.calWrite (req .s0) 0 (List.replicate 256 (.motionBand 1))).wf = false := by decide +kernel

/-- The fields of an ADMIT that gives a tag or nothing. -/
def fields (tag : Option Tag) : AdmitFields where
  tag := tag
  ticket := 0
  kind := none
  waste := none
  account := none
  hazard := none

theorem test_wf_admit :
    (Instr.admitVehicle (req .s0) 0 (fields (some 0))).wf = false := by decide
theorem test_wf_reg_update : (Instr.regUpdate (req .s0) 1 (List.replicate 256 (.barred 1))).wf = false := by decide +kernel
theorem test_wf_edit : (Instr.editTicket (req .s0) 1 (List.replicate 256 (.waste 1))).wf = false := by decide +kernel
theorem test_wf_unknown_code : (Instr.unknownRequest (req .s0) 0x3E).wf = false := by decide
theorem test_wf_journal_read : (Instr.journalReadDone [0]).wf = false := by decide
theorem test_wf_sample_without_cells : (Instr.sampleArrival .d0 0 []).wf = false := by decide
theorem test_wf_sample_of_nine_cells : (Instr.sampleArrival .d0 0 (List.replicate 9 ⟨0, 0⟩)).wf = false := by decide
theorem test_wf_tag : (Instr.tagArrival .l0 0).wf = false := by decide

/-- Every yard input clear. -/
def pins : YardPins :=
  let b : BarrierPins := { up := false, down := true, beam := false }
  let l : LanePins := { al := false, eb := false, xb := false, xl := false, a := b, x := b }
  { lanes := { l0 := l, l1 := l, l2 := l, l3 := l }, estop := false, mainsFail := false, sealAccess := false }

theorem test_wf_configuration : (Instr.configAreaLoaded [] pins).wf = false := by decide
theorem test_wf_calibration : (Instr.calibrationLoaded (List.replicate 64 0) []).wf = false := by decide
theorem test_wf_vehicle_slots : (Instr.vehicleRegisterLoaded []).wf = false := by decide
theorem test_wf_site_slot_size : (Instr.siteRegisterLoaded (List.replicate 64 [])).wf = false := by decide
theorem test_wf_index : (Instr.indexTotalsLoaded []).wf = false := by decide
theorem test_wf_ring : (Instr.journalRingLoaded []).wf = false := by decide
theorem test_wf_counter : (Instr.counterLoaded []).wf = false := by decide

/-! ### Bytes and frames -/

/-- 00_scope.md, 3.5: the nine digits give 29B1H. -/
theorem test_crc_of_digits : crc16 [0x31, 0x32, 0x33, 0x34, 0x35, 0x36, 0x37, 0x38, 0x39] = 0x29B1 := by decide +kernel

/-- The table gives no row any bits. -/
theorem test_no_word_spells_a_command : decodeTableWord 16 0x0101 = none := by decide

/-- R186: A5H, length, code 25H, tag 41H, lane 2, check: HOLD of L2; and with a wrong check FRAME_ERROR. -/
theorem test_hold_frame :
    Decode.stationFrame .s1 ([0xA5] ++ withCrc [3, 0x25, 0x41, 2]) = .hold (req .s1) 2
    ∧ Decode.stationFrame .s1 [0xA5, 3, 0x25, 0x41, 2, 0, 0] = .frameError .s1 .badCheck := by decide +kernel

/-- R187: bytes after the fields make the body malformed. -/
theorem test_long_body :
    Decode.stationFrame .s1 ([0xA5] ++ withCrc [4, 0x25, 0x41, 2, 9]) = .hold { req .s1 with bodyOk := false } 0 := by
  decide +kernel

/-- R43, R44: a tag frame, byte by byte, and one whose check fails. -/
theorem test_tag_frame :
    (List.foldl (fun s b => State.tagByte s .l0 b) ready (withCrc [0x3C, 0, 0, 0, 0, 0, 0, 0x1A, 0x01])).pending =
        [.tagArrival .l0 0x1A01]
    ∧ (List.foldl (fun s b => State.tagByte s .l0 b) ready [0x3C, 0, 0, 0, 0, 0, 0, 0x1A, 0x01, 0, 0]).pending =
        [.tagFrameRefused .l0] := by
  decide +kernel

/-- R1, R2: a cell link frame of one cell, behind a byte that is no start byte. -/
theorem test_cell_frame :
    (List.foldl (fun s b => State.cellByte s .d1 b) ready (0 :: withCrc [0xC3, 18, 1, 0x12, 0x4F, 0x80, 0])).pending =
      [.sampleArrival .d1 18 [⟨1200000, 0⟩]] := by
  decide +kernel

/-- 8.8: position 462 of the ring is at address 02AD40H. -/
theorem test_journal_address : journalAddress 61902 = 0x02AD40 := by decide

/-! ### Decks: the worked examples of chapters 1 and 2 -/

/-- The sample of 1.3.1 on a deck with Z = −1,500 g. -/
def sample131 : State :=
  after (.sampleArrival .d0 18 [⟨1200000, 0⟩, ⟨1180000, 0⟩, ⟨1250000, 0⟩, ⟨1210000, 0⟩])
    (ready.setDeck .d0 { deckUp with weight := { deckUp.weight with zero := -1500 } })

/-- 1.3.1: W_raw 30,376,021 g, W_g 30,377,521 g, VALID, 30,380 kg; the first sample leaves STALE, so DECK_STATUS is raised. -/
theorem test_sample_through_the_stages :
    sample131.decks.d0.weight.reading.wRaw = some 30376021 ∧ sample131.decks.d0.weight.reading.wG = some 30377521
      ∧ sample131.decks.d0.weight.reading.w = 30380 ∧ sample131.decks.d0.weight.reading.status = .valid
      ∧ sample131.decks.d0.weight.reading.centreZero = false ∧ told .s2 sample131 = [(.deckStatus, 0)] := by
  decide +kernel

/-- 1.3.2: the limits of OVER and UNDER, and a half of a division upward. -/
theorem test_status_limits :
    goodStatus 60180000 20 60000 = .valid ∧ goodStatus 60180001 20 60000 = .over ∧ goodStatus (-400000) 20 60000 = .valid
      ∧ goodStatus (-400001) 20 60000 = .under ∧ roundDivision 60170000 20 = 3009 ∧ roundDivision (-400000) 20 = -20 := by
  decide +kernel

/-- 1.3.3: ties of the mean away from zero. -/
theorem test_filter_means :
    mean [30376021, 30376022] = 30376022 ∧ mean [30376022, 30376020, 30376023, 30376025] = 30376023
      ∧ mean [-1, -2, -2, -1] = -2 := by
  decide +kernel

/-- 1.3.4: a frame whose fault shows in a cell status, and the silence after it; W is held and the histories stay. -/
theorem test_fault_then_silence :
    (after (.sampleArrival .d0 19 [⟨0, 0⟩, ⟨0, 1⟩, ⟨0, 0⟩, ⟨0, 0⟩]) sample131).decks.d0.weight.reading.status = .cellFault
      ∧ (after (.sampleArrival .d0 19 [⟨0, 0⟩, ⟨0, 1⟩, ⟨0, 0⟩, ⟨0, 0⟩]) sample131).decks.d0.weight.reading.w = 30380
      ∧ (after (.sampleArrival .d0 19 [⟨0, 0⟩, ⟨0, 1⟩, ⟨0, 0⟩, ⟨0, 0⟩]) sample131).decks.d0.weight.refill = true
      ∧ (after (.sampleTimerExpiry .d0) sample131).decks.d0.weight.reading.status = .stale
      ∧ (after (.sampleTimerExpiry .d0) sample131).conditions.cellLink0.latched = true
      ∧ (after (.sampleTimerExpiry .d0) sample131).decks.d0.weight.filter = [30376021] := by
  decide +kernel

/-- R1, R2: a discarded frame is counted. -/
theorem test_discarded_cell_frames :
    (after (.cellFrameRefused .d0) ready).decks.d0.link.discarded = 1
      ∧ (after (.cellFrameGap .d1) ready).decks.d1.link.discarded = 1
      ∧ (after (.cellFrameBadCount .d1) ready).decks.d1.link.discarded = 1
      ∧ (after (.cellFrameGap .d1) State.reset).decks.d1.link.discarded = 0 := by
  decide +kernel

/-- 1.5.1: 18,204,310 g and 21,509,990 g give 39,700 kg under a division of 50 kg. -/
theorem test_coupled_weight :
    (formCoupled CoupledReading.reset
        { deckUp with weight := { deckUp.weight with reading := { deckUp.weight.reading with
            status := .valid, wG := some 18204310 } } }
        { deckUp with
          weight := { deckUp.weight with reading := { deckUp.weight.reading with status := .valid, wG := some 21509990 } }
          cal := { deckUp.cal with committed := { record with division := 50 } } }).w = 39700
      ∧ roundDivision 39725000 50 = 795 ∧ roundDivision 120450000 50 = 2409 := by
  decide +kernel

/-- R20, R21: what a station reads of the deck. -/
theorem test_read_weight_and_raw :
    body (.readWeight (req .s2) 0) .s2 sample131 = some (.weight (sample131.decks.d0.weightReport))
      ∧ answer (.readWeight (req .s2) 3) .s2 ready = some .range
      ∧ body (.readRaw (req .s2) 1) .s2 ready =
        some (.raw { frame := none, cellCount := 4, discarded := 0, expired := false }) := by
  decide +kernel

/-- The deck of 2.5.1 with a W_avg and a zero, on D0. -/
def tracked (avg zero : Int) (flag : Bool) : State :=
  ready.setDeck .d0 { deckUp with
    weight := { deckUp.weight with
      zero := zero
      zeroLimit := flag
      trackMs := some 1000
      reading := { deckUp.weight.reading with status := .valid, stable := true, wAvg := some avg, wG := some (avg - zero) } } }

/-- 2.5.1: an uncut step; a cut step with ZERO_LIMIT; a cut step with the flag set; beyond half a division no step; ZERO refused
with RANGE. -/
theorem test_zero_tracking :
    ((tracked 1194000 1188000 false).track .d0).decks.d0.weight.zero = 1194000
      ∧ ((tracked 1203000 1194000 false).track .d0).decks.d0.weight.zero = 1200000
      ∧ told .s0 ((tracked 1203000 1194000 false).track .d0) = [(.zeroLimit, 0)]
      ∧ told .s0 ((tracked 1206000 1200000 true).track .d0) = []
      ∧ (tracked 1213000 1200000 true).track .d0 = tracked 1213000 1200000 true
      ∧ answer (.zero (req .s0) 0) .s0 (tracked 1206000 1200000 true) = some .range := by
  decide +kernel

/-- R37: an accepted ZERO. -/
theorem test_zero :
    answer (.zero (req .s0) 0) .s0 (tracked 300 5 true) = some .ok
      ∧ (after (.zero (req .s0) 0) (tracked 300 5 true)).decks.d0.weight.zero = 300
      ∧ (after (.zero (req .s0) 0) (tracked 300 5 true)).decks.d0.weight.zeroLimit = false := by
  decide +kernel

/-- The seal at ACCESS, and D0's edit opened (2.7.2). -/
def unsealed : State := after (.sealSwitchChange true) ready
def editing : State := (after (.calOpen (req .s0) 0) unsealed).setPort .s0 Port.reset

/-- 2.7.2: SEAL_CHANGE to the stations; CAL_OPEN copies the record; CAL_WRITE changes the edit copy alone; Max 120,000 / 10 is
refused with RANGE; the discard at SEALED. -/
theorem test_calibration_session :
    told .s0 unsealed = [(.sealChange, 1)] ∧ editing.decks.d0.cal.edit = some record
      ∧ editing.decks.d0.cal.preEdit = some .inService
      ∧ (after (.calWrite (req .s0) 0 [.span 3 7690, .division 10]) editing).decks.d0.cal.edit =
        some { record with spans := [7680, 7680, 7690, 7680, 1, 1, 1, 1], division := 10 }
      ∧ (after (.calWrite (req .s0) 0 [.span 3 7690, .division 10]) editing).decks.d0.cal.committed = record
      ∧ answer (.calCommit (req .s0) 0) .s0 ((after (.calWrite (req .s0) 0 [.division 10, .capacity 120000]) editing).setPort
          .s0 Port.reset) = some .range
      ∧ (after (.sealSwitchChange false) editing).decks.d0.cal = deckUp.cal
      ∧ answer (.calOpen (req .s0) 0) .s0 ready = some .sealClosed := by
  decide +kernel

/-- 2.7.2: the second commit takes Max 80,000 under counter 42. -/
def committed : State :=
  after (.calCommit (req .s0) 0)
    ((after (.calWrite (req .s0) 0 [.division 10, .capacity 80000]) editing).setPort .s0 Port.reset)
theorem test_commit :
    committed.decks.d0.cal.committed.counter = 42 ∧ committed.decks.d0.cal.committed.capacity = 80000
      ∧ committed.decks.d0.cal.committed.intact = true ∧ committed.decks.d0.cal.state = .inService
      ∧ committed.store.queue.length = 1 ∧ told .s2 committed = [(.sealChange, 1), (.calCommitted, 0)] := by
  decide +kernel

/-- R31 and R36: CAL_DISCARD and READ_CAL. -/
theorem test_discard_and_read_cal :
    (after (.calDiscard (req .s0) 0) editing).decks.d0.cal = deckUp.cal
      ∧ answer (.calDiscard (req .s0) 1) .s0 editing = some .wrongState
      ∧ answer (.readCal (req .s2) 0 1) .s2 editing = some .ok
      ∧ answer (.readCal (req .s2) 1 1) .s2 editing = some .wrongState := by
  decide +kernel

/-! ### Barriers: the obstructed lowering of 3.8 -/

/-- L2's barrier A, UP, with a settled beam or not. -/
def upBarrier : Barrier := { downBarrier with state := .up, upLimit := true, downLimit := false }

/-- 3.8 at 0 ms and 700 ms: a lower request with the clear-delay timer running waits; at the expiry the barrier falls. -/
theorem test_lowering_waits_for_the_beam :
    (({ upBarrier with clearDelay := some 1 }).lowerRequest { travel := 6, clear := 1 } false).barrier =
        { upBarrier with clearDelay := some 1, lowerPending := true }
      ∧ (({ upBarrier with clearDelay := some 1, lowerPending := true }).clearExpired { travel := 6, clear := 1 }).barrier =
        { upBarrier with state := .falling, travel := some 6, leaveLimit := true } := by
  decide +kernel

/-- A barrier falling, its up limit left, with a reversal count. -/
def fallingBarrier (n : Nat) : Barrier :=
  { upBarrier with state := .falling, upLimit := false, travel := some 6, reversals := n }

/-- L0 in POSITIONING with its barrier A falling, the reversal count at `n`. -/
def lowering (n : Nat) : State :=
  let s := inState .positioning ready
  s.setLane .l0 { s.lane .l0 with barrierA := fallingBarrier n, eb := true }

/-- 3.8 at 2,400 ms and 10,600 ms: the first reversal waits to lower again, the third gives OBSTRUCTED and HOLD. -/
theorem test_reversals :
    (after (.safetyBeamChange .l0 .a true) (lowering 0)).lanes.l0.barrierA.state = .rising
      ∧ (after (.safetyBeamChange .l0 .a true) (lowering 0)).lanes.l0.barrierA.lowerPending = true
      ∧ (after (.safetyBeamChange .l0 .a true) (lowering 2)).lanes.l0.barrierA.reversals = 3
      ∧ (after (.safetyBeamChange .l0 .a true) (lowering 2)).lanes.l0.barrierA.lowerPending = false
      ∧ (after (.safetyBeamChange .l0 .a true) (lowering 2)).lanes.l0.holdReason = some .obstructed
      ∧ told .s2 (after (.safetyBeamChange .l0 .a true) (lowering 2)) = [(.obstructed, 0), (.laneHold, 3 + 8 * 4)] := by
  decide +kernel

/-- R49 and R52: the down limit ends a lowering; both limits active are a fault. -/
theorem test_limits :
    (after (.limitChange .l0 .a .down true) (lowering 2)).lanes.l0.barrierA = { downBarrier with beamBroken := false }
      ∧ (after (.limitChange .l0 .x .up true) (lowering 0)).lanes.l0.barrierX.cause = some .limits
      ∧ told .s2 (after (.limitChange .l0 .x .up true) (lowering 0)) = [(.barrierFault, 3 + 2), (.laneHold, 2 + 8 * 4)] := by
  decide +kernel

/-- R48, R50, R51: the three timers of a barrier. -/
theorem test_barrier_timers :
    (after (.travelTimeout .l0 .a) (lowering 0)).lanes.l0.barrierA.cause = some .travel
      ∧ (after (.leaveLimitExpiry .l0 .a) (lowering 0)).lanes.l0.barrierA = fallingBarrier 0
      ∧ (after (.leaveLimitExpiry .l0 .a) (ready.setLane .l0 { laneDown with
          barrierA := { fallingBarrier 0 with leaveLimit := true } })).lanes.l0.barrierA.cause = some .limitStuck
      ∧ (after (.clearDelayExpiry .l0 .a) (ready.setLane .l0 { laneDown with
          barrierA := { upBarrier with clearDelay := some 1, lowerPending := true } })).lanes.l0.barrierA.state = .falling := by
  decide +kernel

/-- L0 held, with a barrier A in FAULT. -/
def faultedLane (up down : Bool) : State :=
  let s := heldFrom .entering ready
  s.setLane .l0 { s.lane .l0 with
    barrierA := { downBarrier with state := .fault, cause := some .travel, upLimit := up, downLimit := down } }

/-- R57: CLEAR takes the state the limits show; both limits active refuse it. RAISE needs HOLD. -/
theorem test_manual_barrier :
    (after (.barrierClear (req .s0) 0 0) (faultedLane false false)).lanes.l0.barrierA.state = .stopped
      ∧ (after (.barrierClear (req .s0) 0 0) (faultedLane true true)).lanes.l0.barrierA.cause = some .limits
      ∧ answer (.barrierClear (req .s0) 0 0) .s0 (faultedLane true true) = some .wrongState
      ∧ answer (.barrierRaise (req .s0) 0 0) .s0 ready = some .wrongState
      ∧ (after (.barrierRaise (req .s0) 0 1) (faultedLane true true)).lanes.l0.barrierX.state = .rising
      ∧ (after (.barrierLower (req .s0) 0 1) (after (.barrierRaise (req .s0) 0 1)
          (faultedLane true true))).lanes.l0.barrierX.lowerPending = true := by
  decide +kernel

/-- R56, R87: ESTOP stops a moving barrier and holds the lane; IDLE and CLOSED lanes stay. -/
theorem test_estop :
    (after (.estopInputChange true) (lowering 0)).lanes.l0.barrierA.state = .stopped
      ∧ (after (.estopInputChange true) (lowering 0)).lanes.l0.holdReason = some .estop
      ∧ told .s2 (after (.estopInputChange true) (lowering 0)) = [(.estopChange, 1), (.laneHold, 1 + 8 * 4)]
      ∧ (after (.estopInputChange true) (inState .idle ready)).lanes.l0.state = .idle
      ∧ told .s2 (after (.mainsFailInputChange true) ready) = [(.mainsChange, 1)] := by
  decide +kernel

/-! ### Lanes, captures, tickets: chapters 4 to 7 -/

/-- `s` with the vehicles of 6.7 registered in slots 0, 2 and 3. -/
def registered (s : State) : State := { s with vehicles := [vehicle 0 0x1A01, vehicle 2 0x1A02, vehicle 3 0x1A03] }

/-- L0 of 4.8.2 in IDLE with AL broken, the vehicle 1A01H registered, next_seq − archived_seq at 3,000. -/
def arriving : State :=
  let s := inState .idle (registered ready)
  { s.setLane .l0 { s.lane .l0 with al := true } with index := { s.index with nextSeq := 3000 } }

/-- 4.8.2: the tag is admitted, the claim granted at once, barrier A raised, the light green, the entry RESERVED. -/
theorem test_tag_admits :
    (after (.tagArrival .l0 0x1A01) arriving).lanes.l0.state = .entering
      ∧ (after (.tagArrival .l0 0x1A01) arriving).lanes.l0.barrierA.state = .rising
      ∧ (after (.tagArrival .l0 0x1A01) arriving).lanes.l0.green = true
      ∧ (after (.tagArrival .l0 0x1A01) arriving).holders.d0 = some .l0
      ∧ ((after (.tagArrival .l0 0x1A01) arriving).site.entries.map fun e => (e.state, e.waste, e.account, e.boundLane)) =
        [(.reserved, 7, 310, some .l0)]
      ∧ told .s2 (after (.tagArrival .l0 0x1A01) arriving) = [(.admitted, 0)] := by
  decide +kernel

/-- 6.7: a barred vehicle is refused, and its tag is the last refused one until AL is clear. -/
def refusedTag : State :=
  after (.tagArrival .l0 0x1A01) { arriving with
    vehicles := [{ slot := 0, data := { (vehicle 0 0x1A01).data with barred := true } }] }
theorem test_barred_tag :
    told .s0 refusedTag = [(.admitRefused, 0x14)] ∧ refusedTag.lanes.l0.lastRefused = some 0x1A01
      ∧ (after (.tagArrival .l0 0x1A01) { refusedTag with vehicles := [vehicle 0 0x1A01] }).lanes.l0.state = .idle
      ∧ (after (.laneInputChange .l0 .al false) refusedTag).lanes.l0.lastRefused = none := by
  decide +kernel

/-- 6.7: ADMIT is accepted meanwhile; and the first check of R67 that fails is answered. -/
theorem test_admit :
    answer (.admitVehicle (req .s1) 0 (fields (some 0x1A01))) .s1 { refusedTag with vehicles := [vehicle 0 0x1A01] } =
        some .accepted
      ∧ answer (.admitVehicle (req .s1) 0 (fields none)) .s1 arriving = some .noWasteCode
      ∧ answer (.admitVehicle (req .s1) 4 (fields none)) .s1 arriving = some .range
      ∧ answer (.admitVehicle (req .s1) 0 (fields none)) .s1 ready = some .wrongState := by
  decide +kernel

/-- 4.8.1: L3 (both decks) stands before L0; D1's check fails at L3's grant: L3 is held for DECK_OUT with its claim removed from
both queues, and L0 is granted D0. -/
def tandem : State :=
  let s := (inState .admitting ready).enter .l3 .admitting false
  { s with
    settings := { s.settings with
      lanes := { s.settings.lanes with l3 := LaneSettings.defaults .both .outbound } }
    decks := { s.decks with d1 := { deckUp with cal := { deckUp.cal with committed := { record with checksum := 0 } } } }
    claims := { d0 := [.l3, .l0], d1 := [.l3] } }
theorem test_failed_check :
    tandem.examine.lanes.l3.holdReason = some .deckOut ∧ tandem.examine.lanes.l3.heldFrom = some .admitting
      ∧ tandem.examine.claims = { d0 := [], d1 := [] } ∧ tandem.examine.lanes.l0.state = .entering
      ∧ tandem.examine.decks.d1.cal.state = .outOfService ∧ tandem.examine.conditions.calBad1.active = true
      ∧ told .s2 tandem.examine = [(.deckOut, 0), (.laneHold, 5 + 8 * 2)] := by
  decide +kernel

/-- 4.8.2: the passage through ENTERING and POSITIONING (R77, R78); marks EB and AL (R77). -/
theorem test_passage :
    (after (.laneInputChange .l0 .al false) ((inState .entering ready).setLane .l0 { (inState .entering ready).lane .l0 with
        al := true, marks := { Marks.clear with ebSeen := true }, barrierA := upBarrier })).lanes.l0.state = .positioning
      ∧ (after (.laneInputChange .l0 .eb true) (inState .entering ready)).lanes.l0.state = .positioning
      ∧ (after (.laneInputChange .l0 .xb true) (inState .leaving ready)).lanes.l0.marks.leavingStep = 1
      ∧ (after (.laneInputChange .l0 .al true) (inState .retreating ready)).lanes.l0.marks.alStage = 1 := by
  decide +kernel

/-- 4.8.2, last row: X DOWN, deck VALID, stable, W 0: IDLE, and the deck is free. -/
theorem test_clearing :
    let s := { (shows 0 true (inState .clearing ready)) with holders := { d0 := some .l0, d1 := none } }
    (s.evalPassage .l0).lanes.l0.state = .idle ∧ (s.evalPassage .l0).holders.d0 = none
      ∧ told .s2 (s.evalPassage .l0) = [(.laneCleared, 0)] := by
  decide +kernel

/-- L0 in ON_DECK, bound to the entry, with a reading. -/
def onDeck (w : Int) (stable : Bool) (e : SiteEntry) : State :=
  let s := onSite e (shows w stable (inState .onDeck (registered ready)))
  { s with holders := { d0 := some .l0, d1 := none } }

/-- 5.8.1: MOTION, then STORE_BUSY while no slot is free, then the capture: TICKET_OPENED and CAPTURED, ticket 88,411, LEAVING,
barrier X rising. -/
theorem test_capture_that_settles_late :
    ((after (.capture (req .s0) 0 none none) (onDeck 30360 false reservedEntry)).lanes.l0.capture.map fun c => c.pending) =
        some .motion
      ∧ ((after (.capture (req .s0) 0 none none) (filled (onDeck 30380 true reservedEntry))).lanes.l0.capture.map
          fun c => c.pending) = some .storeBusy
      ∧ (after (.capture (req .s0) 0 none none) (onDeck 30380 true reservedEntry)).lanes.l0.state = .leaving
      ∧ (after (.capture (req .s0) 0 none none) (onDeck 30380 true reservedEntry)).lanes.l0.barrierX.state = .rising
      ∧ (after (.capture (req .s0) 0 none none) (onDeck 30380 true reservedEntry)).site.entries =
        [openEntry (some .l0) [weighing 30380 0]]
      ∧ told .s0 (after (.capture (req .s0) 0 none none) (onDeck 30380 true reservedEntry)) =
        [(.ticketOpened, 0), (.captured, 3)] := by
  decide +kernel

/-- 5.8.2: above Max the capture fails at the settle timeout, and a reposition arms it again. -/
def aboveMax : State := (after (.capture (req .s0) 0 none none) (onDeck 60160 true reservedEntry))
theorem test_above_max :
    (after (.settleTimeout .l0) aboveMax).lanes.l0.state = .onDeck
      ∧ (after (.settleTimeout .l0) aboveMax).lanes.l0.armed = false
      ∧ told .s0 (after (.settleTimeout .l0) aboveMax) = [(.captureFailed, 4 + 10 * 3)]
      ∧ (after (.laneInputChange .l0 .xb true) (after (.settleTimeout .l0) aboveMax)).lanes.l0.marks.reposition = true
      ∧ (after (.laneInputChange .l0 .xb false) (after (.laneInputChange .l0 .xb true)
          (after (.settleTimeout .l0) aboveMax))).lanes.l0.state = .weighing := by
  decide +kernel

/-- `s` with L0 OUTBOUND. -/
def outbound (s : State) : State :=
  { s with settings := { s.settings with lanes := { s.settings.lanes with l0 := LaneSettings.defaults .d0 .outbound } } }

/-- 7.4.1, the last row: the FINAL weighing closes the ticket; code 12 reaches its cap of 160,000 kg. -/
def closing : State :=
  let s := outbound (onDeck 12460 true (openEntry (some .l0) [weighing 30380 0, weighing 21140 7]))
  { s with
    settings := { s.settings with caps := s.settings.caps.set 11 160000 }
    index := { s.index with totals := s.index.totals.set 11 { today := 152000, previous := 0 } } }
def closed : State := after (.capture (req .s0) 0 (some 2) (some 12)) closing
theorem test_final_weighing :
    (closed.index.totals[6]?.map fun t => t.today) = some 9240 ∧ (closed.index.totals[11]?.map fun t => t.today) = some 160680
      ∧ closed.index.nextSeq = 61903 ∧ closed.index.lastCredited = 88411 ∧ closed.site.entries = []
      ∧ told .s0 closed = [(.ticketClosed, 0), (.permitCap, 12), (.captured, 2 + 3 + 12)]
      ∧ (closed.store.queue.map fun i => i.extents.map Record.area) = [[.journal, .indexTotals, .site]]
      ∧ closed.tickets.recent = [{ ticket := 88411, seq := 61902 }] := by
  decide +kernel

/-- 7.4.1: the sections of the ticket, and of the one with an intermediate weighing of 30,540 kg; 7.4.2: a collection. -/
theorem test_sections :
    ((sectionsOf .delivery [weighing 30380 0, weighing 21140 7, weighing 12460 12]).map fun x => (x.net, x.code)) =
        [(9240, 7), (8680, 12)]
      ∧ totalNet (sectionsOf .delivery [weighing 30380 0, weighing 30540 7, weighing 12460 12]) = 17920
      ∧ closeConditionOf false (sectionsOf .delivery [weighing 30380 0, weighing 30540 7, weighing 12460 12]) = .netNegative
      ∧ totalNet (sectionsOf .collection [weighing 11900 0, weighing 25340 21]) = 13440 := by
  decide +kernel

/-- 5.8.4: a single weigh against a tare of 12,200 kg: closed at once, net 18,180 kg, three extents in one item. -/
def singleWeigh : State :=
  let s := onDeck 30380 true reservedEntry
  after (.capture (req .s0) 0 none none) { s with
    settings := { s.settings with lanes := { s.settings.lanes with
      l0 := { LaneSettings.defaults .d0 .inbound with storedTare := true } } } }
theorem test_single_weigh :
    singleWeigh.tickets.counter = 88411 ∧ singleWeigh.site.entries = []
      ∧ (singleWeigh.index.totals[6]?.map fun t => t.today) = some 18180
      ∧ told .s0 singleWeigh = [(.ticketClosed, 1), (.captured, 3 + 12)]
      ∧ (singleWeigh.store.queue.map fun i => i.extents.map Record.area) = [[.counter, .journal, .indexTotals]] := by
  decide +kernel

/-- 9.5.1: on an attended lane a tag is read only; HOLD of another station is answered ATTENDED, ADMIT of S2 NOT_PERMITTED. -/
def attendedLane : State := (after (.attend (req .s1) 0) arriving).setPort .s1 Port.reset
theorem test_attended_lane :
    told .s2 (after (.tagArrival .l0 0x1A01) attendedLane) = [(.tagRead, 0)]
      ∧ answer (.hold (req .s0) 0) .s0 attendedLane = some .attended
      ∧ answer (.admitVehicle (req .s2) 0 (fields (some 0x1A01))) .s2 attendedLane = some .notPermitted
      ∧ answer (.readLaneIo (req .s2) 0) .s2 attendedLane = some .ok
      ∧ answer (.attendEnd (req .s0) 0) .s0 attendedLane = some .attended
      ∧ (after (.attendEnd (req .s1) 0) attendedLane).attending.l0 = none := by
  decide +kernel

/-- 9.5.1: a break on S1's port ends the attendance, and the lane begins its capture at once. -/
theorem test_port_reset_ends_attendance :
    let s := { (onDeck 30380 false reservedEntry).setLane .l0 { (onDeck 30380 false reservedEntry).lane .l0 with armed := true }
      with attending := { l0 := some .s1, l1 := none, l2 := none, l3 := none } }
    (after (.portReset .s1) s).lanes.l0.state = .weighing ∧ (after (.portReset .s0) s).lanes.l0.state = .onDeck
      ∧ ((after (.sendBack (req .s0) 0) (after (.portReset .s1) s)).lanes.l0.state = .retreating) := by
  decide +kernel

/-- R62: OPEN_LANE and CLOSE_LANE. -/
theorem test_open_and_close :
    (after (.openLane (req .s0) 0) ready).lanes.l0.state = .idle
      ∧ (after (.openLane (req .s0) 0) ready).settings.lanes.l0.openAtStart = true
      ∧ (after (.closeLane (req .s0) 0) (inState .idle ready)).lanes.l0.state = .closed
      ∧ answer (.openLane (req .s0) 0) .s0 (filled ready) = some .storeBusy
      ∧ answer (.closeLane (req .s0) 0) .s0 ready = some .wrongState := by
  decide +kernel

/-- R83 to R86: HOLD, RESUME, SEND_BACK, LANE_RESET. -/
theorem test_hold_and_return :
    (after (.hold (req .s0) 0) (inState .leaving ready)).lanes.l0.heldFrom = some .leaving
      ∧ (after (.resume (req .s0) 0) (heldFrom .leaving ready)).lanes.l0.state = .leaving
      ∧ answer (.resume (req .s0) 0) .s0 (faultedLane false true) = some .wrongState
      ∧ (after (.sendBack (req .s0) 0) (onDeck 30380 false reservedEntry)).site.entries = []
      ∧ (after (.laneReset (req .s0) 0) (heldFrom .leaving (onSite (openEntry (some .l0) [weighing 1 0]) ready))).site.entries =
        [openEntry none [weighing 1 0]]
      ∧ (after (.laneReset (req .s0) 0) (heldFrom .leaving ready)).lanes.l0.state = .idle
      ∧ (after (.dwellExpiry .l0) (inState .leaving ready)).lanes.l0.holdReason = some .timeout := by
  decide +kernel

/-- 6.7: REG_ADD takes slot 1 between slots 0 and 2; the same tag again is a DUPLICATE; REG_REMOVE of a vehicle on site. -/
def newVehicle : RegFields where
  fleet := some [0x53, 0x4B, 0x50, 0x2D, 0x31, 0x34]
  account := some 310
  waste := some 7
  kind := some 0
  tare := some (12200, 30)
  barred := none
theorem test_register :
    ((after (.regAdd (req .s0) 0x1A04 newVehicle) (registered ready)).vehicles.map fun v => v.slot) = [0, 1, 2, 3]
      ∧ ((after (.regAdd (req .s0) 0x1A04 newVehicle) (registered ready)).vehicles[1]?.bind fun v => v.data.tare) =
        some { weight := 12200, stamp := 2400000, validity := 30 }
      ∧ answer (.regAdd (req .s0) 0x1A03 newVehicle) .s0 (registered ready) = some .duplicate
      ∧ answer (.regRemove (req .s0) 0x1A01) .s0 (onSite reservedEntry (registered ready)) = some .onSite
      ∧ ((after (.regRemove (req .s0) 0x1A02) (registered ready)).vehicles.map fun v => v.slot) = [0, 3] := by
  decide +kernel

/-- 6.7: REG_UPDATE sets the barred flag and a new tare; its expiry is 5,608,800. -/
theorem test_reg_update :
    ((after (.regUpdate (req .s0) 0x1A01 [.barred 1]) (registered ready)).vehicles[0]?.map fun v => v.data.barred) = some true
      ∧ ({ weight := 12350, stamp := 5004000, validity := 7 } : Tare).expiry = 5608800
      ∧ answer (.regUpdate (req .s0) 0x1A01 [.otherField 0]) .s0 (registered ready) = some .range
      ∧ answer (.regUpdate (req .s0) 0x1A09 [.barred 1]) .s0 (registered ready) = some .notFound := by
  decide +kernel

/-- R112, R113: the register read in tag order, and a search by fleet reference. -/
theorem test_register_reads :
    body (.regFind (req .s2) (.fleet [0x53])) .s2 (registered ready) =
        some (.vehicle ((registered ready).vehicleReport (vehicle 0 0x1A01).data) (some 3))
      ∧ body (.regRead (req .s2) 0x1A01 1) .s2 (registered ready) =
        some (.vehicles [(registered ready).vehicleReport (vehicle 2 0x1A02).data] 3 true) := by
  decide +kernel

/-- R130, R131: a void of an unbound ticket, and an edit of its waste code; a bound ticket is refused. -/
theorem test_void_and_edit :
    (after (.voidTicket (req .s0) 88411 3) (onSite (openEntry none [weighing 30380 0]) ready)).site.entries = []
      ∧ (after (.voidTicket (req .s0) 88411 3) (onSite (openEntry none [weighing 30380 0]) ready)).index.totals =
        ready.index.totals
      ∧ told .s2 (after (.voidTicket (req .s0) 88411 3) (onSite (openEntry none [weighing 30380 0]) ready)) = [(.ticketVoided, 3)]
      ∧ answer (.voidTicket (req .s0) 88411 3) .s0 (onSite (openEntry (some .l0) [weighing 1 0]) ready) = some .bound
      ∧ (after (.editTicket (req .s0) 88411 [.waste 9]) (onSite (openEntry none [weighing 1 0]) ready)).site.entries =
        [{ openEntry none [weighing 1 0] with waste := 9 }] := by
  decide +kernel

/-- R132, R133, R138, R154: reads of the site register and the totals, and ARCHIVE. -/
theorem test_ticket_reads :
    body (.readSite (req .s2) 0 1) .s2 (onSite reservedEntry ready) = some (.site [reservedEntry.report] 1 1 0 false)
      ∧ answer (.readTicket (req .s2) 88411) .s2 (onSite reservedEntry ready) = some .notFound
      ∧ answer (.readTotals (req .s2)) .s2 ready = some .ok
      ∧ (after (.archive (req .s0) 61902) (onSite reservedEntry ready)).index.archivedSeq = 61902
      ∧ answer (.archive (req .s0) 61903) .s0 (onSite reservedEntry ready) = some .range := by
  decide +kernel

/-- 7.8.1: the clock with the roll second at 06:00. -/
def clocked (count : Nat) (stored : Int) (today previous : Nat) : State :=
  { ready with
    clock := { count := count, set := true }
    settings := { ready.settings with rollSecond := 21600 }
    index := { ready.index with
      storedDay := some stored
      totals := ready.index.totals.set 6 { today := today, previous := previous } } }

/-- 7.8.1: the tick to 1,700,028,000 rolls by 1, the setting to 1,700,300,000 by 3, the one backward not at all. -/
theorem test_day_rolls :
    (after .clockTick (clocked 1700027999 19675 380000 412000)).index.totals[6]? = some { today := 0, previous := 380000 }
      ∧ (after .clockTick (clocked 1700027999 19675 380000 412000)).store.reservedFilled = true
      ∧ (after .clockTick (clocked 1700027998 19675 380000 412000)).index.storedDay = some 19675
      ∧ (after (.setClock (req .s0) 1700300000) (clocked 1700030000 19676 9240 380000)).index.totals[6]? =
        some { today := 0, previous := 0 }
      ∧ ((after (.setClock (req .s0) 1700300000) (clocked 1700030000 19676 9240 380000)).notices.s2.queue.map
          fun n => n.values) = [[19679, 3]]
      ∧ (after (.setClock (req .s0) 1700100000) (clocked 1700300000 19679 0 0)).store.queue = []
      ∧ (clocked 1700100000 19679 0 0).currentDay = 19676 := by
  decide +kernel

/-! ### The record store, start-up, authority, notices, ports: chapters 8 to 11 -/

/-- The item of 8.8 in the queue: the journal entry of ticket 88,411, the index/totals record, site slot 5 empty. -/
def entry88411 : JournalEntry where
  seq := 61902
  ticket := 88411
  close := .normal
  voidReason := 0
  kind := .delivery
  tag := some 0x1A01
  account := 310
  hazard := none
  closeTime := 2400000
  weighings := [weighing 30380 0, weighing 21140 7, weighing 12460 12]

/-- The engine on the second extent of that item, in WAIT_READY (8.9). -/
def writing : State :=
  { ready with
    index := { ready.index with nextSeq := 61903, archivedSeq := 60000 }
    store := { StoreEngine.reset with
      queue := [{ extents := [.journal entry88411, .counter 7, .siteSlot 5 none], reserved := false }]
      state := .waitReady
      current := some { index := 1, attempt := 1 }
      attemptOn := true } }

/-- 8.9: READ_JOURNAL(61,900, 8) is deferred with 1 of 3 entries in hand; the attempt ends; the reads are served, then the
response leaves with CLAMPED. (A record that is not good is reported DAMAGED.) -/
def reading : State := after (.readJournal (req .s1) 61900 8) writing
def served : State := after (.verifyReadDone (counterBytes 7)) (after .readyAnswered reading)
theorem test_read_between_extents :
    (reading.port .s1).marker = some ⟨0x3D, 0x41⟩
      ∧ (reading.store.waiting.map fun g => g.slots.map fun x => x.got.isSome) = [[false, false, true]]
      ∧ served.store.current = some { index := 2, attempt := 1 } ∧ served.store.state = .writing
      ∧ (after .attemptStart served).store.attemptOn = false
      ∧ (after (.journalReadDone []) (after (.journalReadDone []) served)).port .s1 =
        { Port.reset with
          sending := some ⟨0x3D, 0x41, .ok, true, .journal [.damaged 61900, .damaged 61901, .full entry88411]⟩ } := by
  decide +kernel

/-- 11.6.1: behind the deferred response GET_STATUS is BUSY; after a break no response of the read is sent. -/
theorem test_deferred_read :
    answer (.getStatus (req .s1)) .s1 reading = some .busy
      ∧ (after (.journalReadDone []) (after (.journalReadDone [])
          (after (.verifyReadDone (counterBytes 7)) (after .readyAnswered (after (.portReset .s1) reading))))).port .s1 =
        Port.reset := by
  decide +kernel

/-- 10.5.2: the third failed attempt makes STORE_FAULT active and latched; CLEAR_CONDITION is refused, STORE_RETRY is not. -/
def failing : State :=
  { ready with store := { StoreEngine.reset with
      queue := [{ extents := [.siteSlot 5 none], reserved := false }]
      state := .waitReady
      current := some { index := 0, attempt := 3 }
      attemptOn := true } }
def failed : State := after .readyTimeout failing
theorem test_store_fault :
    failed.store.state = .fault ∧ failed.conditions.storeFault = { active := true, latched := true, enable := true }
      ∧ told .s2 failed = [(.storeFault, 8)]
      ∧ answer (.clearCondition (req .s0) 3) .s0 failed = some .stillActive
      ∧ (after (.storeRetry (req .s0)) failed).store.state = .writing
      ∧ (after (.storeRetry (req .s0)) failed).conditions.storeFault = { active := false, latched := true, enable := true }
      ∧ answer (.storeRetry (req .s0)) .s0 failing = some .wrongState := by
  decide +kernel

/-- R147 to R149: the steps of an attempt. -/
theorem test_attempt :
    (after .attemptStart (filled ready)).store.attemptOn = true
      ∧ (after .writeIssued (after .attemptStart (filled ready))).store.state = .waitReady
      ∧ after .statusPollBusy failing = failing
      ∧ (after .readyAnswered failing).store.verifying = true
      ∧ (after (.verifyReadDone [1]) (after .readyAnswered failing)).store.lastFailure = some .compareFailure := by
  decide +kernel

/-- 8.8, the third row: the entry is in the journal and not in the index: step 1 credits it, step 2 releases slot 5. -/
def recovering : State :=
  { onSite (openEntry none [weighing 30380 0, weighing 21140 7]) ready with
    phase := .loading .counter
    clock := { count := 0, set := false }
    startup := { Startup.reset with
      indexGood := true
      ring := [{ seq := 61902, ticket := 88411 }]
      uncredited := some entry88411 } }
def recovered : State := after (.counterLoaded (counterBytes 88411)) recovering
theorem test_recovery :
    recovered.phase = .ready ∧ recovered.index.nextSeq = 61903 ∧ recovered.site.entries = []
      ∧ (recovered.index.totals[6]?.map fun t => t.today) = some 9240
      ∧ (recovered.index.totals[11]?.map fun t => t.today) = some 8680
      ∧ (recovered.store.queue.map fun i => i.extents.map Record.area) = [[.indexTotals], [.site]]
      ∧ told .s2 recovered = [(.startupReport, 0)] := by
  decide +kernel

/-- R157 to R159, R40, R117, R121: the loads of a memory that holds nothing good, from reset. -/
def loaded : State :=
  after (.siteRegisterLoaded [[]])
    (after (.vehicleRegisterLoaded [[]]) (after (.calibrationLoaded [] record.bytes) (after (.configAreaLoaded [] pins)
      State.reset)))
theorem test_loads :
    loaded.phase = .loading .indexTotals ∧ loaded.conditions.configDefaulted.latched = true
      ∧ loaded.decks.d0.cal.state = .outOfService ∧ loaded.decks.d1.cal = deckUp.cal
      ∧ loaded.conditions.calBad0.active = true ∧ loaded.startup.vehiclesDropped = 1
      ∧ loaded.startup.siteDropped = 1 ∧ loaded.site.entries = []
      ∧ loaded.lanes.l0.barrierA = downBarrier
      ∧ (after (.journalRingLoaded []) (after (.indexTotalsLoaded []) loaded)).conditions.recordsRebuilt.latched = true
      ∧ (after (.yardReset true false) loaded).rate = .r57600 := by
  decide +kernel

/-- Layouts of 8.2: a site slot and a vehicle slot read back as they were written. -/
theorem test_layouts :
    siteEntryOf (siteSlotBytes (some (openEntry none [weighing 30380 0]))) 5 .opened false = openEntry none [weighing 30380 0]
      ∧ vehicleOf (vehicleSlotBytes (some (vehicle 0 0x1A01).data)) = (vehicle 0 0x1A01).data
      ∧ (siteSlotBytes none).length = 96 ∧ entry88411.bytes.length = 96
      ∧ JournalEntry.ofBytes entry88411.bytes = entry88411
      ∧ slice (IndexTotals.bytes { IndexTotals.blank with storedDay := some (-1) }) 12 5 = [1, 255, 255, 255, 255] := by
  decide +kernel

/-- The windows of 9.3.1. -/
def depot : State :=
  { ready with settings := { ready.settings with windows := {
      s0 := [{ enabled := true, scopes := 31, classes := 31, access := .control }]
      s1 := [
        { enabled := true, scopes := 0b00011, classes := 0b00011, access := .control },
        { enabled := true, scopes := 0b11100, classes := 0b01000, access := .none }]
      s2 := [
        { enabled := true, scopes := 0b10000, classes := 0b10000, access := .control },
        { enabled := true, scopes := 0b11111, classes := 0b00100, access := .control }] } } }

/-- 9.3.1: the decisions of the table. -/
theorem test_decisions :
    depot.decision .s1 (.lane .l0) .lane = .control ∧ depot.decision .s1 (.lane .l2) .lane = .watch
      ∧ depot.decision .s1 .yard .deck = .none ∧ depot.decision .s1 .yard .yard = .watch
      ∧ (after (.sealSwitchChange true) depot).decision .s1 .yard .yard = .control
      ∧ depot.decision .s2 .yard .register = .control ∧ depot.decision .s2 (.lane .l1) .ticket = .watch
      ∧ answer (.readWeight (req .s1) 0) .s1 depot = some .notPermitted := by
  decide +kernel

/-- 9.3.1: S0 may give up YARD; S2 may then not, the last CONTROL over (YARD, YARD) being its own. -/
def window (enabled scopes classes access : Byte) : WindowBytes :=
  { enabled := enabled, scopes := scopes, classes := classes, access := access }
theorem test_last_control :
    answer (.configWriteWindows (req .s0) .s0 (List.replicate 8 (window 1 31 15 0))) .s0 depot = some .ok
      ∧ answer (.configWriteWindows (req .s2) .s2 (List.replicate 8 (window 0 31 15 0))) .s2
          (after (.configWriteWindows (req .s0) .s0 (List.replicate 8 (window 1 31 15 0))) depot) = some .lastControl := by
  decide +kernel

/-- R192: each group written, out-of-range numbers clamped, and read back as bytes. -/
theorem test_groups :
    (after (.configWriteLane (req .s0) .l0 { laneGroup with debounce := 5 }) ready).settings.lanes.l0.debounce = 20
      ∧ (after (.configWriteNoticeLevels (req .s0) (List.replicate 24 9)) ready).settings.levels = List.replicate 24 7
      ∧ (after (.configWriteWasteCaps (req .s0) (List.replicate 32 5)) ready).settings.caps = List.replicate 32 5
      ∧ (after (.configWriteRollSecond (req .s0) 90000) ready).settings.rollSecond = 86399
      ∧ (after (.configWriteVerifyOption (req .s0) 0) ready).settings.verify = false
      ∧ (after (.configWriteSampleTimeout (req .s0) 19 2001) ready).settings.sampleTimeout = { d0 := 20, d1 := 2000 }
      ∧ body (.configRead (req .s2) 0x24) .s2 ready = some (.group [0, 250, 0, 250]) := by
  decide +kernel

/-- The queue of S2 in 10.4. -/
def queued (kind : NoticeKind) (level : Nat) : Notice where
  kind := kind
  level := level
  lane := none
  deck := none
  ticket := 0
  detail := 0
  values := []
  time := 0
def fullQueue : NoticeState where
  queue := queued .dayRolled 7 :: List.replicate 31 (queued .captured 5)
  inProgress := []
  mask := [7]
  overrun := false

/-- 10.4: CAPTURED takes the place of DAY_ROLLED, LANE_CLEARED is lost; the fetch releases attention; ESTOP_CHANGE asserts it. -/
theorem test_full_queue :
    fullQueue.calls = true
      ∧ (fullQueue.join (queued .captured 5)).queue = List.replicate 32 (queued .captured 5)
      ∧ (fullQueue.join (queued .captured 5)).overrun = true
      ∧ ((fullQueue.join (queued .captured 5)).join (queued .laneCleared 6)).queue = List.replicate 32 (queued .captured 5)
      ∧ ((fullQueue.join (queued .captured 5)).fetched (queued .captured 5)).inProgress = [5]
      ∧ ((fullQueue.join (queued .captured 5)).fetched (queued .captured 5)).calls = false
      ∧ (((fullQueue.join (queued .captured 5)).fetched (queued .captured 5)).join (queued .estopChange 1)).calls = true := by
  decide +kernel

/-- 10.4: FETCH_NOTICE answers the oldest at the smallest level with the overrun flag; NOTICE_DONE removes the smallest level. -/
theorem test_fetch_and_done :
    body (.fetchNotice (req .s2)) .s2 (ready.setNotices .s2 (fullQueue.join (queued .captured 5))) =
        some (.notice (queued .captured 5) true)
      ∧ body (.noticeDone (req .s2)) .s2 (ready.setNotices .s2 { fullQueue with inProgress := [1, 5] }) = some (.level 1)
      ∧ ((after (.setNoticeMask (req .s2) [7, 3, 7]) ready).notices.get .s2).mask = [3, 7]
      ∧ (after (.setConditionEnable (req .s0) 0 0) ready).conditions.estop.enable = false := by
  decide +kernel

/-- R186, R189: frames that are no request, and responses that follow each other. -/
theorem test_frames_without_a_request :
    answer (.unknownRequest (req .s1) 0xEE) .s1 State.reset = some .unknownRequest
      ∧ answer (.frameError .s1 .badCheck) .s1 ready = some .frameError
      ∧ answer (.readTotals (req .s1)) .s1 State.reset = some .notReady
      ∧ ((after (.stationFrameGap .s0) (ready.stationByte .s0 0xA5)).port .s0).rx = []
      ∧ ((after (.stationFrameBadLength .s0) ready).port .s0) = Port.reset
      ∧ ((after (.responseSent .s0) (sendingOn 2 ready)).port .s0).waiting = [response]
      ∧ after (.tagFrameGap .l0) State.reset = State.reset
      ∧ (after (.tagFrameRefused .l0) ready).lanes.l0.tagRx.discarded = 1 := by
  decide +kernel

/-- R193: GET_STATUS during start-up; values not yet loaded are absent. -/
theorem test_status_before_loading :
    (match body (.getStatus (req .s1)) .s1 State.reset with
      | some (.status r) => decide (r.family = 0x45 ∧ r.nextSeq = none ∧ r.counter = none ∧ r.decks.d0.state = none)
      | _ => false) = true := by
  decide +kernel

/-! ### Witnesses: states and operands that meet the hypotheses of each statement, at the boundaries of its clauses -/

/-- A property of every lane from its four instances. -/
theorem every_lane {p : Lane → Prop} (h : p .l0 ∧ p .l1 ∧ p .l2 ∧ p .l3) : ∀ l, p l
  | .l0 => h.1
  | .l1 => h.2.1
  | .l2 => h.2.2.1
  | .l3 => h.2.2.2

theorem witness_StepTakesFrontCommand :
    ({ ready with pending := [.clockTick, .attemptStart] } : State).pending = .clockTick :: [.attemptStart] := by decide

theorem witness_EmptyQueueIdles : ready.pending = [] := by decide

theorem witness_PortsTakeRequests :
    (Instr.readTotals (req .s0)).request? = some (req .s0, 0x3C)
      ∧ 4 ≤ ((sendingOn 4 ready).port .s0).waiting.length
      ∧ ((deferredOn (sendingOn 3 ready)).port .s0).waiting.length < 4
      ∧ ((deferredOn (sendingOn 3 ready)).port .s0).marker.isSome = true
      ∧ State.reset.Listens .s0 ∧ State.reset.phase ≠ .ready ∧ (Instr.readTotals (req .s0)).isGetStatus = false
      ∧ (Instr.readTotals { req .s0 with bodyOk := false }).request? = some ({ req .s0 with bodyOk := false }, 0x3C)
      ∧ (sendingOn 3 ready).Listens .s0 ∧ ready.phase = .ready
      ∧ (Instr.getStatus { req .s0 with bodyOk := false }).request? = some ({ req .s0 with bodyOk := false }, 0x01)
      ∧ (Instr.getStatus (req .s0)).isGetStatus = true := by
  decide +kernel

theorem witness_AuthorityAndAttendanceHold :
    ((Instr.zero (req .s1) 0).request? = some (req .s1, 0x13)
      ∧ (Instr.zero (req .s1) 0).needs? ready = some (.control, .yard, .deck) ∧ ready.Takes (req .s1)
      ∧ ready.decision .s1 .yard .deck ≠ .control)
    ∧ ((Instr.readTotals (req .s2)).request? = some (req .s2, 0x3C)
      ∧ (Instr.readTotals (req .s2)).needs? (shut ready) = some (.watch, .yard, .ticket) ∧ (shut ready).Takes (req .s2)
      ∧ (shut ready).decision .s2 .yard .ticket = .none)
    ∧ ((Instr.hold (req .s0) 0).request? = some (req .s0, 0x25)
      ∧ (Instr.hold (req .s0) 0).needs? attendedLane = some (.control, .lane .l0, .lane) ∧ attendedLane.Takes (req .s0)
      ∧ attendedLane.attending.get .l0 = some .s1 ∧ Station.s1 ≠ (req .s0).station
      ∧ attendedLane.decision .s0 (.lane .l0) .lane = .control) := by
  decide +kernel

theorem witness_ReadsChangeNothing :
    ((Instr.readTotals (req .s2)).needs? ready = some (.watch, .yard, .ticket)
        ∧ exec (.readTotals (req .s2)) ready = .next (after (.readTotals (req .s2)) ready))
      ∧ (Instr.getStatus (req .s2)).isGetStatus = true
      ∧ exec (.getStatus (req .s2)) ready = .next (after (.getStatus (req .s2)) ready) :=
  ⟨⟨by decide +kernel, rfl⟩, by decide +kernel, rfl⟩

theorem witness_OtherStationsUntouched :
    (Instr.hold (req .s0) 0).request? = some (req .s0, 0x25)
      ∧ exec (.hold (req .s0) 0) ready = .next (after (.hold (req .s0) 0) ready) ∧ Station.s1 ≠ (req .s0).station :=
  ⟨by decide +kernel, rfl, by decide⟩

/-- Eight windows of S1 of which only the last hits (L0, LANE). -/
def eightWindows : State :=
  { ready with settings := { ready.settings with windows := { ready.settings.windows with
      s1 := List.replicate 7 Window.disabled ++ [{ enabled := true, scopes := 1, classes := 1, access := .none }] } } }

theorem witness_DecisionOfAStation :
    (unsealed.sealOpen = true)
    ∧ (¬(Scope.lane .l0 = .yard ∧ Cls.lane = .yard ∧ eightWindows.sealOpen = true)
      ∧ (eightWindows.settings.windows.get .s1)[7]? = some { enabled := true, scopes := 1, classes := 1, access := .none }
      ∧ ({ enabled := true, scopes := 1, classes := 1, access := .none } : Window).hits (.lane .l0) .lane = true
      ∧ ∀ v ∈ (eightWindows.settings.windows.get .s1).take 7, v.hits (.lane .l0) .lane = false)
    ∧ (∀ w ∈ ready.settings.windows.get .s2, w.hits .yard .yard = false) := by
  decide +kernel

theorem witness_FramesWithoutARequest :
    4 ≤ ((sendingOn 4 ready).port .s0).waiting.length ∧ ((sendingOn 3 ready).port .s0).waiting.length < 4
      ∧ ((sendingOn 2 ready).port .s0).sending = some response
      ∧ ((sendingOn 2 ready).port .s0).waiting = response :: [response]
      ∧ ((sendingOn 0 ready).port .s0).sending = some response ∧ ((sendingOn 0 ready).port .s0).waiting = [] := by
  decide +kernel

theorem witness_PortResetClearsThePort :
    attendedLane.attending.get .l0 = some .s1
      ∧ ∀ l, attendedLane.attending.get l = some .s1 → (attendedLane.lane l).state ≠ .onDeck :=
  ⟨by decide +kernel, every_lane (by decide +kernel)⟩

theorem witness_GetStatusReports : State.reset.Listens .s0 ∧ (req .s0).bodyOk = true := by decide +kernel

theorem witness_SettingsAndReadingsAnswer :
    ready.Takes (req .s2) ∧ (0 : Byte).toNat = Lane.l0.toNat ∧ (3 : Byte).toNat = Lane.l3.toNat
      ∧ ready.decision .s2 (.lane .l3) .lane ≠ .none ∧ ready.decision .s2 .yard .yard ≠ .none
      ∧ (0x10 : Byte).toNat = 0x10 + Station.s0.toNat ∧ (0x12 : Byte).toNat = 0x10 + Station.s2.toNat
      ∧ (0x20 : Byte).toNat = 0x20 ∧ (0x24 : Byte).toNat = 0x24
      ∧ (∀ id ∈ [(4 : Byte), 0x0F, 0x13, 0x1F, 0x25, 0xFF],
          4 ≤ id.toNat ∧ ¬(0x10 ≤ id.toNat ∧ id.toNat ≤ 0x12) ∧ ¬(0x20 ≤ id.toNat ∧ id.toNat ≤ 0x24))
      ∧ 3 ≤ (3 : Byte).toNat ∧ 2 ≤ (2 : Byte).toNat ∧ ready.decision .s2 .yard .deck ≠ .none
      ∧ (1 : Byte).toNat = Deck.d1.toNat ∧ 4 ≤ (4 : Byte).toNat ∧ Lane.ofNat? (3 : Byte).toNat = some .l3 := by
  decide +kernel

theorem witness_ReadCalAnswersTheRecord :
    editing.Takes (req .s2) ∧ 2 ≤ (2 : Byte).toNat ∧ (0 : Byte).toNat = Deck.d0.toNat ∧ (1 : Byte).toNat = Deck.d1.toNat
      ∧ (1 : Byte).toNat < 2 ∧ (editing.deck .d0).cal.coherent = true ∧ (editing.deck .d1).cal.coherent = true
      ∧ editing.decision .s2 .yard .deck ≠ .none ∧ (shut ready).Takes (req .s2)
      ∧ (shut ready).decision .s2 .yard .deck = .none
      ∧ (editing.deck .d0).cal.state = .calEdit ∧ (editing.deck .d1).cal.state ≠ .calEdit := by
  decide +kernel

theorem witness_SiteReadsAnswer :
    ready.Takes (req .s2) ∧ 4 < (5 : Byte).toNat ∧ (0 : Byte).toNat = 0 ∧ 1 ≤ (1 : Byte).toNat ∧ (4 : Byte).toNat ≤ 4
      ∧ ready.decision .s2 .yard .ticket ≠ .none
      ∧ (let s := onSite (openEntry none [weighing 1 0]) ready;
        s.Takes (req .s2) ∧ (88411 : BitVec 32) ≠ 0 ∧ s.decision .s2 (s.ticketScope 88411) .ticket ≠ .none
          ∧ s.siteByTicket? 88411 = some (openEntry none [weighing 1 0])
          ∧ s.siteByTicket? 1 = none ∧ ∀ p ∈ s.tickets.recent, p.ticket ≠ 1) := by
  decide +kernel

theorem witness_TotalsReported :
    ready.Takes (req .s2) ∧ ready.decision .s2 .yard .ticket ≠ .none ∧ (shut ready).Takes (req .s2)
      ∧ (shut ready).decision .s2 .yard .ticket = .none
      ∧ ready.index.totals[31]? = some { today := 0, previous := 0 } ∧ ready.settings.caps[31]? = some 0
      ∧ ready.tickets.capNotice[31]? = some false := by
  decide +kernel

/-- A read group of two entries, one in hand, whose port has been reset or not. -/
def group (discard : Bool) (slots : List ReadSlot) : ReadGroup where
  station := .s1
  code := 0x3D
  tag := 0x41
  clamped := false
  slots := slots
  discard := discard

theorem witness_JournalReadsAnswer :
    (writing.Watches (req .s1) .yard .ticket
      ∧ ¬(writing.index.nextSeq - 4096 ≤ 57806 ∧ 57806 < writing.index.nextSeq)
      ∧ ¬(writing.index.nextSeq - 4096 ≤ 61903 ∧ 61903 < writing.index.nextSeq)
      ∧ writing.index.nextSeq - 4096 ≤ 57807 ∧ 61902 < writing.index.nextSeq
      ∧ writing.store.queuedEntry? 61902 = some entry88411 ∧ writing.store.queuedEntry? 57807 = none)
    ∧ (let s := { writing with tickets := { writing.tickets with recent := [{ ticket := 88411, seq := 61902 },
          { ticket := 5, seq := 61000 }] } }
      s.Watches (req .s1) .yard .ticket ∧ s.siteByTicket? 88411 = none ∧ s.siteByTicket? 5 = none
        ∧ s.tickets.recent.find? (fun p => decide (p.ticket = 88411)) = some { ticket := 88411, seq := 61902 }
        ∧ s.tickets.recent.find? (fun p => decide (p.ticket = 5)) = some { ticket := 5, seq := 61000 }
        ∧ s.store.queuedEntry? 61000 = none)
    ∧ (∀ d ∈ [false, true], ∀ rest ∈ [[], [{ seq := 3, got := none }]],
      let g := group d ([{ seq := 1, got := some (.damaged 1) }] ++ { seq := 2, got := none } :: rest)
      let s := { ready with store := { ready.store with serving := [g] } }
      s.store.serving = g :: [] ∧ (∀ y ∈ g.slots.take 1, y.got.isSome = true)) := by
  decide +kernel

theorem witness_RegisterReadsAnswer :
    (registered ready).Takes (req .s2) ∧ (0 : Byte).toNat = 0 ∧ 8 < (9 : Byte).toNat ∧ (8 : Byte).toNat ≤ 8
      ∧ (registered ready).decision .s2 .yard .register ≠ .none
      ∧ (registered ready).vehicle? 0x1A09 = none ∧ keyed (registered ready).vehicles = true
      ∧ (registered ready).vehicle? 0x1A01 = some (vehicle 0 0x1A01)
      ∧ 12 < (List.replicate 13 (0x20 : Byte)).length ∧ (∃ c ∈ [(0x7F : Byte)], c.toNat < 0x20 ∨ 0x7E < c.toNat)
      ∧ (∀ c ∈ [(0x20 : Byte), 0x7E], 0x20 ≤ c.toNat ∧ c.toNat ≤ 0x7E)
      ∧ (∀ v ∈ (registered ready).vehicles, v.data.fleet ≠ [0x20])
      ∧ vehicle 0 0x1A01 ∈ (registered ready).vehicles ∧ (vehicle 0 0x1A01).data.fleet = [0x53]
      ∧ (∀ u ∈ (registered ready).vehicles, u.data.fleet = [0x53] → u ≠ vehicle 0 0x1A01 →
        (vehicle 0 0x1A01).data.tag.toNat < u.data.tag.toNat)
      ∧ (registered ready).clock.count < 1000000 + 30 * 86400
      ∧ (onSite reservedEntry ready).siteByTag? 0x1A01 = some reservedEntry := by
  decide +kernel

theorem witness_GroupsAreWritten :
    ready.Controls (req .s0) .yard .yard ∧ ready.slotFree = true ∧ (filled ready).Controls (req .s0) .yard .yard
      ∧ (filled ready).slotFree = false ∧ (List.replicate 24 (0 : Byte)).length = 24
      ∧ (List.replicate 32 (7 : BitVec 32)).length = 32 ∧ ready.settings.caps.length = 32
      ∧ ready.tickets.capNotice.length = 32 ∧ 2 ≤ (2 : Byte).toNat ∧ (1 : Byte).toNat < 2
      ∧ laneSettingsOf? { laneGroup with direction := 2 } = none
      ∧ (laneSettingsOf? laneGroup).isSome = true ∧ ready.Controls (req .s0) (.lane .l0) .lane
      ∧ (ready.lane .l0).state = .closed ∧ (inState .idle ready).Controls (req .s0) (.lane .l0) .lane
      ∧ ((inState .idle ready).lane .l0).state ≠ .closed
      ∧ windowsOf? (List.replicate 8 (window 1 32 15 0)) = none
      ∧ (windowsOf? (List.replicate 8 (window 1 31 15 0))).isSome = true := by
  decide +kernel

/-- The windows that a write of station S0 gives every station, by whether YARD stays among its classes. -/
theorem witness_GroupsAreWritten_windows :
    (∃ ws, windowsOf? (List.replicate 8 (window 1 31 15 0)) = some ws
        ∧ ∀ a, windowAccess ((ready.settings.windows.set .s0 ws).get a) .yard .yard ≠ .control)
      ∧ ∃ ws, windowsOf? (List.replicate 8 (window 1 31 31 0)) = some ws
        ∧ ∃ a, windowAccess ((ready.settings.windows.set .s0 ws).get a) .yard .yard = .control :=
  ⟨⟨List.replicate 8 { enabled := true, scopes := 31, classes := 15, access := .control }, by decide +kernel,
      fun a => by cases a <;> decide +kernel⟩,
    ⟨List.replicate 8 { enabled := true, scopes := 31, classes := 31, access := .control }, by decide +kernel, .s0,
      by decide +kernel⟩⟩

theorem witness_ClockAndDayRoll :
    ready.Controls (req .s0) .yard .yard ∧ (filled ready).slotFree = false ∧ State.reset.clock.set = false
      ∧ (let s := clocked 1700028000 19675 380000 412000;
        s.clock.set = true ∧ (19676 : Int) * 86400 ≤ (s.clock.count : Int) - s.settings.rollSecond
          ∧ (s.clock.count : Int) - s.settings.rollSecond < (19676 + 1) * 86400
          ∧ s.index.storedDay = some 19675 ∧ s.tickets.rollPending = false ∧ s.store.reservedCount = 0)
      ∧ ready.index.storedDay = none
      ∧ (let e : StoreEngine := { ready.store with queue := [{ extents := [.counter 1], reserved := true }] }
        1 ≤ e.reservedCount ∧ e.ordinaryFilled < 16)
      ∧ (let e : StoreEngine := { ready.store with
          queue := { extents := [.counter 1], reserved := true }
            :: List.replicate 16 { extents := [.counter 1], reserved := false } }
        1 ≤ e.reservedCount ∧ 16 ≤ e.ordinaryFilled) := by
  decide +kernel

theorem witness_NoticesAreFetchedAndDone :
    ready.Takes (req .s2) ∧ (ready.notices.get .s2).queue = []
      ∧ (let s := ready.setNotices .s2 { fullQueue with
            queue := [queued .dayRolled 7] ++ queued .captured 5 :: [queued .laneCleared 5], inProgress := [1, 5] }
        s.Takes (req .s2) ∧ (s.notices.get .s2).queue = [queued .dayRolled 7] ++ queued .captured 5 :: [queued .laneCleared 5]
          ∧ (s.notices.get .s2).bounded = true ∧ 1 ∈ (s.notices.get .s2).inProgress
          ∧ ∀ x ∈ (s.notices.get .s2).inProgress, 1 ≤ x)
      ∧ (∃ v ∈ [(0 : Byte)], v.toNat < 1 ∨ 7 < v.toNat) ∧ (∃ v ∈ [(8 : Byte)], v.toNat < 1 ∨ 7 < v.toNat)
      ∧ (∀ v ∈ [(1 : Byte), 7], 1 ≤ v.toNat ∧ v.toNat ≤ 7) := by
  decide +kernel

theorem witness_NoticesJoinTheQueues :
    { fullQueue with queue := fullQueue.queue.take 31 }.queue.length < 32 ∧ 32 ≤ fullQueue.queue.length
      ∧ fullQueue.queue = [] ++ queued .dayRolled 7 :: List.replicate 31 (queued .captured 5)
      ∧ (∀ x ∈ List.replicate 31 (queued .captured 5), x.level ≤ 7)
      ∧ (∀ x ∈ fullQueue.queue, x.level ≤ (queued .dayRolled 7).level) := by
  decide +kernel

theorem witness_ConditionsAreHeld :
    ready.Takes (req .s0) ∧ 10 ≤ (10 : Byte).toNat ∧ 2 ≤ (2 : Byte).toNat ∧ Condition.ofNat? (9 : Byte).toNat = some .recordsRebuilt
      ∧ ready.decision .s0 .yard .yard = .control ∧ (failed.condition .storeFault).active = true
      ∧ (ready.condition .recordsRebuilt).active = false ∧ (7 : Byte).toNat ∈ [0, 1, 2, 3, 6, 7] ∧ (1 : Byte).toNat < 2 := by
  decide +kernel

theorem witness_AttemptsProgress :
    (filled ready).store.state = .writing ∧ (filled ready).store.attemptOn = false ∧ (filled ready).store.serving = []
      ∧ (filled ready).store.current ≠ none ∧ ready.store.state ≠ .writing
      ∧ (after .attemptStart (filled ready)).store.attemptOn = true ∧ failing.store.state = .waitReady
      ∧ failing.store.verifying = false ∧ failing.settings.verify = true
      ∧ failed.Controls (req .s0) .yard .yard ∧ failed.store.state = .fault
      ∧ failed.store.current = some { index := 0, attempt := 3 } ∧ ready.Controls (req .s0) .yard .yard := by
  decide +kernel

/-- `s` with the verify option OFF. -/
def unverified (s : State) : State := { s with settings := { s.settings with verify := false } }

theorem witness_AttemptsEnd :
    (let s := unverified writing;
      s.store.queue = { extents := [.journal entry88411, .counter 7, .siteSlot 5 none], reserved := false } :: []
        ∧ s.store.current = some { index := 1, attempt := 1 } ∧ s.store.state = .waitReady ∧ s.store.attemptOn = true
        ∧ s.store.verifying = false ∧ s.settings.verify = false ∧ 1 + 1 < 3)
    ∧ (failing.store.queue = { extents := [.siteSlot 5 none], reserved := false } :: []
        ∧ failing.store.current = some { index := 0, attempt := 3 } ∧ failing.store.state = .waitReady
        ∧ failing.store.attemptOn = true ∧ failing.store.verifying = false ∧ failing.tickets.rollPending = false
        ∧ (failing.condition .storeFault).active = false ∧ (after .readyAnswered failing).store.verifying = true) := by
  decide +kernel

theorem witness_RoundingsAreNearest : 0 < 1024 ∧ 0 < 20 := by decide

theorem witness_SamplesFormReadings :
    State.reset.phase.rank < 2 ∧ 2 ≤ ready.phase.rank ∧ 2 ≤ (Phase.loading .vehicle).rank
      ∧ ([⟨0, 0⟩] : List CellSample).length ≠ (ready.deck .d0).cal.committed.cellCount
      ∧ ¬(4 ≠ (ready.deck .d0).cal.committed.cellCount ∨ (ready.deck .d0).cal.state = .outOfService) := by
  decide +kernel

theorem witness_SilenceAndDiscardedFrames :
    (State.reset.deck .d0).link.timer = .notStarted ∧ (ready.deck .d0).link.timer = .running 250
      ∧ State.reset.phase.rank < 1 ∧ 1 ≤ (Phase.loading .calibration).rank ∧ (Phase.loading .calibration).rank < 2
      ∧ 2 ≤ ready.phase.rank := by
  decide +kernel

theorem witness_CoupledReadingIsFormed :
    (let s := shows 30000 true ready;
      s.decks.d0.weight.reading.wG = some 30000000 ∧ s.decks.d1.weight.reading.wG = none
        ∧ s.decks.d1.weight.reading.status = .stale
        ∧ ∀ earlier ∈ [WeightStatus.stale, .cellFault, .over, .under].takeWhile (fun x => decide (x ≠ .stale)),
          s.decks.d0.weight.reading.status ≠ earlier)
    ∧ (let s := shows 30000 true { ready with decks := { ready.decks with d1 := (shows 60180 true ready).decks.d0 } };
      s.decks.d0.weight.reading.status = .valid ∧ s.decks.d1.weight.reading.status = .valid
        ∧ s.recouple.coupled.wG = some 90180000
        ∧ (90180000 : Int) ≤ ((s.recouple.coupled.capacity : Int) + 9 * s.recouple.coupled.division) * 1000)
    ∧ (let s := shows 60180 true { ready with decks := { ready.decks with d1 := (shows 60180 true ready).decks.d0 } };
      s.recouple.coupled.wG = some 120360000
        ∧ ((s.recouple.coupled.capacity : Int) + 9 * s.recouple.coupled.division) * 1000 < 120360000) := by
  decide +kernel

theorem witness_DeckZeroIsSet :
    (let s := tracked 1203000 1194000 false;
      (s.deck .d0).cal.committed.zeroTracking = 1 ∧ (s.deck .d0).cal.state = .inService ∧ s.holders.get .d0 = none
        ∧ s.claims.get .d0 = [] ∧ (s.deck .d0).weight.reading.status = .valid ∧ (s.deck .d0).weight.reading.stable = true
        ∧ (s.deck .d0).weight.reading.wG = some 9000 ∧ (9000 : Int) ≤ 500 * (s.deck .d0).cal.committed.division
        ∧ (s.deck .d0).weight.trackMs = some 1000 ∧ s.Controls (req .s0) .yard .deck
        ∧ (s.deck .d0).cal.committed.capacity * 1000 / 50 < 1203000
        ∧ ¬(s.deck .d0).cal.committed.capacity * 1000 / 50 < 1200000
        ∧ (s.deck .d0).weight.reading.wAvg = some 1203000)
    ∧ (2 ≤ (2 : Byte).toNat ∧ ready.Takes (req .s0) ∧ (1 : Byte).toNat = Deck.d1.toNat
    ∧ editing.Controls (req .s0) .yard .deck ∧ (editing.deck .d0).cal.state ≠ .inService
    ∧ (onDeck 1 true reservedEntry).Controls (req .s0) .yard .deck ∧ (onDeck 1 true reservedEntry).holders.get .d0 ≠ none
    ∧ ready.Controls (req .s0) .yard .deck ∧ (ready.deck .d0).weight.reading.status ≠ .valid
    ∧ (shows 1 false ready).Controls (req .s0) .yard .deck ∧ ((shows 1 false ready).deck .d0).weight.reading.stable = false) :=
  ⟨by decide +kernel, by decide +kernel⟩

theorem witness_EditsAreStaged :
    (0 : Byte).toNat = Deck.d0.toNat ∧ (1 : Byte).toNat = Deck.d1.toNat ∧ ready.Controls (req .s0) .yard .deck
      ∧ ready.sealOpen = false ∧ (ready.deck .d0).cal.state ≠ .calEdit
      ∧ unsealed.Controls (req .s0) .yard .deck ∧ unsealed.sealOpen = true ∧ (unsealed.deck .d0).cal.state ≠ .calEdit
      ∧ unsealed.holders.get .d0 = none
      ∧ { unsealed with holders := { d0 := some .l0, d1 := none } }.holders.get .d0 ≠ none
      ∧ editing.Controls (req .s0) .yard .deck ∧ editing.sealOpen = true ∧ (editing.deck .d0).cal.state = .calEdit
      ∧ (editing.deck .d0).cal.edit = some record ∧ (editing.deck .d0).cal.preEdit = some .inService
      ∧ (∃ p ∈ [CalPair.span 9 1], CalPair.ok p = false)
      ∧ ∀ p ∈ [CalPair.span 8 1, .capacity 150000, .zeroTracking 1], CalPair.ok p = true := by
  decide +kernel

/-- D0's edit with another edit copy and counter. -/
def editingWith (e : CalRecord) (counter : Nat) : State :=
  editing.setDeck .d0 { editing.deck .d0 with
    cal := { (editing.deck .d0).cal with edit := some e, committed := { record with counter := counter } } }

theorem witness_CommitsTakeTheEdit :
    (0 : Byte).toNat = Deck.d0.toNat ∧ editing.Controls (req .s0) .yard .deck ∧ (ready.deck .d0).cal.state ≠ .calEdit
      ∧ ready.Controls (req .s0) .yard .deck
      ∧ (editing.deck .d0).cal.state = .calEdit ∧ (editing.deck .d0).cal.edit = some record
      ∧ (record.commitOk = true ∧ 0 < record.division ∧ record.division ∣ record.capacity
        ∧ record.capacity / record.division ≤ 10000)
      ∧ (editing.deck .d0).cal.committed.counter < 65535 ∧ editing.slotFree = true
      ∧ (filled editing).Controls (req .s0) .yard .deck ∧ (filled editing).slotFree = false
      ∧ (editingWith record 65535).Controls (req .s0) .yard .deck
      ∧ 65535 ≤ ((editingWith record 65535).deck .d0).cal.committed.counter
      ∧ ¬((120000 : Nat) / 10 ≤ 10000) ∧ ¬(20 ∣ 60010) := by
  decide +kernel

theorem witness_CalibrationChangesByCommit :
    exec (.calCommit (req .s0) 0) editing = .next (after (.calCommit (req .s0) 0) editing)
      ∧ (∀ d0 d1, Instr.calCommit (req .s0) 0 ≠ .calibrationLoaded d0 d1)
      ∧ ∀ a b, Instr.calCommit (req .s0) 0 ≠ .yardReset a b :=
  ⟨rfl, nofun, nofun⟩

/-- READY with this barrier A on L0. -/
def laneWith (b : Barrier) : State := ready.setLane .l0 { laneDown with barrierA := b }

/-- A barrier that has stopped between its limits. -/
def stoppedBarrier : Barrier := { downBarrier with state := .stopped, downLimit := false }

theorem witness_BarriersTakeRequests :
    (∀ b ∈ [downBarrier, upBarrier, stoppedBarrier, fallingBarrier 2], ((laneWith b).lane .l0).barrier .a = b)
    ∧ ready.estop = false ∧ (after (.estopInputChange true) ready).estop = true
    ∧ ((faultedLane true true).lane .l0).barrierA.state = .fault
    ∧ (downBarrier.state = .down ∧ downBarrier.upLimit = false) ∧ (stoppedBarrier.state = .stopped ∧ stoppedBarrier.upLimit = false)
    ∧ ((fallingBarrier 2).state = .falling ∧ (fallingBarrier 2).upLimit = false) ∧ upBarrier.state = .up
    ∧ (upBarrier.lowerPending = false ∧ upBarrier.beamBroken = false ∧ upBarrier.clearDelay = none ∧ upBarrier.downLimit = false)
    ∧ ¬({ upBarrier with clearDelay := some 1 }.beamBroken = false ∧ { upBarrier with clearDelay := some 1 }.clearDelay = none)
    ∧ ((0 : Byte).toNat = Lane.l0.toNat ∧ (0 : Byte).toNat = BarrierId.a.toNat ∧ (1 : Byte).toNat = BarrierId.x.toNat
      ∧ ready.Controls (req .s0) (.lane .l0) .lane ∧ (ready.lane .l0).state ≠ .hold
      ∧ (faultedLane true true).Controls (req .s0) (.lane .l0) .lane ∧ ((faultedLane true true).lane .l0).state = .hold
      ∧ (faultedLane true true).estop = false ∧ ((faultedLane true true).lane .l0).barrierX.state ≠ .fault
      ∧ ((faultedLane true true).lane .l0).barrierA.upLimit = true ∧ ((faultedLane true true).lane .l0).barrierA.downLimit = true
      ∧ ¬(((faultedLane true false).lane .l0).barrierA.upLimit = true
        ∧ ((faultedLane true false).lane .l0).barrierA.downLimit = true)) := by
  and_intros <;> decide +kernel

theorem witness_LimitsMoveBarriers :
    State.reset.phase.rank < 1 ∧ 1 ≤ ready.phase.rank
    ∧ (∀ b ∈ [downBarrier, upBarrier, stoppedBarrier, fallingBarrier 2], ((laneWith b).lane .l0).barrier .a = b)
    ∧ { downBarrier with downLimit := true } = downBarrier
    ∧ ({ downBarrier with upLimit := true } ≠ downBarrier ∧ downBarrier.state ≠ .fault ∧ downBarrier.downLimit = true)
    ∧ ({ stoppedBarrier with upLimit := true } ≠ stoppedBarrier ∧ stoppedBarrier.state = .stopped
      ∧ ¬(true = true ∧ stoppedBarrier.downLimit = true))
    ∧ ({ stoppedBarrier with lowerPending := true }.beamBroken = false
      ∧ { stoppedBarrier with lowerPending := true }.clearDelay = none)
    ∧ ({ fallingBarrier 2 with downLimit := true } ≠ fallingBarrier 2 ∧ (fallingBarrier 2).state = .falling
      ∧ (fallingBarrier 2).upLimit = false)
    ∧ ({ upBarrier with upLimit := false } ≠ upBarrier ∧ upBarrier.state = .up)
    ∧ ({ downBarrier with downLimit := false } ≠ downBarrier ∧ downBarrier.state = .down)
    ∧ ({ upBarrier with state := .rising, upLimit := false }.state = .rising
      ∧ { upBarrier with state := .rising, upLimit := false, downLimit := true }.downLimit = true) := by
  and_intros <;> decide +kernel

theorem witness_BeamsAndTimersOfBarriers :
    State.reset.phase.rank < 1 ∧ 1 ≤ ready.phase.rank
    ∧ (∀ n ∈ [0, 1, 2, 3], ((laneWith (fallingBarrier n)).lane .l0).barrier .a = fallingBarrier n
      ∧ (fallingBarrier n).state = .falling ∧ (fallingBarrier n).beamBroken = false ∧ (fallingBarrier n).reversals = n)
    ∧ (upBarrier.beamBroken = false ∧ upBarrier.state ≠ .falling)
    ∧ ({ upBarrier with beamBroken := true, lowerPending := true }.beamBroken = true ∧ upBarrier.state = .up
      ∧ upBarrier.downLimit = false)
    ∧ (0 < (ready.laneSettings .l0).clear ∧ upBarrier.lowerPending = false)
    ∧ (upBarrier.clearDelay = none ∧ { upBarrier with clearDelay := some 0 }.clearDelay ≠ none)
    ∧ (upBarrier.travel = none ∧ (fallingBarrier 0).travel ≠ none ∧ (fallingBarrier 0).leaveLimit = false
      ∧ { fallingBarrier 0 with leaveLimit := true }.leaveLimit = true) := by
  and_intros <;> decide +kernel

theorem witness_YardInputsAreTaken :
    State.reset.phase.rank < 1 ∧ 1 ≤ ready.phase.rank ∧ ready.estop = false ∧ (after (.estopInputChange true) ready).estop = true
      ∧ (ready.condition .mainsFail).active = false
      ∧ ((after (.mainsFailInputChange true) ready).condition .mainsFail).active = true
      ∧ ready.sealOpen = false ∧ unsealed.sealOpen = true := by
  decide +kernel

theorem witness_LanesEnterAndAreHeld :
    (ready.lane .l0).state = .closed ∧ ((inState .idle ready).lane .l0).state = .idle ∧ HoldReason.station ≠ .barrierFault
      ∧ HoldReason.station ≠ .startup ∧ ((heldFrom .leaving ready).lane .l0).state = .hold
      ∧ ((heldFrom .leaving ready).lane .l0).heldFrom = some .leaving
      ∧ ((inState .weighing ready).lane .l0).state ≠ .closed ∧ ((inState .weighing ready).lane .l0).state ≠ .hold
      ∧ LaneState.timed .closed = false := by
  decide +kernel

theorem witness_HoldIsTaken :
    (0 : Byte).toNat = Lane.l0.toNat ∧ ready.Takes (req .s2) ∧ ready.decision .s2 (.lane .l0) .lane ≠ .control
      ∧ ready.Takes (req .s0) ∧ ready.decision .s0 (.lane .l0) .lane = .control ∧ ready.attending.get .l0 = none
      ∧ (ready.lane .l0).state ∈ [LaneState.closed, .idle, .hold]
      ∧ attendedLane.Takes (req .s0) ∧ attendedLane.attending.get .l0 = some .s1 ∧ Station.s1 ≠ (req .s0).station
      ∧ (inState .clearing ready).Takes (req .s0) ∧ (inState .clearing ready).attending.get .l0 = none
      ∧ ((inState .clearing ready).lane .l0).state ∈ [LaneState.admitting, .entering, .positioning, .onDeck, .weighing,
        .leaving, .retreating, .clearing] := by
  decide +kernel

theorem witness_LanesOpenCloseAndAreAttended :
    ((0 : Byte).toNat = Lane.l0.toNat ∧ ready.Controls (req .s0) (.lane .l0) .lane ∧ (ready.lane .l0).state = .closed
      ∧ ready.slotFree = true ∧ (ready.lane .l0).barrierA.state ≠ .fault ∧ (ready.lane .l0).barrierX.state ≠ .fault)
    ∧ ((filled ready).Controls (req .s0) (.lane .l0) .lane ∧ (filled ready).slotFree = false)
    ∧ ((inState .idle ready).Controls (req .s0) (.lane .l0) .lane ∧ ((inState .idle ready).lane .l0).state = .idle
      ∧ (inState .idle ready).slotFree = true ∧ (filled (inState .idle ready)).slotFree = false
      ∧ (inState .idle ready).attending.get .l0 ≠ some .s0)
    ∧ (attendedLane.Controls (req .s1) (.lane .l0) .lane ∧ attendedLane.attending.get .l0 = some .s1)
    ∧ (let s := laneWith { downBarrier with state := .fault };
      s.Controls (req .s0) (.lane .l0) .lane ∧ (s.lane .l0).state = .closed ∧ (s.lane .l0).barrierA.state = .fault) := by
  decide +kernel

theorem witness_ResumeReturnsTheLane :
    ((0 : Byte).toNat = Lane.l0.toNat ∧ ready.Controls (req .s0) (.lane .l0) .lane ∧ (ready.lane .l0).state ≠ .hold)
    ∧ ∀ old ∈ [LaneState.admitting, .entering, .positioning, .onDeck, .weighing, .leaving, .retreating, .clearing],
      (heldFrom old ready).Controls (req .s0) (.lane .l0) .lane
        ∧ ((heldFrom old ready).lane .l0).heldFrom = some old
        ∧ ¬(((heldFrom old ready).lane .l0).state ≠ .hold ∨ (heldFrom old ready).estop = true
          ∨ ((heldFrom old ready).lane .l0).barrierA.state = .fault ∨ ((heldFrom old ready).lane .l0).barrierX.state = .fault
          ∨ ∃ d ∈ ((heldFrom old ready).laneSettings .l0).deck.decks, ((heldFrom old ready).deck d).cal.state = .outOfService) := by
  decide +kernel

theorem witness_ResumeReturnsTheLane_idle :
    let s := (inState .idle ready).hold .l0 .startup;
    s.Controls (req .s0) (.lane .l0) .lane ∧ (s.lane .l0).heldFrom = some .idle ∧ (s.lane .l0).state = .hold := by
  decide +kernel

theorem witness_SendBackAndResetLetGo :
    ((0 : Byte).toNat = Lane.l0.toNat ∧ (inState .leaving ready).Controls (req .s0) (.lane .l0) .lane
      ∧ ((inState .leaving ready).lane .l0).state = .leaving)
    ∧ ((inState .admitting ready).Controls (req .s0) (.lane .l0) .lane ∧ ((inState .admitting ready).lane .l0).state = .admitting)
    ∧ ((inState .weighing ready).Controls (req .s0) (.lane .l0) .lane
      ∧ ((inState .weighing ready).lane .l0).state ∈ [LaneState.entering, .positioning, .onDeck, .weighing])
    ∧ ((heldFrom .entering ready).Controls (req .s0) (.lane .l0) .lane ∧ ((heldFrom .entering ready).lane .l0).state = .hold
      ∧ (heldFrom .entering ready).estop = false ∧ ((heldFrom .entering ready).lane .l0).barrierA.state ≠ .fault
      ∧ ((heldFrom .entering ready).lane .l0).barrierX.state ≠ .fault)
    ∧ ((onSite reservedEntry ready).boundEntry? .l0 = some reservedEntry ∧ ready.boundEntry? .l0 = none
      ∧ reservedEntry.state = .reserved ∧ (openEntry (some .l0) []).state ≠ .reserved) := by
  decide +kernel

/-- L0 in ON_DECK with the armed flag clear and both beams of the deck broken or not, the reposition mark set or not. -/
def unarmed (eb reposition : Bool) : State :=
  ready.setLane .l0 { (inState .onDeck ready).lane .l0 with eb := eb, marks := { Marks.clear with reposition := reposition } }

theorem witness_LaneInputsAreTaken :
    (State.reset.phase.rank < 1 ∧ 1 ≤ ready.phase.rank ∧ (ready.lane .l0).al = false)
    ∧ (∀ n ∈ [0, 1, 2, 3, 4], ∃ u ∈ [{ (inState .leaving ready).lane .l0 with marks := { Marks.clear with leavingStep := n } }],
      u.markState = .leaving ∧ u.marks.leavingStep = n)
    ∧ ((unarmed true true).lane .l0).armed = false ∧ ((unarmed true true).lane .l0).eb = true
    ∧ ((unarmed true true).lane .l0).marks.reposition = true ∧ ((unarmed false false).lane .l0).eb = false
    ∧ ((heldFrom .entering ready).lane .l0).heldFrom = some .entering
    ∧ ((heldFrom .retreating ready).lane .l0).heldFrom = some .retreating := by
  decide +kernel

theorem witness_PassageFollowsItsConditions :
    ((inState .entering ready).lane .l0).state = .entering
    ∧ (let u := { (inState .entering ready).lane .l0 with marks := { Marks.clear with ebSeen := true } };
      u.state = .entering ∧ u.al = false ∧ u.marks.ebSeen = true ∧ u.barrierA.beamBroken = false)
    ∧ (let s := shows 400 true (inState .positioning ready);
      (s.lane .l0).state = .positioning ∧ (s.lane .l0).eb = false ∧ (s.lane .l0).xb = false
        ∧ (s.laneReading .l0).status = .valid ∧ 20 * ((s.laneReading .l0).division : Int) ≤ (s.laneReading .l0).w)
    ∧ ((inState .leaving ready).lane .l0).marks.leavingStep ≠ 4
    ∧ (let s := shows 380 true (inState .clearing ready);
      (s.lane .l0).state = .clearing ∧ (s.lane .l0).barrierA.state = .down ∧ (s.lane .l0).barrierX.state = .down
        ∧ (s.laneReading .l0).status = .valid ∧ (s.laneReading .l0).stable = true
        ∧ (s.laneReading .l0).w < 20 * ((s.laneReading .l0).division : Int))
    ∧ ((inState .weighing ready).lane .l0).state = .weighing ∧ ((inState .retreating ready).lane .l0).state = .retreating := by
  decide +kernel

theorem witness_ClaimsAreGranted :
    (let s : State := { inState .admitting ready with claims := { d0 := [.l0], d1 := [] } };
      s.claimsCoherent = true ∧ s.nextGrant = some .l0
        ∧ ∀ d ∈ (s.laneSettings .l0).deck.decks, (s.deck d).cal.committed.intact = true)
    ∧ (ready.claimsCoherent = true ∧ ready.nextGrant = none)
    ∧ ((ready.laneSettings .l2).deck.decks = [.d1] ∧ (tandem.deck .d1).cal.committed.intact = false
      ∧ (tandem.laneSettings .l2).deck.decks = [.d1] ∧ (tandem.condition (calBadCondition .d1)).active = false
      ∧ (tandem.condition (calBadCondition .d1)).enable = true) := by
  decide +kernel

theorem witness_CapturesBeginAndTimeOut :
    ((0 : Byte).toNat = Lane.l0.toNat ∧ ready.Takes (req .s0) ∧ ¬((3 : Byte).toNat < 3) ∧ ¬((33 : Byte).toNat ≤ 32)
      ∧ ¬(1 ≤ (0 : Byte).toNat))
    ∧ (let s := onDeck 30380 true reservedEntry;
      s.Controls (req .s0) (.lane .l0) .lane ∧ (s.lane .l0).state = .onDeck ∧ (s.laneSettings .l0).direction = .inbound
        ∧ ((s.boundEntry? .l0).map fun e => e.weighings.length).getD 0 = 0)
    ∧ (let s := outbound (onDeck 30380 true (openEntry (some .l0) (List.replicate 4 (weighing 1 1))));
      s.Controls (req .s0) (.lane .l0) .lane ∧ (s.lane .l0).state = .onDeck ∧ (s.laneSettings .l0).direction = .outbound
        ∧ ((s.boundEntry? .l0).map fun e => e.weighings.length).getD 0 = 4 ∧ (1 : Byte).toNat = CaptureMode.intermediate.toNat
        ∧ (2 : Byte).toNat = CaptureMode.final.toNat)
    ∧ ((aboveMax.lane .l0).state = .weighing ∧ (aboveMax.lane .l0).capture ≠ none ∧ (ready.lane .l0).state ≠ .weighing
      ∧ ((inState .leaving ready).lane .l0).dwell ≠ none ∧ ((inState .leaving ready).lane .l0).state ≠ .weighing
      ∧ (ready.lane .l0).dwell = none) := by
  decide +kernel

/-- L0 in WEIGHING before a reading. -/
def weighingAt (w : Int) (stable : Bool) : State :=
  let s := onDeck w stable reservedEntry;
  s.setLane .l0 { (inState .weighing ready).lane .l0 with
    capture := some { mode := .first, sectionCode := none, origin := none, pending := .status } }

theorem witness_CapturesAreEvaluated :
    ((weighingAt 30380 true).lane .l0).capture ≠ none
    ∧ (∀ w ∈ [(399 : Int), 400, 60000, 60001], ((weighingAt w true).laneReading .l0).w = w
      ∧ ((weighingAt w true).laneReading .l0).status = .valid ∧ ((weighingAt w true).laneReading .l0).stable = true
      ∧ ((weighingAt w true).laneReading .l0).division = 20 ∧ ((weighingAt w true).laneReading .l0).capacity = 60000)
    ∧ ((weighingAt 400 true).lane .l0).eb = false ∧ ((weighingAt 400 true).lane .l0).xb = false
    ∧ ((weighingAt 400 true).condition .storeFault).latched = false ∧ (weighingAt 400 true).store.ordinaryFilled < 16
    ∧ 16 ≤ (filled (weighingAt 400 true)).store.ordinaryFilled
    ∧ ((weighingAt 400 false).laneReading .l0).stable = false ∧ (ready.laneReading .l0).status ≠ .valid := by
  decide +kernel

theorem witness_AdmissionChecksInOrder :
    ((arriving.laneSettings .l0).direction = .inbound ∧ arriving.inboundRefusal .l0 (Identity.ofTag 0x1A01) = none
      ∧ arriving.inboundRefusal .l0 (Identity.ofTag 0x1A09) = some .notRegistered)
    ∧ ({ arriving with index := { arriving.index with nextSeq := 4095 } }.inboundRefusal .l0 (Identity.ofTag 0x1A01) = none
      ∧ { arriving with index := { arriving.index with nextSeq := 4096 } }.inboundRefusal .l0 (Identity.ofTag 0x1A01) =
        some .journalFull)
    ∧ (let s := outbound (onSite (openEntry none [weighing 1 0]) arriving);
      (s.laneSettings .l0).direction = .outbound ∧ s.site.entries = [] ++ openEntry none [weighing 1 0] :: []
        ∧ (openEntry none [weighing 1 0]).state = .opened ∧ (openEntry none [weighing 1 0]).tag = some 0x1A01
        ∧ (openEntry none [weighing 1 0]).boundLane = none ∧ s.estop = false)
    ∧ (ready.settings.caps[31]? = some 0 ∧ ready.index.totals[31]? = some { today := 0, previous := 0 }) := by
  decide +kernel

theorem witness_VehiclesAreAdmitted :
    ((0 : Byte).toNat = Lane.l0.toNat ∧ AdmitFields.ok (fields (some 0x1A01)) = true
      ∧ AdmitFields.ok { fields none with waste := some 33 } = false ∧ ready.Takes (req .s0)
      ∧ arriving.Controls (req .s0) (.lane .l0) .lane ∧ (fields (some 0x1A01)).ticket = 0
      ∧ (arriving.lane .l0).state = .idle ∧ (arriving.lane .l0).al = true
      ∧ arriving.admitRefusal .l0 (AdmitFields.identity (fields (some 0x1A01))) = none
      ∧ arriving.admitRefusal .l0 (AdmitFields.identity (fields none)) = some .noWasteCode)
    ∧ ((0x1A01 : Tag) ≠ 0 ∧ State.reset.phase.rank < 1 ∧ 1 ≤ arriving.phase.rank ∧ arriving.attending.get .l0 = none
      ∧ (arriving.laneSettings .l0).tagAdmission = true ∧ (arriving.lane .l0).lastRefused ≠ some 0x1A01
      ∧ arriving.admitRefusal .l0 (Identity.ofTag 0x1A01) = none ∧ (attendedLane.lane .l0).state = .idle
      ∧ attendedLane.attending.get .l0 ≠ none ∧ (refusedTag.lane .l0).lastRefused = some 0x1A01
      ∧ (ready.lane .l0).state ≠ .idle) := by
  decide +kernel

theorem witness_WeighingsAreApplied :
    ((weighingAt 30380 true).boundEntry? .l0 = some reservedEntry
      ∧ ((weighingAt 30380 true).laneSettings .l0).storedTare = false)
    ∧ (let s := weighingAt 32600 true;
      let t := { s with settings := { s.settings with lanes := { s.settings.lanes with
        l0 := { LaneSettings.defaults .d0 .inbound with storedTare := true } } } };
      t.boundEntry? .l0 = some reservedEntry ∧ (t.laneSettings .l0).storedTare = true
        ∧ (t.laneSettings .l0).direction = .inbound ∧ reservedEntry.kind = .delivery ∧ reservedEntry.tag = some 0x1A01
        ∧ t.vehicle? 0x1A01 = some (vehicle 0 0x1A01) ∧ (vehicle 0 0x1A01).data.tare = some ⟨12200, 1000000, 30⟩
        ∧ t.clock.count < 1000000 + 30 * 86400
        ∧ (12200 : Int) ≤ (t.laneReading .l0).w - 20 * ((t.laneReading .l0).division : Int))
    ∧ closing.boundEntry? .l0 = some (openEntry (some .l0) [weighing 30380 0, weighing 21140 7]) := by
  decide +kernel

theorem witness_SectionsAreCredited :
    (closing.index.totals.length = 32 ∧ (∀ t ∈ closing.index.totals, t.today ≤ 4294967295)
      ∧ entry88411.kind = .delivery ∧ entry88411.close = .normal ∧ closing.index.totals[31]? = some ⟨0, 0⟩
      ∧ closing.index.totals[0]? = some ⟨0, 0⟩)
    ∧ (closed.index.totals[11]? = some ⟨160680, 0⟩ ∧ closed.settings.caps[11]? = some 160000
      ∧ closed.tickets.capNotice[11]? = some true ∧ closing.tickets.capNotice[11]? = some false) := by
  decide +kernel

theorem witness_TicketsAreVoidedEditedArchived :
    (let s := onSite (openEntry none [weighing 1 0]) ready;
      s.Takes (req .s0) ∧ s.Controls (req .s0) .yard .ticket ∧ (88411 : BitVec 32) ≠ 0
        ∧ s.siteByTicket? 88411 = some (openEntry none [weighing 1 0]) ∧ s.slotFree = true
        ∧ (openEntry none [weighing 1 0]).state = .opened ∧ (∀ x ∈ [TicketChange.waste 32], TicketChange.ok x = true)
        ∧ (∃ x ∈ [TicketChange.waste 33], TicketChange.ok x = false)
        ∧ (∀ e ∈ s.site.entries, e.state ≠ .reserved → e.ticket ≠ 1)
        ∧ (filled s).Controls (req .s0) .yard .ticket ∧ (filled s).slotFree = false
        ∧ 59999 < s.index.archivedSeq ∧ s.index.archivedSeq ≤ 60000 ∧ 61902 ≤ s.index.nextSeq ∧ s.index.nextSeq < 61903)
    ∧ (let s := onSite { openEntry none [weighing 1 0] with state := .suspect } ready;
      s.Controls (req .s0) .yard .ticket
        ∧ s.siteByTicket? 88411 = some { openEntry none [weighing 1 0] with state := .suspect })
    ∧ (let s := onSite (openEntry (some .l0) [weighing 1 0]) ready;
      s.siteByTicket? 88411 = some (openEntry (some .l0) [weighing 1 0]) ∧ s.Controls (req .s0) (.lane .l0) .ticket)
    ∧ (256 < ({ ready with index := { ready.index with nextSeq := 3839 } } : State).freeCapacity
      ∧ ({ ready with index := { ready.index with nextSeq := 3840 } } : State).freeCapacity ≤ 256
      ∧ ready.journalLow = false) := by
  decide +kernel

theorem witness_RegisterIsChanged :
    (let s := registered ready;
      RegFields.ok 0x1A04 newVehicle = true ∧ RegFields.ok 0 newVehicle = false ∧ s.Takes (req .s0)
        ∧ s.Controls (req .s0) .yard .register ∧ (∃ v ∈ s.vehicles, v.data.tag = 0x1A03)
        ∧ (∀ v ∈ s.vehicles, v.data.tag ≠ 0x1A04) ∧ (∀ v ∈ s.vehicles, v.slot ≠ 1)
        ∧ (∀ n < 1, ∃ v ∈ s.vehicles, v.slot = n) ∧ s.clock.set = true ∧ s.slotFree = true
        ∧ newVehicle.tare ≠ none ∧ keyed s.vehicles = true)
    ∧ (let s := onSite reservedEntry (registered ready);
      s.Controls (req .s0) .yard .register ∧ vehicle 0 0x1A01 ∈ s.vehicles ∧ (vehicle 0 0x1A01).data.tag = 0x1A01
        ∧ keyed s.vehicles = true ∧ (∃ x ∈ s.site.entries, x.tag = some 0x1A01)
        ∧ (∀ x ∈ s.site.entries, x.tag ≠ some 0x1A02) ∧ (∀ x ∈ [RegChange.waste none, .kind 1], RegChange.ok x = true)
        ∧ (∃ x ∈ [RegChange.kind 2], RegChange.ok x = false) ∧ (0x1A01 : Tag) ≠ 0)
    ∧ (let s := filled { registered ready with clock := { count := 0, set := false } };
      s.Controls (req .s0) .yard .register ∧ s.clock.set = false ∧ s.slotFree = false) := by
  decide +kernel

/-- A full register: 512 entries. -/
theorem witness_RegisterIsChanged_full :
    ∀ n < 512, ∃ v ∈ (List.range 512).map (fun i => vehicle i (BitVec.ofNat 64 (i + 1))), v.slot = n :=
  fun n h => ⟨vehicle n (BitVec.ofNat 64 (n + 1)), List.mem_map.2 ⟨n, List.mem_range.2 h, rfl⟩, rfl⟩

theorem witness_AreasAreLoaded :
    State.reset.phase = .loading .configuration ∧ (∀ l, (State.reset.lane l).state = .closed)
      ∧ ready.phase ≠ .loading .configuration
      ∧ (after (.configAreaLoaded [] pins) State.reset).phase = .loading .calibration
      ∧ Settings.ofBytes? [] = none := by
  and_intros <;> first | decide +kernel | exact every_lane (by decide +kernel)

theorem witness_RegistersAreLoadedToReady :
    (after (.calibrationLoaded [] []) (after (.configAreaLoaded [] pins) State.reset)).phase = .loading .vehicle
      ∧ (List.replicate 512 ([] : List Byte)).length = 512 ∧ (List.replicate 64 ([] : List Byte)).length = 64
      ∧ loaded.phase = .loading .indexTotals ∧ IndexTotals.ofBytes? [] = none
      ∧ (after (.indexTotalsLoaded []) loaded).phase = .loading .journal
      ∧ recovering.phase = .loading .counter ∧ recovering.store.queue = []
      ∧ (∀ l, (recovering.lane l).state = .closed) := by
  and_intros <;> first | decide +kernel | exact every_lane (by decide +kernel)

theorem witness_NoBarrierMovesUnderEstop :
    (after (.estopInputChange true) (lowering 2)).estopSafe = true ∧ (after (.estopInputChange true) (lowering 2)).estop = true
      ∧ step { after (.estopInputChange true) (lowering 2) with pending := [.clockTick] } =
        .next (after .clockTick (after (.estopInputChange true) (lowering 2))) :=
  ⟨by decide +kernel, by decide +kernel, rfl⟩

theorem witness_BlocksStayCoherent :
    (aboveMax.lanesCoherent = true ∧ editing.decksCoherent = true ∧ aboveMax.decksCoherent = true
        ∧ aboveMax.noticesBounded = true ∧ aboveMax.quietUntilReady = true)
      ∧ step { aboveMax with pending := [.settleTimeout .l0] } = .next (after (.settleTimeout .l0) aboveMax) :=
  ⟨by decide +kernel, rfl⟩

theorem witness_WriteQueueFits :
    ((filled ready).store.fits = true ∧ (filled ready).quietUntilReady = true)
      ∧ step { filled ready with pending := [.clockTick] } = .next (after .clockTick (filled ready)) :=
  ⟨by decide +kernel, rfl⟩

theorem witness_RegistersAndClaimsStayCoherent :
    (aboveMax.pendingOk = true ∧ aboveMax.quietUntilReady = true ∧ aboveMax.lanesCoherent = true
        ∧ keyed aboveMax.vehicles = true ∧ aboveMax.siteCoherent = true ∧ aboveMax.claimsCoherent = true)
      ∧ step { aboveMax with pending := [.settleTimeout .l0] } = .next (after (.settleTimeout .l0) aboveMax) :=
  ⟨by decide +kernel, rfl⟩

/-! ### The memory port, the wire form, free values, and boundary witnesses -/

/-- `s` with one journal read being served (R152). -/
def readingPort (s : State) : State :=
  { s with store := { s.store with serving := [group false [{ seq := 1, got := none }]] } }

/-- R147, R152: an item that joins while reads are served begins its first attempt after them. -/
theorem test_item_waits_for_the_port :
    let s := (readingPort ready).enqueue [.counter 7]
    s.store.state = .idle ∧ s.store.current = some { index := 0, attempt := 1 } ∧ after .attemptStart s = s
      ∧ (after (.journalReadDone []) s).store.state = .writing ∧ (ready.enqueue [.counter 7]).store.state = .writing := by
  decide +kernel

/-- R150, R152: so does the attempt of a STORE_RETRY. -/
theorem test_retry_waits_for_the_port :
    let s := after (.storeRetry (req .s0)) (readingPort failed)
    s.store.state = .fault ∧ s.store.current = some { index := 0, attempt := 1 }
      ∧ (s.condition .storeFault).active = false ∧ (after (.journalReadDone []) s).store.state = .writing
      ∧ (after (.journalReadDone []) (readingPort failed)).store.state = .fault := by
  decide +kernel

/-- R165 step 1 before the decision: ARCHIVE beyond next_seq from S2, which has WATCH, is RANGE; within it, NOT_PERMITTED. -/
theorem test_archive_range_first :
    answer (.archive (req .s2) 61903) .s2 (onSite reservedEntry ready) = some .range
      ∧ answer (.archive (req .s2) 61902) .s2 (onSite reservedEntry ready) = some .notPermitted := by
  decide +kernel

/-- R98, R101, R187: the bytes of a weighing on D0 (30,380 kg, L0, 2,400,000, counter 41, no section code), and the end of a
STORED_TARE weighing of section code 7. -/
theorem test_weighing_bytes :
    Wire.weighing (weighing 30380 0) = [0, 0, 0x76, 0xAC, 0, 0, 0, 0x24, 0x9F, 0, 1, 0, 0x29, 0, 0]
      ∧ (Wire.weighing { weighing 12200 7 with source := .storedTare }).drop 10 = [0, 0, 1, 7] := by
  decide +kernel

/-- The results that the manual does not give are the free values of `Config`. -/
theorem test_free_values :
    roundedWeight 5 0 = Config.weightOfNoDivision 5 ∧ filteredWeight 7 [] = Config.meanOfNone 7
      ∧ spread 7 [] = Config.spreadOfNone 7 :=
  ⟨rfl, rfl, rfl⟩

theorem witness_JournalReadsAnswer_port :
    (let s := (readingPort ready).enqueue [.counter 7];
      s.store.serving = [group false [{ seq := 1, got := none }]] ∧ s.store.state = .idle ∧ s.store.current ≠ none)
    ∧ (let s := after (.storeRetry (req .s0)) (readingPort failed);
      s.store.state = .fault ∧ s.store.current = some { index := 0, attempt := 1 })
    ∧ (readingPort failed).store.current = some { index := 0, attempt := 3 } ∧ ready.store.serving = [] := by
  decide +kernel

theorem witness_AttemptsProgress_port :
    (ready.store.state = .idle ∧ ready.store.queue = [] ∧ ready.store.serving = [] ∧ (readingPort ready).store.serving ≠ [])
    ∧ (filled ready).store.queue ≠ []
    ∧ ((readingPort failed).Controls (req .s0) .yard .yard ∧ (readingPort failed).store.state = .fault
      ∧ (readingPort failed).store.current = some { index := 0, attempt := 3 }) := by
  decide +kernel

theorem witness_EditsAreStaged_range : 2 ≤ (2 : Byte).toNat ∧ 2 ≤ (255 : Byte).toNat ∧ ready.Takes (req .s0) := by
  decide +kernel

/-- A barrier on its way up, from DOWN or not. -/
def risingBarrier (down : Bool) : Barrier := { downBarrier with state := .rising, downLimit := down, travel := some 6 }

theorem witness_LimitsMoveBarriers_moving :
    1 ≤ (laneWith (risingBarrier false)).phase.rank
    ∧ (∀ b ∈ [risingBarrier true, risingBarrier false], ((laneWith b).lane .l0).barrier .a = b ∧ b.state = .rising)
    ∧ ({ risingBarrier false with downLimit := true } ≠ risingBarrier false ∧ (risingBarrier false).upLimit = false)
    ∧ ({ risingBarrier true with downLimit := false } ≠ risingBarrier true)
    ∧ ({ risingBarrier false with upLimit := true } ≠ risingBarrier false ∧ (risingBarrier false).downLimit = false)
    ∧ ({ fallingBarrier 0 with upLimit := true } ≠ fallingBarrier 0 ∧ (fallingBarrier 0).downLimit = false)
    ∧ ({ { downBarrier with upLimit := true } with upLimit := false } ≠ { downBarrier with upLimit := true })
    ∧ ({ { upBarrier with downLimit := true } with downLimit := false } ≠ { upBarrier with downLimit := true }) := by
  decide +kernel

/-- `tandem` with the record of D0 failing its check too, or CAL_BAD_D1 already active, or its enable clear. -/
def tandemBoth : State :=
  { tandem with decks := { tandem.decks with
      d0 := { deckUp with cal := { deckUp.cal with committed := { record with checksum := 0 } } } } }
def tandemWith (c : CondState) : State := { tandem with conditions := tandem.conditions.set .calBad1 c }

theorem witness_ClaimsAreGranted_failing :
    (tandem.laneSettings .l3).deck.decks = [.d0, .d1]
    ∧ (tandem.laneSettings .l3).deck.decks.filter (fun d => !(tandem.deck d).cal.committed.intact) = [.d1]
    ∧ (tandemBoth.laneSettings .l3).deck.decks.filter (fun d => !(tandemBoth.deck d).cal.committed.intact) = [.d0, .d1]
    ∧ ((tandemWith { active := true, latched := true, enable := true }).condition (calBadCondition .d1)).active = true
    ∧ ((tandemWith { active := false, latched := false, enable := false }).condition (calBadCondition .d1)).enable = false := by
  decide +kernel

/-- R34: both decks of a tandem claim fail: two notices, D0 first, then the lanes of both queues are held, L0 first. -/
theorem test_both_decks_fail :
    told .s2 (tandemBoth.takeGrant .l3) = [(.deckOut, 0), (.deckOut, 0), (.laneHold, 5 + 8 * 2), (.laneHold, 5 + 8 * 2)]
      ∧ told .s2 ((tandemWith { active := false, latched := false, enable := false }).takeGrant .l3) =
        [(.laneHold, 5 + 8 * 2)]
      ∧ ((tandemWith { active := true, latched := false, enable := true }).takeGrant .l3).conditions.calBad1 =
        { active := true, latched := false, enable := true } := by
  decide +kernel

/-- L0 in ON_DECK with the armed flag set and nothing else in the way of an auto-capture (R94). -/
def armedOnDeck (weighings : Nat) : State :=
  let s := onDeck 30380 false (openEntry (some .l0) (List.replicate weighings (weighing 1 1)))
  s.setLane .l0 { s.lane .l0 with armed := true }

theorem witness_CapturesBeginAndTimeOut_auto :
    let due := fun (s : State) => decide ((s.lane .l0).state = .onDeck) && (s.laneSettings .l0).autoCapture
      && (s.lane .l0).armed && (s.attending.get .l0).isNone && ((s.boundEntry? .l0).any fun e => decide (e.weighings.length < 5))
    due (armedOnDeck 0) = true ∧ due (armedOnDeck 4) = true ∧ due (armedOnDeck 5) = false ∧ due ready = false
      ∧ due { armedOnDeck 0 with attending := { l0 := some .s1, l1 := none, l2 := none, l3 := none } } = false
      ∧ ((armedOnDeck 0).laneSettings .l0).direction = .inbound
      ∧ ((outbound (armedOnDeck 4)).laneSettings .l0).direction = .outbound ∧ due (outbound (armedOnDeck 4)) = true := by
  decide +kernel

/-- R94: the mode follows the direction, the origin is AUTO; the unstable reading leaves MOTION pending. -/
theorem test_auto_capture :
    (((armedOnDeck 0).autoCapture .l0).lane .l0).capture =
        some { mode := .first, sectionCode := none, origin := none, pending := .motion }
      ∧ (((outbound (armedOnDeck 4)).autoCapture .l0).lane .l0).capture =
        some { mode := .final, sectionCode := none, origin := none, pending := .motion }
      ∧ (armedOnDeck 5).autoCapture .l0 = armedOnDeck 5 := by
  decide +kernel

theorem witness_CapturesAreEvaluated_deck :
    (ready.laneSettings .l0).deck.decks = [.d0] ∧ (tandem.laneSettings .l3).deck = .both
      ∧ (aboveMax.lane .l0).capture ≠ none ∧ (ready.lane .l0).capture = none := by
  decide +kernel

theorem witness_SectionsAreCredited_caps :
    entry88411.kind = .delivery ∧ entry88411.close = .normal ∧ ({ entry88411 with kind := .collection } : JournalEntry).kind =
        .collection
      ∧ (closed.index.totals[31]?.map fun t => decide (t.today < 4294967296)) = some true
      ∧ closed.settings.caps[31]? = some 0 ∧ closed.tickets.capNotice[31]? = some false := by
  decide +kernel

/-- Vehicle slots 0 and 1 good under one tag, slot 2 an empty mark, slots 3 and 4 without a good check. -/
def vehicleSlots : List (List Byte) :=
  [vehicleSlotBytes (some (vehicle 0 0x1A01).data), vehicleSlotBytes (some (vehicle 1 0x1A01).data), vehicleSlotBytes none]
    ++ [[], []]

/-- R117: the lower of two slots of one tag is loaded, the other and those of no good check are dropped and counted. -/
theorem test_vehicle_slots :
    (after (.vehicleRegisterLoaded vehicleSlots) { ready with phase := .loading .vehicle }).vehicles = [vehicle 0 0x1A01]
      ∧ (after (.vehicleRegisterLoaded vehicleSlots) { ready with phase := .loading .vehicle }).startup.vehiclesDropped = 3 := by
  decide +kernel

/-- R121: a slot without its check bytes is SUSPECT with its fields as they are; one of no bytes is dropped and counted. -/
theorem test_site_slots :
    let bs := (siteSlotBytes (some (openEntry none [weighing 30380 0]))).take 94
    let s := after (.siteRegisterLoaded [bs, []]) { ready with phase := .loading .site }
    s.site.entries = [{ openEntry none [weighing 30380 0] with slot := 0, state := .suspect }] ∧ s.startup.siteDropped = 1
      ∧ siteFieldsOk bs = true ∧ s.site.nextOrdinal = 215 := by
  decide +kernel

theorem witness_RegistersAreLoadedToReady_recovery :
    recovering.startup.uncredited = some entry88411 ∧ State.reset.startup.uncredited = none
      ∧ recovering.startup.indexGood = true ∧ State.reset.startup.indexGood = false
      ∧ counterOf? (counterBytes 88411) = some 88411 ∧ counterOf? [] = none
      ∧ (State.reset.laneSettings .l0).openAtStart = false := by
  decide +kernel

/-- Every case of R165 step 1 with step 2 or 3 behind it: the operands inside their sets, and one of each kind outside them. -/
theorem witness_AuthorityAndAttendanceHold_sets :
    ready.Takes (req .s0)
    ∧ (∀ c ∈ [Instr.hold (req .s0) 4, .hold (req .s0) 255, .barrierClear (req .s0) 3 2, .calCommit (req .s0) 2,
        .configRead (req .s0) 4, .regRemove (req .s0) 0, .readTicket (req .s0) 0, .regRead (req .s0) 0 9,
        .setConditionEnable (req .s0) 4 1, .calWrite (req .s0) 1 [], .archive (req .s0) 61903],
        c.inSets (onSite reservedEntry ready) = false)
    ∧ (∀ c ∈ [Instr.hold (req .s0) 3, .barrierClear (req .s0) 3 1, .calCommit (req .s0) 1, .configRead (req .s0) 3,
        .regRemove (req .s0) 1, .readTicket (req .s0) 1, .regRead (req .s0) 0 8, .setConditionEnable (req .s0) 3 1,
        .archive (req .s0) 61902], c.inSets (onSite reservedEntry ready) = true)
    ∧ (Instr.zero (req .s1) 0).inSets ready = true ∧ (Instr.readTotals (req .s2)).inSets (shut ready) = true
    ∧ (Instr.hold (req .s0) 0).inSets attendedLane = true := by
  decide +kernel

/-- The first bytes outside the lanes, the barriers and the decks, on a port that takes a request. -/
theorem witness_lane_and_deck_bytes :
    ready.Takes (req .s0) ∧ 4 ≤ (4 : Byte).toNat ∧ 4 ≤ (255 : Byte).toNat ∧ ¬4 ≤ (3 : Byte).toNat ∧ 2 ≤ (2 : Byte).toNat
      ∧ ¬2 ≤ (1 : Byte).toNat := by
  decide +kernel

/-- R165 step 1: a lane, barrier or deck byte outside its set is RANGE, from a station without the decision too. -/
theorem test_identities_outside_their_sets :
    (∀ c ∈ [Instr.openLane (req .s2) 4, .closeLane (req .s2) 4, .hold (req .s2) 255, .resume (req .s2) 4, .sendBack (req .s2) 4,
      .laneReset (req .s2) 4, .capture (req .s2) 4 none none, .attend (req .s2) 4, .attendEnd (req .s2) 255,
      .barrierRaise (req .s2) 0 2, .barrierLower (req .s2) 4 0, .barrierClear (req .s2) 3 255, .calCommit (req .s2) 2,
      .admitVehicle (req .s2) 4 { tag := none, ticket := 0, kind := none, waste := none, account := none, hazard := none }],
      answer c .s2 ready = some .range)
    ∧ answer (.hold (req .s2) 3) .s2 ready = some .notPermitted := by
  decide +kernel

/-- `armedOnDeck` with lane L0 attended by S1. -/
def attendedOnDeck : State :=
  { armedOnDeck 0 with attending := { l0 := some .s1, l1 := none, l2 := none, l3 := none } }

/-- R171, R94: a break of the attending station's port ends the attendance, and the lane in ON_DECK begins its auto-capture; so
does the write of windows that leaves the station WATCH over the lane. -/
theorem test_attendance_ends_on_deck :
    ((attendedOnDeck.autoCapture .l0).lane .l0).state = .onDeck
      ∧ ((after (.portReset .s1) attendedOnDeck).lane .l0).state = .weighing
      ∧ (after (.portReset .s1) attendedOnDeck).attending.l0 = none
      ∧ (let s := after (.configWriteWindows (req .s0) .s1 (List.replicate 8 (window 0 0 0 1))) attendedOnDeck;
        (s.lane .l0).state = .weighing ∧ s.attending.l0 = none) := by
  decide +kernel

theorem witness_attendance_on_deck :
    attendedOnDeck.attending.get .l0 = some .s1 ∧ (attendedOnDeck.lane .l0).state = .onDeck
      ∧ attendedOnDeck.Controls (req .s0) .yard .yard ∧ attendedOnDeck.slotFree = true
      ∧ (let ws := List.replicate 8 { enabled := false, scopes := 0, classes := 0, access := .watch };
        windowsOf? (List.replicate 8 (window 0 0 0 1)) = some ws ∧ windowAccess ws (.lane .l0) .lane ≠ .control
          ∧ windowAccess ((attendedOnDeck.settings.windows.set .s1 ws).get .s0) .yard .yard = .control) := by
  decide +kernel

end Sys2Proof.Tests
end

section
/-! The calibration table (chapter 2): READ_CAL and CAL_COMMIT settled, from how a block's answer leaves a request, what a DECK
class request asks first, and what each function of the staged edit gives. -/

namespace Sys2Proof.Machine

/-! ### How a block's answer leaves a request -/

section Answers

variable {s t : State} {r : Req} {code : Byte} {anyPhase : Bool} {handler : Handler}

/-- A block that answers and changes nothing. -/
theorem State.takeRequest_answered (h : s.Takes r) {result : Result} {clamped : Bool} {body : RespBody}
    (hk : handler (s.heard r.station) = (s.heard r.station, .reply result clamped body)) :
    s.takeRequest r code anyPhase handler = s.answered r code result clamped body :=
  s.takeRequest_replied (t := s.heard r.station) r code anyPhase handler h hk rfl

/-- A block that refuses. -/
theorem State.takeRequest_refused (h : s.Takes r) {result : Result}
    (hk : handler (s.heard r.station) = (s.heard r.station, .plain result)) :
    s.takeRequest r code anyPhase handler = s.refusedWith r code result :=
  State.takeRequest_answered h hk

/-- A block that takes a request and answers OK without a body. -/
theorem State.takeRequest_acked (h : s.Takes r) (hk : handler (s.heard r.station) = (t, .plain .ok)) :
    s.takeRequest r code anyPhase handler = t.acked r code := by
  rw [s.takeRequest_takes r code anyPhase handler h, hk]
  rfl

end Answers

/-! ### The operands and the decision of a DECK class request (R165) -/

theorem Deck.ofNat?_of_eq {n : Nat} {d : Deck} (h : n = d.toNat) : Deck.ofNat? n = some d := by
  subst h
  cases d <;> rfl

theorem Deck.ofNat?_of_two_le {n : Nat} (h : 2 ≤ n) : Deck.ofNat? n = none := by
  match n, h with
  | _ + 2, _ => rfl

theorem copyOfNat?_of_two_le {n : Nat} (h : 2 ≤ n) : copyOfNat? n = none := by
  match n, h with
  | _ + 2, _ => rfl

theorem deckControl_out {r : Req} {b : Byte} (h : 2 ≤ b.toNat) (k : Deck → Handler) :
    deckControl r b k = refuse .range :=
  withDeck_none (Deck.ofNat?_of_two_le h) _

/-- A DECK class request whose station has CONTROL comes to its own checks. -/
theorem deckControl_passes {s : State} {r : Req} {b : Byte} {d : Deck} (hb : b.toNat = d.toNat)
    (h : s.Controls r .yard .deck) (k : Deck → Handler) :
    deckControl r b k (s.heard r.station) = k d (s.heard r.station) := by
  obtain ⟨_, control, attended⟩ := h
  unfold deckControl
  rw [withDeck_some (Deck.ofNat?_of_eq hb)]
  exact needControl_passes _ _ _ _ control attended

/-! ### What a notice depends on -/

/-- Decisions go by the windows and the seal position alone. -/
theorem State.decision_congr {s t : State} (settings : t.settings = s.settings) (position : t.sealOpen = s.sealOpen)
    (st : Station) (scope : Scope) (cls : Cls) : t.decision st scope cls = s.decision st scope cls := by
  unfold State.decision
  rw [settings, position]

/-- Routing goes by the decisions and the queues alone. -/
theorem State.announced_congr {s t : State} (settings : t.settings = s.settings) (position : t.sealOpen = s.sealOpen)
    (notices : t.notices = s.notices) (ns : List Notice) : t.announced ns = s.announced ns := by
  unfold State.announced
  simp only [State.decision_congr settings position, notices]

/-- A notice's level goes by the settings, its time by the clock. -/
theorem State.notice_congr {s t : State} (settings : t.settings = s.settings) (clock : t.clock = s.clock)
    (kind : NoticeKind) (lane : Option Lane) (deck : Option Deck) (ticket detail : Nat) (values : List Int) :
    t.notice kind lane deck ticket detail values = s.notice kind lane deck ticket detail values := by
  unfold State.notice
  rw [settings, clock]

/-- A notice raised late in an event joins the queues as it would at the event's start, when what it depends on has stayed. -/
theorem State.raiseNotice_eq {s t : State} (settings : t.settings = s.settings) (position : t.sealOpen = s.sealOpen)
    (notices : t.notices = s.notices) (clock : t.clock = s.clock) (kind : NoticeKind) (lane : Option Lane)
    (deck : Option Deck) (ticket detail : Nat) (values : List Int) :
    t.raiseNotice kind lane deck ticket detail values =
      { t with notices := s.announced [s.notice kind lane deck ticket detail values] } := by
  rw [← State.announced_congr settings position notices, ← State.notice_congr settings clock]
  rfl

@[simp] theorem State.sealOpen_deactivate_calBad (s : State) (d : Deck) :
    (s.deactivate (calBadCondition d)).sealOpen = s.sealOpen := by
  cases d <;> rfl

/-! ### READ_CAL (R36) -/

/-- Outside CAL_EDIT a coherent deck has no pre-edit state. -/
theorem DeckCal.preEdit_eq_none {c : DeckCal} (h : c.coherent = true) (hs : c.state ≠ .calEdit) : c.preEdit = none := by
  unfold DeckCal.coherent at h
  simp only [Bool.and_eq_true, decide_eq_true_eq] at h
  obtain ⟨⟨_, preEdit⟩, _⟩ := h
  simpa [hs] using preEdit

/-- In CAL_EDIT a coherent deck has an edit copy. -/
theorem DeckCal.exists_edit {c : DeckCal} (h : c.coherent = true) (hs : c.state = .calEdit) : ∃ e, c.edit = some e := by
  unfold DeckCal.coherent at h
  simp only [Bool.and_eq_true, decide_eq_true_eq] at h
  obtain ⟨⟨edit, _⟩, _⟩ := h
  exact Option.isSome_iff_exists.1 (edit.2 hs)

/-- The report of the committed record, its pre-edit state given in CAL_EDIT alone. -/
theorem DeckCal.committedReport_eq {c : DeckCal} (h : c.coherent = true) :
    c.committedReport = {
      record := c.committed
      deckState := c.state
      preEdit := if c.state = .calEdit then c.preEdit else none
      matching := some (decide (crc16 c.committed.body = c.committed.checksum)) } := by
  have preEdit : c.preEdit = if c.state = .calEdit then c.preEdit else none := by
    split
    · rfl
    · exact DeckCal.preEdit_eq_none h ‹_›
  rw [← preEdit]
  rfl

section ReadCal

variable {s : State} {r : Req} {b copy : Byte} {d : Deck}

theorem execReadCal_range (h : s.Takes r) (out : 2 ≤ b.toNat ∨ 2 ≤ copy.toNat) :
    execReadCal r b copy s = .next (s.refusedWith r 0x12 .range) := by
  refine congrArg Host.Outcome.next (State.takeRequest_refused h ?_)
  cases hd : Deck.ofNat? b.toNat with
  | none => rw [withDeck_none hd]; rfl
  | some d =>
    have badCopy : 2 ≤ copy.toNat := out.resolve_left fun badDeck => by simp [Deck.ofNat?_of_two_le badDeck] at hd
    rw [withDeck_some hd, copyOfNat?_of_two_le badCopy]
    rfl

theorem execReadCal_notPermitted (h : s.Takes r) (hb : b.toNat = d.toNat) (hc : copy.toNat < 2)
    (hd : s.decision r.station .yard .deck = .none) :
    execReadCal r b copy s = .next (s.refusedWith r 0x12 .notPermitted) := by
  refine congrArg Host.Outcome.next (State.takeRequest_refused h ?_)
  have watch (k : Handler) : needWatch r.station .yard .deck k (s.heard r.station) = (s.heard r.station, .plain .notPermitted) :=
    needWatch_refused _ _ _ k hd
  rw [withDeck_some (Deck.ofNat?_of_eq hb)]
  obtain zero | one : copy.toNat = 0 ∨ copy.toNat = 1 := by omega
  · rw [zero]; exact watch _
  · rw [one]; exact watch _

theorem execReadCal_committed (h : s.Takes r) (hb : b.toNat = d.toNat) (hc : copy.toNat = 0)
    (hd : s.decision r.station .yard .deck ≠ .none) :
    execReadCal r b copy s =
      .next (s.answered r 0x12 .ok false (.calibration (s.deck d).cal.committedReport)) := by
  refine congrArg Host.Outcome.next (State.takeRequest_answered h ?_)
  rw [withDeck_some (Deck.ofNat?_of_eq hb), hc]
  exact needWatch_passes _ _ _ _ hd

theorem execReadCal_noEdit (h : s.Takes r) (hb : b.toNat = d.toNat) (hc : copy.toNat = 1)
    (hd : s.decision r.station .yard .deck ≠ .none) (hs : (s.deck d).cal.state ≠ .calEdit) :
    execReadCal r b copy s = .next (s.refusedWith r 0x12 .wrongState) := by
  refine congrArg Host.Outcome.next (State.takeRequest_refused h ?_)
  rw [withDeck_some (Deck.ofNat?_of_eq hb), hc]
  refine (needWatch_passes (s := s.heard r.station) _ _ _ _ hd).trans ?_
  simp only [State.heard_deck, if_true]
  split
  · exact absurd ‹_› hs
  · rfl

theorem execReadCal_edit {e : CalRecord} (h : s.Takes r) (hb : b.toNat = d.toNat) (hc : copy.toNat = 1)
    (hd : s.decision r.station .yard .deck ≠ .none) (hs : (s.deck d).cal.state = .calEdit)
    (he : (s.deck d).cal.edit = some e) :
    execReadCal r b copy s = .next (s.answered r 0x12 .ok false (.calibration ((s.deck d).cal.editReport e))) := by
  refine congrArg Host.Outcome.next (State.takeRequest_answered h ?_)
  rw [withDeck_some (Deck.ofNat?_of_eq hb), hc]
  refine (needWatch_passes (s := s.heard r.station) _ _ _ _ hd).trans ?_
  simp only [State.heard_deck, if_true, hs, he]
  rfl

end ReadCal

/-! ### CAL_COMMIT (R28, R29) -/

theorem State.editCopy?_of_calEdit {s : State} {d : Deck} (h : (s.deck d).cal.state = .calEdit) :
    s.editCopy? d = (s.deck d).cal.edit := if_pos h

theorem State.editCopy?_of_not_calEdit {s : State} {d : Deck} (h : (s.deck d).cal.state ≠ .calEdit) :
    s.editCopy? d = none := if_neg h

theorem CalRecord.crossOk_iff (e : CalRecord) :
    e.crossOk = true ↔ 0 < e.division ∧ e.division ∣ e.capacity ∧ e.capacity / e.division ≤ 10000 := by
  simp [CalRecord.crossOk, Nat.dvd_iff_mod_eq_zero, and_assoc]

section CommitRefusal

variable {s : State} {d : Deck} {e : CalRecord}

theorem State.commitRefusal_range (h : ¬(e.commitOk = true ∧ e.crossOk = true)) : s.commitRefusal d e = some .range := by
  unfold State.commitRefusal
  cases hr : e.commitOk with
  | false => rfl
  | true =>
    have cross : e.crossOk = false := by simpa [hr] using h
    rw [if_neg (by simp), if_pos cross]

theorem State.commitRefusal_of_ok (h : e.commitOk = true ∧ e.crossOk = true) :
    s.commitRefusal d e =
      if 65535 ≤ (s.deck d).cal.committed.counter then some .counterExhausted
      else if s.slotFree = false then some .storeBusy
      else none := by
  unfold State.commitRefusal
  rw [if_neg (by simp [h.1]), if_neg (by simp [h.2])]
  rfl

end CommitRefusal

/-- A commit changes the deck, the write queue, CAL_BAD_Dn and the notices; then the queues are examined. -/
theorem State.commit_eq (s : State) (d : Deck) (e : CalRecord) :
    s.commit d e =
      ({ s with
        decks := s.decks.set d { s.deck d with
          weight := { (s.deck d).weight with filter := [], stability := [], zero := 0, zeroLimit := false }
          cal := { state := .inService, preEdit := none, committed := commitRecord (s.deck d).cal.committed e, edit := none } }
        store := s.queuedWith [.calibration d (commitRecord (s.deck d).cal.committed e)]
        conditions := s.conditions.set (calBadCondition d) { s.condition (calBadCondition d) with active := false }
        notices := s.announced [s.notice .calCommitted none (some d) 0 0
          [((commitRecord (s.deck d).cal.committed e).counter : Int)]] } : State).examine := by
  refine congrArg State.examine (State.raiseNotice_eq (s := s) ?settings ?position ?notices ?clock ..)
  case position => exact State.sealOpen_deactivate_calBad _ d
  all_goals rfl

section CalCommit

variable {s : State} {r : Req} {b : Byte} {d : Deck} {e : CalRecord}

theorem execCalCommit_range (h : s.Takes r) (hb : 2 ≤ b.toNat) :
    execCalCommit r b s = .next (s.refusedWith r 0x16 .range) := by
  refine congrArg Host.Outcome.next (State.takeRequest_refused h ?_)
  rw [deckControl_out hb]
  rfl

theorem execCalCommit_wrongState (hb : b.toNat = d.toNat) (h : s.Controls r .yard .deck)
    (hs : (s.deck d).cal.state ≠ .calEdit) : execCalCommit r b s = .next (s.refusedWith r 0x16 .wrongState) := by
  refine congrArg Host.Outcome.next (State.takeRequest_refused h.1 ?_)
  rw [deckControl_passes hb h, State.editCopy?_of_not_calEdit (by simpa using hs)]

theorem execCalCommit_refused {reason : Result} (hb : b.toNat = d.toNat) (h : s.Controls r .yard .deck)
    (hs : (s.deck d).cal.state = .calEdit) (he : (s.deck d).cal.edit = some e)
    (hr : s.commitRefusal d e = some reason) : execCalCommit r b s = .next (s.refusedWith r 0x16 reason) := by
  refine congrArg Host.Outcome.next (State.takeRequest_refused h.1 ?_)
  have edit : (s.heard r.station).editCopy? d = some e := (State.editCopy?_of_calEdit hs).trans he
  have refusal : (s.heard r.station).commitRefusal d e = some reason := hr
  rw [deckControl_passes hb h, edit]
  simp only [refusal]

theorem execCalCommit_taken (hb : b.toNat = d.toNat) (h : s.Controls r .yard .deck)
    (hs : (s.deck d).cal.state = .calEdit) (he : (s.deck d).cal.edit = some e) (hr : s.commitRefusal d e = none) :
    execCalCommit r b s = .next (((s.heard r.station).commit d e).acked r 0x16) := by
  refine congrArg Host.Outcome.next (State.takeRequest_acked h.1 ?_)
  have edit : (s.heard r.station).editCopy? d = some e := (State.editCopy?_of_calEdit hs).trans he
  have refusal : (s.heard r.station).commitRefusal d e = none := hr
  rw [deckControl_passes hb h, edit]
  simp only [refusal]

end CalCommit

/-! ### The statements -/

/-- Settles O14: the three answers of READ_CAL, the deck's coherence giving the pre-edit state and the edit copy. -/
theorem readCalAnswersTheRecord : Obligations.ReadCalAnswersTheRecord := by
  intro s r b copy takes
  refine ⟨execReadCal_range takes, fun d hb hc coherent => ⟨execReadCal_notPermitted takes hb hc, fun permitted => ?_⟩⟩
  refine ⟨fun committed => ?_, fun edit => execReadCal_noEdit takes hb edit permitted, fun edit inEdit => ?_⟩
  · rw [← DeckCal.committedReport_eq coherent]
    exact execReadCal_committed takes hb committed permitted
  · obtain ⟨e, he⟩ := DeckCal.exists_edit coherent inEdit
    refine ⟨e, he, (execReadCal_edit takes hb edit permitted inEdit he).trans ?_⟩
    rw [DeckCal.editReport, inEdit]

/-- Settles O32: the checks of R28 by what `commitRefusal` gives, and the effects of R29 by `State.commit_eq`. -/
theorem commitsTakeTheEdit : Obligations.CommitsTakeTheEdit := by
  refine ⟨fun s r b hb takes => execCalCommit_range takes hb, fun s r b d hb controls => ?_⟩
  refine ⟨execCalCommit_wrongState hb controls, fun e inEdit he => ?_⟩
  rw [← CalRecord.crossOk_iff]
  have refused {reason : Result} (hr : s.commitRefusal d e = some reason) := execCalCommit_refused hb controls inEdit he hr
  refine ⟨fun bad => refused (State.commitRefusal_range bad), fun good exhausted => ?_, fun good below busy => ?_,
    fun good below free record hrecord => ?_⟩
  · exact refused ((State.commitRefusal_of_ok good).trans (if_pos exhausted))
  · refine refused ((State.commitRefusal_of_ok good).trans ?_)
    rw [if_neg (by omega), if_pos busy]
  · have passes : s.commitRefusal d e = none := by
      rw [State.commitRefusal_of_ok good, if_neg (by omega), if_neg (by simp [free])]
    subst hrecord
    exact (execCalCommit_taken hb controls inEdit he passes).trans (by rw [State.commit_eq]; rfl)

end Sys2Proof.Machine
end

section
/-! The lane sequence (chapter 4): HOLD and the admission checks settled, from what a LANE class request asks first, what an
entry to HOLD leaves on the lane, and what a list of checks made in order answers. -/

namespace Sys2Proof.Machine

/-! ### The operands, the decision and the attendance of a LANE class request (R165, R170) -/

theorem Lane.ofNat?_of_eq {n : Nat} {l : Lane} (h : n = l.toNat) : Lane.ofNat? n = some l := by
  subst h
  cases l <;> rfl

theorem Lane.ofNat?_of_four_le {n : Nat} (h : 4 ≤ n) : Lane.ofNat? n = none := by
  match n, h with
  | _ + 4, _ => rfl

theorem State.attendedByOther_lane_iff {s : State} {st : Station} {l : Lane} :
    s.attendedByOther st (.lane l) = true ↔ ∃ other, s.attending.get l = some other ∧ other ≠ st := by
  simp [State.attendedByOther, Option.any_eq_true]

/-- A lane without attendance, or attended by the station itself, is not attended by another one. -/
theorem State.attendedByOther_lane_eq_false {s : State} {st : Station} {l : Lane}
    (h : s.attending.get l = none ∨ s.attending.get l = some st) : s.attendedByOther st (.lane l) = false := by
  rw [Bool.eq_false_iff, ne_eq, State.attendedByOther_lane_iff]
  rintro ⟨other, attended, differs⟩
  obtain free | own := h
  · simp [free] at attended
  · exact differs (Option.some.inj (attended.symm.trans own))

section LaneControl

variable {s : State} {r : Req} {b : Byte} {l : Lane}

theorem laneControl_out (h : 4 ≤ b.toNat) (k : Lane → Handler) : laneControl r b k = refuse .range :=
  withLane_none (Lane.ofNat?_of_four_le h) _

theorem laneControl_eq_needControl (hb : b.toNat = l.toNat) (k : Lane → Handler) :
    laneControl r b k = needControl r.station (.lane l) .lane (k l) :=
  withLane_some (Lane.ofNat?_of_eq hb) _

theorem laneControl_refused (hb : b.toNat = l.toNat) (h : s.decision r.station (.lane l) .lane ≠ .control)
    (k : Lane → Handler) : laneControl r b k (s.heard r.station) = (s.heard r.station, .plain .notPermitted) := by
  rw [laneControl_eq_needControl hb]
  exact needControl_refused _ _ _ _ h

theorem laneControl_attended {other : Station} (hb : b.toNat = l.toNat)
    (h : s.decision r.station (.lane l) .lane = .control) (attended : s.attending.get l = some other)
    (differs : other ≠ r.station) (k : Lane → Handler) :
    laneControl r b k (s.heard r.station) = (s.heard r.station, .plain .attended) := by
  rw [laneControl_eq_needControl hb]
  exact needControl_attended _ _ _ _ h (.inl rfl) (State.attendedByOther_lane_iff.2 ⟨other, attended, differs⟩)

/-- A LANE class request whose station has CONTROL and is not kept out by an attendance comes to its own checks. -/
theorem laneControl_passes (hb : b.toNat = l.toNat) (h : s.Controls r (.lane l) .lane) (k : Lane → Handler) :
    laneControl r b k (s.heard r.station) = k l (s.heard r.station) := by
  obtain ⟨_, control, attended⟩ := h
  rw [laneControl_eq_needControl hb]
  exact needControl_passes _ _ _ _ control attended

end LaneControl

/-! ### What an entry to HOLD leaves on the lane (R82) -/

/-- An abandoned capture leaves the lane in its state. -/
theorem State.abandon_lane_state (s : State) (l : Lane) (reason : CaptureReason) :
    ((s.abandon l reason).lane l).state = (s.lane l).state := by
  unfold State.abandon
  split
  · rfl
  · show ((s.setLane l _).lane l).state = _
    rw [State.lane_setLane, if_pos rfl]

/-- The lane of an entry to HOLD, a capture in progress abandoned before it. -/
theorem State.enterHold_lane (s : State) (l : Lane) (reason : HoldReason) :
    (s.enterHold l reason).lane l =
      ((s.abandon l (if reason = .estop then .estop else .held)).lane l).held reason :=
  (State.lane_setLane ..).trans (if_pos rfl)

theorem State.enterHold_heldFrom (s : State) (l : Lane) (reason : HoldReason) :
    ((s.enterHold l reason).lane l).heldFrom = some (s.lane l).state := by
  rw [State.enterHold_lane, ← s.abandon_lane_state l (if reason = .estop then .estop else .held)]
  rfl

/-! ### HOLD (R83) -/

theorem LaneState.timed_iff_mem {st : LaneState} :
    st.timed = true ↔
      st ∈ [LaneState.admitting, .entering, .positioning, .onDeck, .weighing, .leaving, .retreating, .clearing] := by
  cases st <;> decide

theorem LaneState.timed_eq_false_iff_mem {st : LaneState} :
    st.timed = false ↔ st ∈ [LaneState.closed, .idle, .hold] := by
  cases st <;> decide

theorem State.hold_of_timed {s : State} {l : Lane} (h : (s.lane l).state.timed = true) (reason : HoldReason) :
    s.hold l reason = s.enterHold l reason := by
  apply State.hold_timed <;> intro untimed <;> simp [untimed, LaneState.timed] at h

section Hold

variable {s : State} {r : Req} {b : Byte} {l : Lane}

theorem execHold_range (h : s.Takes r) (hb : 4 ≤ b.toNat) : execHold r b s = .next (s.refusedWith r 0x25 .range) := by
  refine congrArg Host.Outcome.next (State.takeRequest_refused h ?_)
  rw [laneControl_out hb]
  rfl

theorem execHold_notPermitted (h : s.Takes r) (hb : b.toNat = l.toNat)
    (hd : s.decision r.station (.lane l) .lane ≠ .control) :
    execHold r b s = .next (s.refusedWith r 0x25 .notPermitted) :=
  congrArg Host.Outcome.next (State.takeRequest_refused h (laneControl_refused hb hd _))

theorem execHold_attended {other : Station} (h : s.Takes r) (hb : b.toNat = l.toNat)
    (hd : s.decision r.station (.lane l) .lane = .control) (attended : s.attending.get l = some other)
    (differs : other ≠ r.station) : execHold r b s = .next (s.refusedWith r 0x25 .attended) :=
  congrArg Host.Outcome.next (State.takeRequest_refused h (laneControl_attended hb hd attended differs _))

theorem execHold_wrongState (h : s.Controls r (.lane l) .lane) (hb : b.toNat = l.toNat)
    (hs : (s.lane l).state.timed = false) : execHold r b s = .next (s.refusedWith r 0x25 .wrongState) := by
  refine congrArg Host.Outcome.next (State.takeRequest_refused h.1 ((laneControl_passes hb h _).trans ?_))
  exact if_neg (by simp [hs])

theorem execHold_taken (h : s.Controls r (.lane l) .lane) (hb : b.toNat = l.toNat)
    (hs : (s.lane l).state.timed = true) :
    execHold r b s = .next (((s.heard r.station).hold l .station).acked r 0x25) := by
  refine congrArg Host.Outcome.next (State.takeRequest_acked h.1 ((laneControl_passes hb h _).trans ?_))
  exact if_pos hs

end Hold

/-! ### Checks made in order -/

/-- `answer` is what a list of checks made in its order gives: none when every check holds, and otherwise the reason of the
first that fails. -/
def FirstFailing (checks : List (Result × Prop)) (answer : Option Result) : Prop :=
  ((∀ x ∈ checks, x.2) → answer = none)
  ∧ ∀ (n : Nat) (reason : Result) (p : Prop), checks[n]? = some (reason, p) → ¬p →
    (∀ m < n, ∀ x, checks[m]? = some x → x.2) → answer = some reason

theorem FirstFailing.nil : FirstFailing [] none := ⟨fun _ => rfl, by simp⟩

/-- One more check in front: a failing one gives its reason, behind one that holds the others go on. -/
theorem FirstFailing.cons {reason : Result} {p : Prop} {checks : List (Result × Prop)} {answer : Option Result}
    (fails : ¬p → answer = some reason) (holds : p → FirstFailing checks answer) :
    FirstFailing ((reason, p) :: checks) answer := by
  refine ⟨fun all => ?_, fun n other q at_n failing before => ?_⟩
  · obtain ⟨first, others⟩ := List.forall_mem_cons.1 all
    exact (holds first).1 others
  · cases n with
    | zero =>
      obtain ⟨rfl, rfl⟩ : reason = other ∧ p = q := by simpa using at_n
      exact fails failing
    | succ n =>
      have first : p := before 0 n.succ_pos (reason, p) rfl
      exact (holds first).2 n other q at_n failing fun m below x at_m => before (m + 1) (Nat.succ_lt_succ below) x at_m

/-- A check made by a test for its failure. -/
theorem FirstFailing.ite {reason : Result} {p failing : Prop} [Decidable failing] {checks : List (Result × Prop)}
    {rest : Option Result} (test : failing ↔ ¬p) (others : FirstFailing checks rest) :
    FirstFailing ((reason, p) :: checks) (if failing then some reason else rest) :=
  .cons (fun fails => if_pos (test.2 fails)) fun holds => by rwa [if_neg fun fails => test.1 fails holds]

/-! ### The tests of the INBOUND checks (R67) -/

theorem State.identityVehicle_eq_bind (s : State) (i : Identity) :
    s.identityVehicle i = i.tag.bind fun t => (s.vehicle? t).map fun v => v.data := by
  unfold State.identityVehicle
  cases i.tag <;> rfl

theorem State.siteByTag?_isSome_iff {s : State} {t : Tag} :
    (s.siteByTag? t).isSome = true ↔ ∃ e ∈ s.site.entries, e.tag = some t := by
  simp [State.siteByTag?]

theorem lowestFree_isSome_iff {n : Nat} {used : List Nat} : (lowestFree n used).isSome = true ↔ ∃ i < n, i ∉ used := by
  simp [lowestFree]

/-- The register has room while a slot is free and a ticket number is left for every RESERVED entry (R119). -/
theorem State.siteHasRoom_iff {s : State} :
    s.siteHasRoom = true ↔
      (∃ slot < 64, ∀ e ∈ s.site.entries, e.slot ≠ slot)
        ∧ s.tickets.counter + (s.site.entries.filter fun e => decide (e.state = .reserved)).length < 4294967295 := by
  rw [State.siteHasRoom, Bool.and_eq_true, decide_eq_true_iff, State.freeSiteSlot, lowestFree_isSome_iff]
  simp [SiteRegister.reserved, max32]

theorem State.freeCapacity_lt_one_iff {s : State} :
    s.freeCapacity < 1 ↔ ¬((s.index.nextSeq : Int) - s.index.archivedSeq) + s.site.entries.length + 1 ≤ 4096 := by
  unfold State.freeCapacity ringSize
  omega

/-- Checks 9 and 10: a waste code, and for a DELIVERY a cap that is not reached. -/
theorem FirstFailing.wasteChecks (s : State) (kind : Kind) (code : Option Nat) :
    FirstFailing
      [(.noWasteCode, code ≠ none), (.permitCap, kind = .delivery → ∀ w, code = some w → s.capReached w = false)]
      (match code with
        | none => some .noWasteCode
        | some w => if kind = .delivery ∧ s.capReached w = true then some .permitCap else none) := by
  cases code with
  | none => exact .cons (fun _ => rfl) fun present => absurd rfl present
  | some w => exact .cons (fun absent => absurd (Option.some_ne_none w) absent) fun _ => .ite (by simp) .nil

/-- The ten checks of R67, in terms of the entry's vehicle, kind and waste code. -/
theorem State.inboundRefusal_firstFailing (s : State) (l : Lane) (i : Identity) :
    FirstFailing [
        (.clockUnset, s.clock.set = true),
        (.noAdmit, s.estop = false ∧ (s.condition .mainsFail).active = false),
        (.storeFault, (s.condition .storeFault).latched = false),
        (.notRegistered, i.byTag = true → s.identityVehicle i ≠ none),
        (.barred, ∀ v, s.identityVehicle i = some v → v.barred = false),
        (.alreadyOnSite, ∀ t, i.tag = some t → ∀ e ∈ s.site.entries, e.tag ≠ some t),
        (.full, (∃ slot < 64, ∀ e ∈ s.site.entries, e.slot ≠ slot)
          ∧ s.tickets.counter + (s.site.entries.filter fun e => decide (e.state = .reserved)).length < 4294967295),
        (.journalFull, ((s.index.nextSeq : Int) - s.index.archivedSeq) + s.site.entries.length + 1 ≤ 4096),
        (.noWasteCode, s.admitWaste i ≠ none),
        (.permitCap, s.admitKind l i = .delivery → ∀ w, s.admitWaste i = some w → s.capReached w = false)]
      (s.inboundRefusal l i) := by
  have clock : s.clock.set = false ↔ ¬s.clock.set = true := by simp
  have supply : s.conditions.estop.active = true ∨ s.conditions.mainsFail.active = true
      ↔ ¬(s.estop = false ∧ (s.condition .mainsFail).active = false) :=
    (or_congr (Bool.not_eq_false _).to_iff (Bool.not_eq_false _).to_iff).symm.trans
      Decidable.not_and_iff_not_or_not.symm
  have store : s.conditions.storeFault.latched = true ↔ ¬(s.condition .storeFault).latched = false :=
    (Bool.not_eq_false _).to_iff.symm
  have registered : i.byTag = true ∧ (s.identityVehicle i).isNone = true
      ↔ ¬(i.byTag = true → s.identityVehicle i ≠ none) := by simp
  have barred : (s.identityVehicle i).any (fun v => v.barred) = true
      ↔ ¬∀ v, s.identityVehicle i = some v → v.barred = false := by simp [Option.any_eq_true]
  have onSite : i.tag.any (fun t => (s.siteByTag? t).isSome) = true
      ↔ ¬∀ t, i.tag = some t → ∀ e ∈ s.site.entries, e.tag ≠ some t := by
    simp [Option.any_eq_true, State.siteByTag?_isSome_iff]
  have room := (Bool.not_eq_true s.siteHasRoom).to_iff.symm.trans (not_congr State.siteHasRoom_iff)
  exact .ite clock <| .ite supply <| .ite store <| .ite registered <| .ite barred <| .ite onSite <| .ite room <|
    .ite State.freeCapacity_lt_one_iff <| .wasteChecks s (s.admitKind l i) (s.admitWaste i)

/-! ### The checks of an OUTBOUND lane (R68) -/

/-- The entry that an identity finds: OPEN, with the ticket number given, or without one with a tag given, and with the tag
given. -/
def Identity.Finds (i : Identity) (e : SiteEntry) : Prop :=
  e.state = .opened ∧ (if i.ticket ≠ 0 then e.ticket = i.ticket else i.tag ≠ none) ∧ ∀ t, i.tag = some t → e.tag = some t

theorem Identity.finds_iff {i : Identity} {e : SiteEntry} :
    (decide (e.state = .opened) && (if i.ticket = 0 then i.tag.isSome else decide (e.ticket = i.ticket))
      && i.tag.all fun t => decide (e.tag = some t)) = true ↔ i.Finds e := by
  by_cases h : i.ticket = 0 <;>
    simp [Identity.Finds, h, and_assoc, Option.all_eq_true, Option.isSome_iff_ne_none]

theorem State.outboundEntry_eq_none {s : State} {i : Identity} (h : ∀ e ∈ s.site.entries, ¬i.Finds e) :
    s.outboundEntry i = none :=
  List.find?_eq_none.2 fun e mem finds => h e mem (Identity.finds_iff.1 finds)

/-- The first entry that the identity finds, in the register's order. -/
theorem State.outboundEntry_eq_some {s : State} {i : Identity} {before after : List SiteEntry} {e : SiteEntry}
    (entries : s.site.entries = before ++ e :: after) (found : i.Finds e) (none_before : ∀ x ∈ before, ¬i.Finds x) :
    s.outboundEntry i = some e := by
  refine List.find?_eq_some_iff_append.2 ⟨Identity.finds_iff.2 found, before, after, entries, fun x mem => ?_⟩
  rw [Bool.not_eq_true', Bool.eq_false_iff]
  exact fun finds => none_before x mem (Identity.finds_iff.1 finds)

theorem State.outboundRefusal_notFound {s : State} {i : Identity} (h : s.outboundEntry i = none) :
    s.outboundRefusal i = some .notFound := by
  simp [State.outboundRefusal, h]

theorem State.outboundRefusal_found {s : State} {i : Identity} {e : SiteEntry} (h : s.outboundEntry i = some e) :
    s.outboundRefusal i =
      if e.boundLane ≠ none then some .bound else if s.estop = true then some .noAdmit else none := by
  rw [State.outboundRefusal, h]
  exact ite_congr (propext Option.isSome_iff_ne_none) (fun _ => rfl) fun _ => rfl

theorem State.admitRefusal_inbound {s : State} {l : Lane} (h : (s.laneSettings l).direction = .inbound) (i : Identity) :
    s.admitRefusal l i = s.inboundRefusal l i := by
  simp [State.admitRefusal, h]

theorem State.admitRefusal_outbound {s : State} {l : Lane} (h : (s.laneSettings l).direction = .outbound) (i : Identity) :
    s.admitRefusal l i = s.outboundRefusal i := by
  simp [State.admitRefusal, h]

/-! ### The cap of a waste code (R137) -/

theorem State.capReached_iff {s : State} {w cap : Nat} {x : DayTotals} (hc : s.settings.caps[w - 1]? = some cap)
    (hx : s.index.totals[w - 1]? = some x) : s.capReached w = true ↔ cap ≠ 0 ∧ cap ≤ x.today := by
  simp [State.capReached, hc, hx]

/-! ### The statements -/

/-- Settles O39: what a LANE class request asks first, then HOLD's own answer by whether the lane's state is timed. -/
theorem holdIsTaken : Obligations.HoldIsTaken := by
  refine ⟨fun s r b hb takes => execHold_range takes hb, fun s r b l hb takes => ?_⟩
  refine ⟨execHold_notPermitted takes hb, fun control => ⟨fun other => execHold_attended takes hb control, fun free => ?_⟩⟩
  have controls : s.Controls r (.lane l) .lane := ⟨takes, control, fun _ => State.attendedByOther_lane_eq_false free⟩
  refine ⟨fun untimed => execHold_wrongState controls hb (LaneState.timed_eq_false_iff_mem.2 untimed), fun mem => ?_⟩
  have timed : (s.lane l).state.timed = true := LaneState.timed_iff_mem.2 mem
  refine ⟨_, execHold_taken controls hb timed, rfl, ?_⟩
  rw [State.hold_of_timed (s := s.heard r.station) timed]
  have lane := (s.heard r.station).enterHold_lane l .station
  exact ⟨congrArg LaneUnit.state lane, congrArg LaneUnit.holdReason lane, (s.heard r.station).enterHold_heldFrom l .station⟩

/-- Settles O48: the ten checks of R67 as a list made in order, those of R68 by the entry that the identity finds. -/
theorem admissionChecksInOrder : Obligations.AdmissionChecksInOrder := by
  intro s l i
  refine ⟨fun inbound => ?_, fun outbound => ?_, fun w _ _ cap x hc hx => State.capReached_iff hc hx⟩
  · rw [← State.identityVehicle_eq_bind, State.admitRefusal_inbound inbound]
    exact s.inboundRefusal_firstFailing l i
  · rw [State.admitRefusal_outbound outbound]
    refine ⟨fun absent => State.outboundRefusal_notFound (State.outboundEntry_eq_none absent), ?_⟩
    intro before after e entries found none_before
    have entry : s.outboundEntry i = some e := State.outboundEntry_eq_some entries found none_before
    rw [State.outboundRefusal_found entry]
    exact ⟨entry, fun bound => if_pos bound, fun free estop => by simp [free, estop], fun free estop => by simp [free, estop]⟩

end Sys2Proof.Machine
end

section
/-! The permit totals (chapter 7): READ_TOTALS settled, from its two answers and what its report gives for each waste code. -/

namespace Sys2Proof.Machine

/-! ### The report (R138) -/

/-- The report has one line for each of the 32 codes. -/
theorem State.totalsReport_lines_length (s : State) : s.totalsReport.lines.length = 32 :=
  List.length_map _ |>.trans List.length_range

/-- A code's line gives what stands for that code in the settings, the index/totals record and the notice flags. -/
theorem State.totalsReport_line {s : State} {i cap : Nat} {x : DayTotals} {given : Bool} (hi : i < 32)
    (total : s.index.totals[i]? = some x) (hcap : s.settings.caps[i]? = some cap)
    (flag : s.tickets.capNotice[i]? = some given) :
    s.totalsReport.lines[i]? = some { cap := cap, today := x.today, previous := x.previous, capNotice := given } := by
  simp [State.totalsReport, List.getElem?_range hi, List.getD_eq_getElem?_getD, total, hcap, flag]

/-! ### READ_TOTALS (R138) -/

section ReadTotals

variable {s : State} {r : Req}

theorem execReadTotals_notPermitted (h : s.Takes r) (hd : s.decision r.station .yard .ticket = .none) :
    execReadTotals r s = .next (s.refusedWith r 0x3C .notPermitted) :=
  congrArg Host.Outcome.next (State.takeRequest_refused h (needWatch_refused _ _ _ _ hd))

theorem execReadTotals_answered (h : s.Takes r) (hd : s.decision r.station .yard .ticket ≠ .none) :
    execReadTotals r s = .next (s.answered r 0x3C .ok false (.totals s.totalsReport)) :=
  congrArg Host.Outcome.next (State.takeRequest_answered h (needWatch_passes _ _ _ _ hd))

end ReadTotals

/-! ### The statement -/

/-- Settles O16: the decision alone separates the two answers, and the lines are those of the report. -/
theorem totalsReported : Obligations.TotalsReported := by
  intro s r takes
  refine ⟨execReadTotals_notPermitted takes, fun permitted => ?_⟩
  refine ⟨s.totalsReport.lines, s.totalsReport_lines_length, ?_, execReadTotals_answered takes permitted⟩
  intro i x cap given hi total hcap flag
  exact State.totalsReport_line hi total hcap flag

end Sys2Proof.Machine
end

section
/-! The station authority (chapter 9): the decision settled, from what the seal override leaves to the windows and what a list of
windows gives a pair of scope and class. -/

namespace Sys2Proof.Machine

/-! ### What a station's windows give (R163, steps 2 and 3) -/

section WindowAccess

variable {ws : List Window} {scope : Scope} {cls : Cls}

theorem windowAccess_of_find?_eq_some {w : Window} (found : ws.find? (·.hits scope cls) = some w) :
    windowAccess ws scope cls = w.access := by
  unfold Window.hits at found
  rw [windowAccess, found]

theorem windowAccess_of_find?_eq_none (found : ws.find? (·.hits scope cls) = none) :
    windowAccess ws scope cls = .watch := by
  unfold Window.hits at found
  rw [windowAccess, found]

/-- The search stops at the window of the lowest number that hits the pair. -/
theorem find?_hits_eq_some {i : Nat} {w : Window} (at_i : ws[i]? = some w) (hit : w.hits scope cls = true)
    (missed : ∀ (j : Nat) (v : Window), j < i → ws[j]? = some v → v.hits scope cls = false) :
    ws.find? (·.hits scope cls) = some w := by
  obtain ⟨in_range, value⟩ := List.getElem?_eq_some_iff.1 at_i
  refine List.find?_eq_some_iff_getElem.2 ⟨hit, i, in_range, value, fun j earlier => ?_⟩
  have miss : ws[j].hits scope cls = false := missed j _ earlier (List.getElem?_eq_getElem _)
  rw [miss, Bool.not_false]

theorem find?_hits_eq_none (missed : ∀ w ∈ ws, w.hits scope cls = false) : ws.find? (·.hits scope cls) = none :=
  List.find?_eq_none.2 fun w mem => Bool.eq_false_iff.1 (missed w mem)

end WindowAccess

/-! ### The seal override (R163, step 1, and R164) -/

theorem State.decision_of_sealOpen {s : State} (access : s.sealOpen = true) (st : Station) :
    s.decision st .yard .yard = .control :=
  if_pos ⟨rfl, rfl, access⟩

/-- Without the override a station's windows decide. -/
theorem State.decision_eq_windowAccess {s : State} {scope : Scope} {cls : Cls}
    (h : ¬(scope = .yard ∧ cls = .yard ∧ s.sealOpen = true)) (st : Station) :
    s.decision st scope cls = windowAccess (s.settings.windows.get st) scope cls :=
  if_neg h

/-! ### The statement -/

/-- Settles O9: the override by `State.decision_of_sealOpen`; otherwise the windows, by whether the search for a hit ends at one. -/
theorem decisionOfAStation : Obligations.DecisionOfAStation := by
  intro s st scope cls
  refine ⟨fun yardScope yardCls access => ?_, fun noOverride => ?_⟩
  · subst yardScope yardCls
    exact State.decision_of_sealOpen access st
  · rw [State.decision_eq_windowAccess noOverride st]
    refine ⟨fun i w at_i hit missed => ?_, fun missed => ?_⟩
    · exact windowAccess_of_find?_eq_some (find?_hits_eq_some at_i hit missed)
    · exact windowAccess_of_find?_eq_none (find?_hits_eq_none missed)

end Sys2Proof.Machine
end

section
/-! Facts of logic and lists that the model's files, which import core Lean alone, leave to be said. -/

namespace Sys2Proof.Machine

/-! ### Conditions -/

theorem imp_iff_or_of_not {p q : Prop} : (p → q) ↔ ¬p ∨ q :=
  ⟨fun h => (Classical.em p).elim (fun yes => .inr (h yes)) .inl, fun h yes => h.resolve_left fun no => no yes⟩

/-- Equal choices on equivalent conditions. -/
theorem ite_of_iff {α : Sort _} {p q : Prop} [Decidable p] [Decidable q] {x y u v : α} (h : p ↔ q) (yes : x = u) (no : y = v) :
    (if p then x else y) = if q then u else v := ite_congr (propext h) (fun _ => yes) fun _ => no

/-- A choice on two conditions, one after the other. -/
theorem ite_ite_of_and {α : Sort _} {p q : Prop} [Decidable p] [Decidable q] (x y : α) :
    (if p ∧ q then x else y) = if p then if q then x else y else y := by
  by_cases h : p <;> simp [h]

/-! ### Lists -/

/-- Induction on a list from its end. -/
theorem appendInduction {α : Type _} {motive : List α → Prop} (nil : motive [])
    (append : ∀ xs x, motive xs → motive (xs ++ [x])) (xs : List α) : motive xs := by
  have all : ∀ ys : List α, motive ys.reverse := fun ys => by
    induction ys with
    | nil => exact nil
    | cons y ys ih =>
      rw [List.reverse_cons]
      exact append _ y ih
  exact xs.reverse_reverse ▸ all xs.reverse

/-- Two elements with one key are the same where no key stands twice. -/
theorem eq_of_key {α β : Type _} {f : α → β} {xs : List α} (keys : (xs.map f).Nodup) {x y : α} (hx : x ∈ xs) (hy : y ∈ xs)
    (same : f x = f y) : x = y := by
  induction xs with
  | nil => exact nomatch hx
  | cons z zs ih =>
    rw [List.map_cons, List.nodup_cons] at keys
    obtain ⟨fresh, rest⟩ := keys
    rw [List.mem_cons] at hx hy
    obtain first | hx := hx
    · obtain other | hy := hy
      · exact first.trans other.symm
      · exact absurd (List.mem_map.2 ⟨y, hy, first ▸ same.symm⟩) fresh
    · obtain other | hy := hy
      · exact absurd (List.mem_map.2 ⟨x, hx, other ▸ same⟩) fresh
      · exact ih rest hx hy

/-- Keys stand once where the elements do and two elements with one key are the same. -/
theorem nodup_keys {α β : Type _} {f : α → β} {xs : List α} (once : xs.Nodup)
    (inj : ∀ x ∈ xs, ∀ y ∈ xs, f x = f y → x = y) : (xs.map f).Nodup :=
  List.pairwise_map.2 (List.Pairwise.imp_of_mem (fun hx hy differs same => differs (inj _ hx _ hy same)) once)

theorem nodup_of_keys {α β : Type _} {f : α → β} {xs : List α} (keys : (xs.map f).Nodup) : xs.Nodup :=
  (List.pairwise_map.1 keys).imp fun differs same => differs (congrArg f same)

theorem nodup_reverse_iff {α : Type _} {xs : List α} : xs.reverse.Nodup ↔ xs.Nodup :=
  List.pairwise_reverse.trans ⟨fun h => h.imp Ne.symm, fun h => h.imp Ne.symm⟩

/-- A list without repetition is no longer than one that holds all its elements. -/
theorem length_le_of_nodup {α : Type _} [BEq α] [LawfulBEq α] {xs : List α} (once : xs.Nodup) :
    ∀ {ys : List α}, (∀ x ∈ xs, x ∈ ys) → xs.length ≤ ys.length := by
  induction xs with
  | nil => exact fun _ => Nat.zero_le _
  | cons x xs ih =>
    intro ys held
    obtain ⟨fresh, rest⟩ := List.nodup_cons.1 once
    have mem := held x List.mem_cons_self
    have shorter : xs.length ≤ (ys.erase x).length := ih rest fun y hy => by
      have differs : y ≠ x := fun same => fresh (same ▸ hy)
      exact (List.mem_erase_of_ne differs).2 (held y (List.mem_cons_of_mem x hy))
    have positive := List.length_pos_of_mem mem
    rw [List.length_erase_of_mem mem] at shorter
    rw [List.length_cons]
    omega

end Sys2Proof.Machine
end

section
/-! What every step keeps, part 1: each invariant said lane by lane, deck by deck and station by station, and the relation
`Preserves` that the operations of the yard compose. -/

namespace Sys2Proof.Machine

/-! ### The invariants, lane by lane, deck by deck, station by station -/

theorem Lane.forall_iff {p : Lane → Prop} : (∀ l, p l) ↔ p .l0 ∧ p .l1 ∧ p .l2 ∧ p .l3 :=
  ⟨fun h => ⟨h _, h _, h _, h _⟩, fun ⟨h0, h1, h2, h3⟩ l => by cases l <;> assumption⟩

theorem Deck.forall_iff {p : Deck → Prop} : (∀ d, p d) ↔ p .d0 ∧ p .d1 :=
  ⟨fun h => ⟨h _, h _⟩, fun ⟨h0, h1⟩ d => by cases d <;> assumption⟩

theorem Station.forall_iff {p : Station → Prop} : (∀ st, p st) ↔ p .s0 ∧ p .s1 ∧ p .s2 :=
  ⟨fun h => ⟨h _, h _, h _⟩, fun ⟨h0, h1, h2⟩ st => by cases st <;> assumption⟩

theorem State.estopSafe_iff {s : State} : s.estopSafe = true ↔ (s.estop = true → ∀ l, (s.lane l).stopped = true) := by
  rw [Lane.forall_iff, State.estopSafe, Bool.or_eq_true, Bool.not_eq_true', ← Bool.not_eq_true]
  simp only [Bool.and_eq_true, and_assoc]
  exact imp_iff_or_of_not.symm

theorem State.lanesCoherent_iff {s : State} : s.lanesCoherent = true ↔ ∀ l, (s.lane l).coherent = true := by
  rw [Lane.forall_iff, State.lanesCoherent]
  simp only [Bool.and_eq_true, and_assoc]
  rfl

theorem State.decksCoherent_iff {s : State} : s.decksCoherent = true ↔ ∀ d, (s.deck d).cal.coherent = true := by
  rw [Deck.forall_iff, State.decksCoherent, Bool.and_eq_true]
  rfl

theorem State.noticesBounded_iff {s : State} :
    s.noticesBounded = true ↔ ∀ st, (s.notices.get st).bounded = true := by
  rw [Station.forall_iff, State.noticesBounded]
  simp only [Bool.and_eq_true, and_assoc]
  rfl

/-- Before READY nothing is queued, no roll waits, the clock is not SET and every lane is CLOSED. -/
theorem State.quietUntilReady_iff {s : State} :
    s.quietUntilReady = true ↔
      s.phase = .ready ∨ (s.store.queue = [] ∧ s.clock.set = false ∧ s.tickets.rollPending = false
        ∧ ∀ l, (s.lane l).state = .closed) := by
  rw [Lane.forall_iff, State.quietUntilReady]
  simp only [Bool.or_eq_true, Bool.and_eq_true, decide_eq_true_eq, List.isEmpty_iff, Bool.not_eq_true']
  refine or_congr_right ⟨fun ⟨⟨⟨⟨⟨⟨q, c⟩, l0⟩, l1⟩, l2⟩, l3⟩, r⟩ => ⟨q, c, r, l0, l1, l2, l3⟩, ?_⟩
  exact fun ⟨q, c, r, l0, l1, l2, l3⟩ => ⟨⟨⟨⟨⟨⟨q, c⟩, l0⟩, l1⟩, l2⟩, l3⟩, r⟩

/-- The states in which a passage may hold decks (R63). -/
def holdingStates : List LaneState := [.entering, .positioning, .onDeck, .weighing, .leaving, .retreating, .clearing]

/-- The states in which a passage may have a bound entry (R63). -/
def boundStates : List LaneState := [.admitting, .entering, .positioning, .onDeck, .weighing, .leaving]

/-- Where a lane's passage stands in state `st`, what the lane claims, holds and is bound to is allowed there (R63). -/
structure State.Stands (s : State) (l : Lane) (st : LaneState) : Prop where
  claim : ∀ d, l ∈ s.claims.get d → st = .admitting
  holding : ∀ d, s.holders.get d = some l → st ∈ holdingStates
  binding : ∀ e ∈ s.site.entries, e.boundLane = some l → st ∈ boundStates

theorem State.claimsCoherent_iff {s : State} :
    s.claimsCoherent = true ↔
      (∀ d, (s.claims.get d).Nodup) ∧ (∀ d, ∀ l ∈ s.claims.get d, (s.lane l).markState = .admitting)
        ∧ ∀ d l, s.holders.get d = some l → (s.lane l).markState ∈ holdingStates := by
  have claims (q : List Lane) :
      claimsOk s.lanes q = true ↔ q.Nodup ∧ ∀ l ∈ q, (s.lane l).markState = .admitting := by
    simp [claimsOk, LaneUnit.within, State.lane]
  have holder (h : Option Lane) :
      holderOk s.lanes h = true ↔ ∀ l, h = some l → (s.lane l).markState ∈ holdingStates := by
    rw [holderOk, Option.all_eq_true]
    exact forall₂_congr fun l _ => List.contains_iff_mem
  rw [State.claimsCoherent, Bool.and_eq_true, Bool.and_eq_true, Bool.and_eq_true, claims, claims, holder, holder,
    Deck.forall_iff, Deck.forall_iff, Deck.forall_iff]
  exact ⟨fun ⟨⟨⟨⟨n0, a0⟩, n1, a1⟩, h0⟩, h1⟩ => ⟨⟨n0, n1⟩, ⟨a0, a1⟩, h0, h1⟩,
    fun ⟨⟨n0, n1⟩, ⟨a0, a1⟩, h0, h1⟩ => ⟨⟨⟨⟨n0, a0⟩, n1, a1⟩, h0⟩, h1⟩⟩

/-- No two site entries hold one slot, one tag or one lane, and every slot is one of the 64 (R118, R119). -/
structure SiteKeyed (es : List SiteEntry) : Prop where
  slots : (es.map fun e => e.slot).Nodup
  below : ∀ e ∈ es, e.slot < 64
  tags : (es.filterMap fun e => e.tag).Nodup
  bound : (es.filterMap fun e => e.boundLane).Nodup

theorem State.siteCoherent_iff {s : State} :
    s.siteCoherent = true ↔
      SiteKeyed s.site.entries
        ∧ ∀ e ∈ s.site.entries, ∀ l, e.boundLane = some l → (s.lane l).markState ∈ boundStates := by
  rw [State.siteCoherent]
  simp only [Bool.and_eq_true, decide_eq_true_eq, List.all_eq_true, Option.all_eq_true, LaneUnit.within, List.contains_iff_mem]
  exact ⟨fun ⟨⟨⟨⟨s, b⟩, t⟩, l⟩, m⟩ => ⟨⟨s, b, t, l⟩, m⟩, fun ⟨⟨s, b, t, l⟩, m⟩ => ⟨⟨⟨⟨s, b⟩, t⟩, l⟩, m⟩⟩

/-- Every lane stands where its claims, holdings and binding allow it. -/
theorem State.stands_of_coherent {s : State} (site : s.siteCoherent = true) (claims : s.claimsCoherent = true) (l : Lane) :
    s.Stands l (s.lane l).markState := by
  obtain ⟨_, claimed, held⟩ := State.claimsCoherent_iff.1 claims
  obtain ⟨_, bound⟩ := State.siteCoherent_iff.1 site
  exact ⟨fun d => claimed d l, fun d => held d l, fun e mem => bound e mem l⟩

/-- The registers are keyed, and every lane stands where it may: the coherence of site register and claims in one. -/
theorem State.coherent_of_stands {s : State} (site : SiteKeyed s.site.entries) (claims : ∀ d, (s.claims.get d).Nodup)
    (stands : ∀ l, s.Stands l (s.lane l).markState) : s.siteCoherent = true ∧ s.claimsCoherent = true :=
  ⟨State.siteCoherent_iff.2 ⟨site, fun e mem l => (stands l).binding e mem⟩,
    State.claimsCoherent_iff.2 ⟨claims, fun d l => (stands l).claim d, fun d l => (stands l).holding d⟩⟩

/-! ### What an operation preserves -/

/-- `t` has the invariants that `s` has, but for the coherence of the lane controllers, and the waiting commands of `s`. -/
structure Upholds (s t : State) : Prop where
  pending : t.pending = s.pending
  estop : s.estopSafe = true → t.estopSafe = true
  decks : s.decksCoherent = true → t.decksCoherent = true
  notices : s.noticesBounded = true → t.noticesBounded = true
  quiet : s.quietUntilReady = true → t.quietUntilReady = true
  fits : s.quietUntilReady = true → s.store.fits = true → t.store.fits = true
  vehicles : keyed s.vehicles = true → keyed t.vehicles = true
  places : s.quietUntilReady = true → s.siteCoherent = true → s.claimsCoherent = true →
    t.siteCoherent = true ∧ t.claimsCoherent = true

/-- `t` has every invariant that `s` has, and the waiting commands of `s`. -/
structure Preserves (s t : State) : Prop extends Upholds s t where
  lanes : s.lanesCoherent = true → t.lanesCoherent = true

theorem Upholds.trans {s t u : State} (h : Upholds s t) (k : Upholds t u) : Upholds s u where
  pending := k.pending.trans h.pending
  estop := k.estop ∘ h.estop
  decks := k.decks ∘ h.decks
  notices := k.notices ∘ h.notices
  quiet := k.quiet ∘ h.quiet
  fits quiet fits := k.fits (h.quiet quiet) (h.fits quiet fits)
  vehicles := k.vehicles ∘ h.vehicles
  places quiet site claims :=
    have ⟨site, claims⟩ := h.places quiet site claims
    k.places (h.quiet quiet) site claims

theorem Preserves.refl (s : State) : Preserves s s :=
  ⟨⟨rfl, id, id, id, id, fun _ => id, id, fun _ site claims => ⟨site, claims⟩⟩, id⟩

theorem Preserves.trans {s t u : State} (h : Preserves s t) (k : Preserves t u) : Preserves s u :=
  ⟨h.toUpholds.trans k.toUpholds, k.lanes ∘ h.lanes⟩

/-- `Preserves.trans` with the later part first: a chain of operations is read from its last one. -/
theorem Preserves.after {s t u : State} (k : Preserves t u) (h : Preserves s t) : Preserves s u := h.trans k

/-- Operations chained over a list preserve what each preserves. -/
theorem Preserves.foldl {α : Type} (f : State → α → State) (h : ∀ t a, Preserves t (f t a)) (l : List α) (s : State) :
    Preserves s (l.foldl f s) :=
  List.foldlRecOn l f (motive := fun t => Preserves s t) (Preserves.refl s) fun t sofar a _ => sofar.trans (h t a)

/-- `t` agrees with `s` in everything the invariants speak of but the notices, the write queue and the deck states. -/
structure SameYard (s t : State) : Prop where
  pending : t.pending = s.pending
  estop : t.estop = s.estop
  phase : t.phase = s.phase
  clock : t.clock.set = s.clock.set
  roll : t.tickets.rollPending = s.tickets.rollPending
  lanes : t.lanes = s.lanes
  claims : t.claims = s.claims
  holders : t.holders = s.holders
  vehicles : t.vehicles = s.vehicles
  site : t.site.entries = s.site.entries

section SameYard

variable {s t : State}

theorem SameYard.lane (h : SameYard s t) (l : Lane) : t.lane l = s.lane l := congrArg (PerLane.get · l) h.lanes

theorem SameYard.stands (h : SameYard s t) {l : Lane} {st : LaneState} (stands : s.Stands l st) : t.Stands l st where
  claim d mem := stands.claim d (h.claims ▸ mem)
  holding d eq := stands.holding d (h.holders ▸ eq)
  binding e mem := stands.binding e (h.site ▸ mem)

/-- What an operation that leaves the yard alone has to say: its notices, its write queue and its deck states. -/
theorem SameYard.preserves (h : SameYard s t) (decks : s.decksCoherent = true → t.decksCoherent = true)
    (notices : s.noticesBounded = true → t.noticesBounded = true)
    (queue : s.quietUntilReady = true → s.store.queue = [] → t.store.queue = [] ∨ s.phase = .ready)
    (fits : s.quietUntilReady = true → s.store.fits = true → t.store.fits = true) : Preserves s t where
  pending := h.pending
  estop safe := State.estopSafe_iff.2 fun estop l => by
    rw [h.lane]; exact State.estopSafe_iff.1 safe (h.estop ▸ estop) l
  lanes coherent := State.lanesCoherent_iff.2 fun l => by rw [h.lane]; exact State.lanesCoherent_iff.1 coherent l
  decks := decks
  notices := notices
  quiet quiet := State.quietUntilReady_iff.2 <| by
    rw [h.phase, h.clock, h.roll]
    refine (State.quietUntilReady_iff.1 quiet).elim .inl fun ⟨empty, clock, roll, closed⟩ => ?_
    exact (queue quiet empty).elim (fun e => .inr ⟨e, clock, roll, fun l => h.lane l ▸ closed l⟩) .inl
  fits := fits
  vehicles keyed := h.vehicles ▸ keyed
  places _ site claims := State.coherent_of_stands (h.site ▸ (State.siteCoherent_iff.1 site).1)
    (h.claims ▸ (State.claimsCoherent_iff.1 claims).1)
    fun l => h.lane l ▸ h.stands (State.stands_of_coherent site claims l)

/-- An operation that leaves all that the invariants speak of. -/
theorem SameYard.preserves_of_same (h : SameYard s t) (decks : ∀ d, (t.deck d).cal = (s.deck d).cal)
    (notices : t.notices = s.notices) (store : t.store = s.store) : Preserves s t := by
  refine h.preserves (fun c => State.decksCoherent_iff.2 fun d => ?_) (fun b => State.noticesBounded_iff.2 fun st => ?_)
    (fun _ empty => .inl (store ▸ empty)) fun _ fits => store ▸ fits
  · rw [decks]; exact State.decksCoherent_iff.1 c d
  · rw [notices]; exact State.noticesBounded_iff.1 b st

end SameYard

end Sys2Proof.Machine
end

section
/-! What every step keeps, part 2: the operations that every event is made of. Notices, the write queue, one lane's controller,
the barriers' requests, and holding a lane. -/

namespace Sys2Proof.Machine

/-! ### Notices (R176, R177) -/

theorem NoticeState.bounded_iff {n : NoticeState} :
    n.bounded = true ↔ n.queue.length ≤ 32 ∧ isLevelSet n.inProgress = true ∧ isLevelSet n.mask = true := by
  simp [NoticeState.bounded, and_assoc]

/-- A notice of the lowest priority present stands in the queue, where that is not the level 0. -/
theorem exists_lowestPriority {q : List Notice} (h : 0 < lowestPriority q) : ∃ n ∈ q, n.level = lowestPriority q := by
  have least : ¬lowestPriority q ≤ lowestPriority q - 1 := by omega
  rw [lowestPriority_le_iff] at least
  simp only [Classical.not_forall] at least
  obtain ⟨n, mem, above⟩ := least
  have below : n.level ≤ lowestPriority q := (lowestPriority_le_iff q _).1 (Nat.le_refl _) n mem
  exact ⟨n, mem, by omega⟩

theorem NoticeState.join_length {q : NoticeState} (n : Notice) (h : q.queue.length ≤ 32) :
    (q.join n).queue.length ≤ 32 := by
  unfold NoticeState.join
  split
  next room => simp; omega
  next full =>
    split
    next urgent =>
      obtain ⟨x, mem, level⟩ := exists_lowestPriority (q := q.queue) (by omega)
      have shorter := List.length_eraseP_of_mem (p := fun x => decide (x.level = lowestPriority q.queue)) mem (by simp [level])
      simp only [List.length_append, List.length_singleton]
      omega
    next => exact h

theorem NoticeState.join_bounded {q : NoticeState} (n : Notice) (h : q.bounded = true) : (q.join n).bounded = true := by
  obtain ⟨length, progress, mask⟩ := NoticeState.bounded_iff.1 h
  obtain ⟨sameMask, sameProgress⟩ := q.join_rest n
  exact NoticeState.bounded_iff.2 ⟨NoticeState.join_length n length, sameProgress ▸ progress, sameMask ▸ mask⟩

theorem Preserves.raiseNotice (s : State) (k : NoticeKind) (l : Option Lane) (d : Option Deck) (n c : Nat) (vs : List Int) :
    Preserves s (s.raiseNotice k l d n c vs) := by
  have same : SameYard s (s.raiseNotice k l d n c vs) := by constructor <;> rfl
  refine same.preserves id (fun bounded => State.noticesBounded_iff.2 fun st => ?_) (fun _ => .inl) fun _ => id
  have each := State.noticesBounded_iff.1 bounded st
  simp only [State.raiseNotice, State.route, PerStation.get_ofFn]
  split
  · exact each
  · exact NoticeState.join_bounded _ each

/-! ### The write queue (R145 to R147) -/

theorem StoreEngine.fits_iff {e : StoreEngine} :
    e.fits = true ↔
      e.ordinaryFilled ≤ 16 ∧ e.reservedCount ≤ 1 ∧ (e.current = none ↔ e.queue = []) ∧ (e.queue = [] → e.state = .idle)
        ∧ (e.state = .idle → e.queue = [] ∨ e.serving ≠ []) := by
  simp only [StoreEngine.fits, Bool.and_eq_true, decide_eq_true_eq, and_assoc]

theorem StoreEngine.ordinaryFilled_join (e : StoreEngine) (i : WriteItem) :
    (e.join i).ordinaryFilled = e.ordinaryFilled + if i.reserved then 0 else 1 := by
  rw [StoreEngine.ordinaryFilled, StoreEngine.join_queue, List.filter_append, List.length_append]
  cases h : i.reserved <;> simp [StoreEngine.ordinaryFilled, h]

theorem StoreEngine.reservedCount_join (e : StoreEngine) (i : WriteItem) :
    (e.join i).reservedCount = e.reservedCount + if i.reserved then 1 else 0 := by
  rw [StoreEngine.reservedCount, StoreEngine.join_queue, List.filter_append, List.length_append]
  cases h : i.reserved <;> simp [StoreEngine.reservedCount, h]

/-- An item that has a slot joins a queue that fits, and the queue fits still. -/
theorem StoreEngine.join_fits {e : StoreEngine} {i : WriteItem} (h : e.fits = true)
    (slot : if i.reserved then e.reservedCount = 0 else e.ordinaryFilled < 16) : (e.join i).fits = true := by
  obtain ⟨ordinary, reserved, current, empty, idle⟩ := StoreEngine.fits_iff.1 h
  have ordinary' : (e.join i).ordinaryFilled ≤ 16 := by
    rw [StoreEngine.ordinaryFilled_join]
    cases r : i.reserved <;> simp only [r, if_true, if_false, Bool.false_eq_true] at slot ⊢ <;> omega
  have reserved' : (e.join i).reservedCount ≤ 1 := by
    rw [StoreEngine.reservedCount_join]
    cases r : i.reserved <;> simp only [r, if_true, if_false, Bool.false_eq_true] at slot ⊢ <;> omega
  refine StoreEngine.fits_iff.2 ⟨ordinary', reserved', ?_⟩
  by_cases first : e.state = .idle ∧ e.queue = []
  · rw [StoreEngine.join_idle i first.1 first.2]
    by_cases reads : e.serving = [] <;> simp [reads]
  · have busy : e.queue ≠ [] := fun none => first ⟨empty none, none⟩
    rw [StoreEngine.join_busy i (Decidable.not_and_iff_not_or_not.1 first)]
    simp_all

theorem State.slotFree_iff {s : State} : s.slotFree = true ↔ s.store.ordinaryFilled < 16 := decide_eq_true_iff

/-- An item joins while an ordinary slot is free, at READY or with a lane that is not CLOSED. -/
theorem Preserves.enqueue {s : State} (free : s.slotFree = true) (open_ : s.phase = .ready ∨ ∃ l, (s.lane l).state ≠ .closed)
    (es : List Record) : Preserves s (s.enqueue es) := by
  have same : SameYard s (s.enqueue es) := by constructor <;> rfl
  refine same.preserves id id (fun quiet _ => .inr ?_) fun _ fits =>
    StoreEngine.join_fits fits (by simpa using State.slotFree_iff.1 free)
  refine open_.elim id fun ⟨l, opened⟩ => ?_
  exact (State.quietUntilReady_iff.1 quiet).elim id fun ⟨_, _, _, closed⟩ => absurd (closed l) opened

/-! ### One lane's controller -/

/-- What a lane controller holds in which states (R63, R90). -/
theorem LaneUnit.coherent_iff {u : LaneUnit} :
    u.coherent = true ↔
      (u.holdReason.isSome ↔ u.state = .hold) ∧ (u.heldFrom.isSome ↔ u.state = .hold)
        ∧ (u.capture.isSome ↔ u.state = .weighing) ∧ (u.dwell.isSome ↔ u.state.timed = true)
        ∧ (u.go = true → u.state = .entering ∨ u.state = .positioning)
        ∧ ∀ h, u.heldFrom = some h → h = .idle ∨ h.timed = true := by
  simp only [LaneUnit.coherent, Bool.and_eq_true, decide_eq_true_eq, Option.all_eq_true, Bool.or_eq_true, and_assoc,
    Bool.not_eq_true', or_assoc]
  simp only [imp_iff_or_of_not, Bool.not_eq_true]

/-- The two units stand at the same place of the passage: nothing that `coherent` speaks of differs, but that go may have been
cleared. -/
structure SameControl (u v : LaneUnit) : Prop where
  state : v.state = u.state
  reason : v.holdReason = u.holdReason
  heldFrom : v.heldFrom = u.heldFrom
  dwell : v.dwell = u.dwell
  capture : v.capture.isSome = u.capture.isSome
  go : v.go = true → u.go = true

theorem SameControl.markState {u v : LaneUnit} (h : SameControl u v) : v.markState = u.markState := by
  rw [LaneUnit.markState, LaneUnit.markState, h.state, h.heldFrom]

theorem SameControl.coherent {u v : LaneUnit} (h : SameControl u v) (c : u.coherent = true) : v.coherent = true := by
  rw [LaneUnit.coherent_iff] at c ⊢
  rw [h.state, h.reason, h.heldFrom, h.dwell, h.capture]
  obtain ⟨reason, heldFrom, capture, dwell, go, held⟩ := c
  exact ⟨reason, heldFrom, capture, dwell, go ∘ h.go, held⟩

theorem LaneUnit.markState_of_ne_hold {u : LaneUnit} (h : u.state ≠ .hold) : u.markState = u.state := if_neg h

/-- The one passage step of a lane that no claim, holding or binding forbids: each place the one state allows is allowed in the
other. -/
def LaneState.leadsTo (a b : LaneState) : Bool :=
  (decide (a ≠ .admitting) || decide (b = .admitting)) && (!holdingStates.contains a || holdingStates.contains b)
    && (!boundStates.contains a || boundStates.contains b)

theorem State.Stands.of_leadsTo {s : State} {l : Lane} {a b : LaneState} (h : s.Stands l a) (leads : a.leadsTo b = true) :
    s.Stands l b := by
  simp only [LaneState.leadsTo, Bool.and_eq_true, Bool.or_eq_true, decide_eq_true_eq, Bool.not_eq_true',
    ← Bool.not_eq_true, List.contains_iff_mem, ← imp_iff_or_of_not, ne_eq] at leads
  obtain ⟨⟨claim, holding⟩, binding⟩ := leads
  exact ⟨fun d mem => claim (h.claim d mem), fun d eq => holding (h.holding d eq), fun e mem eq => binding (h.binding e mem eq)⟩

/-- What replacing a lane's controller in `s` has to say of the motors, of CLOSED and of the passage; `o` is the state the event
began in, whose site register is coherent. -/
structure LaneMove (o s : State) (l : Lane) (v : LaneUnit) : Prop where
  stopped : s.estop = true → (s.lane l).stopped = true → v.stopped = true
  closed : (s.lane l).state = .closed → v.state = .closed ∨ s.phase = .ready
  stands : o.quietUntilReady = true → o.siteCoherent = true → s.Stands l (s.lane l).markState → s.Stands l v.markState

section LaneMove

variable {o s : State} {l : Lane} {v : LaneUnit}

theorem State.Stands.setLane {m : Lane} {st : LaneState} (h : s.Stands m st) : (s.setLane l v).Stands m st :=
  ⟨h.claim, h.holding, h.binding⟩

theorem LaneMove.upholds (h : LaneMove o s l v) (before : Upholds o s) : Upholds o (s.setLane l v) where
  pending := before.pending
  estop safe := State.estopSafe_iff.2 fun estop m => by
    have each := State.estopSafe_iff.1 (before.estop safe) estop
    rw [State.lane_setLane]
    split
    · exact h.stopped estop (each l)
    · exact each m
  decks := before.decks
  notices := before.notices
  quiet quiet := State.quietUntilReady_iff.2 <| by
    refine (State.quietUntilReady_iff.1 (before.quiet quiet)).elim .inl fun ⟨queue, clock, roll, closed⟩ => ?_
    refine (h.closed (closed l)).symm.imp id fun stays => ⟨queue, clock, roll, fun m => ?_⟩
    rw [State.lane_setLane]
    split
    · exact stays
    · exact closed m
  fits := before.fits
  vehicles := before.vehicles
  places quiet origin claims₀ := by
    obtain ⟨site, claims⟩ := before.places quiet origin claims₀
    refine State.coherent_of_stands (State.siteCoherent_iff.1 site).1 (State.claimsCoherent_iff.1 claims).1 fun m => ?_
    have each := State.stands_of_coherent site claims
    rw [State.lane_setLane]
    split
    next same => exact (same ▸ h.stands quiet origin (each l)).setLane
    next => exact (each m).setLane

/-- The other lanes' controllers stay, so that the lanes are coherent when the new controller is. -/
theorem State.setLane_lanesCoherent (h : s.lanesCoherent = true) (hv : (s.lane l).coherent = true → v.coherent = true) :
    (s.setLane l v).lanesCoherent = true := State.lanesCoherent_iff.2 fun m => by
  have each := State.lanesCoherent_iff.1 h
  rw [State.lane_setLane]
  split
  · exact hv (each l)
  · exact each m

theorem LaneMove.preserves (h : LaneMove s s l v) (hv : (s.lane l).coherent = true → v.coherent = true) :
    Preserves s (s.setLane l v) :=
  ⟨h.upholds (Preserves.refl s).toUpholds, fun lanes => State.setLane_lanesCoherent lanes hv⟩

/-- A lane that stays at its place, no motor of it started. -/
theorem SameControl.preserves (h : SameControl (s.lane l) v)
    (stopped : s.estop = true → (s.lane l).stopped = true → v.stopped = true) : Preserves s (s.setLane l v) :=
  LaneMove.preserves ⟨stopped, fun closed => .inl (h.state.trans closed), fun _ _ stands => h.markState.symm ▸ stands⟩ h.coherent

end LaneMove

/-! ### Entries to states (R63, R64) -/

theorem DwellLimits.of_isSome (d : DwellLimits) (st : LaneState) : (d.of st).isSome = st.timed := by cases st <;> rfl

theorem LaneUnit.enter_coherent (u : LaneUnit) (c : LaneSettings) {st : LaneState} (k : Bool) (hold : st ≠ .hold)
    (weighing : st ≠ .weighing) : (u.enter c st k).coherent = true := by
  rw [LaneUnit.coherent_iff]
  simp only [LaneUnit.enter, Option.isSome_none, hold, weighing, DwellLimits.of_isSome, Bool.false_eq_true, true_and,
    reduceCtorEq, false_imp_iff, implies_true, and_true]
  simp only [Bool.or_eq_true, Bool.and_eq_true, decide_eq_true_eq]
  exact Or.imp id And.left

@[simp] theorem State.enter_lane (s : State) (l m : Lane) (st : LaneState) (k : Bool) :
    (s.enter l st k).lane m = if m = l then (s.lane l).enter (s.laneSettings l) st k else s.lane m :=
  State.lane_setLane ..

/-- A lane enters a state that its claims, holdings and binding allow. -/
theorem LaneMove.enter {o s : State} {l : Lane} {st : LaneState} (k : Bool) (hold : st ≠ .hold)
    (open_ : (s.lane l).state ≠ .closed ∨ s.phase = .ready)
    (stands : o.quietUntilReady = true → o.siteCoherent = true → s.Stands l (s.lane l).markState → s.Stands l st) :
    LaneMove o s l ((s.lane l).enter (s.laneSettings l) st k) where
  stopped _ := id
  closed closed := .inr (open_.resolve_left (not_not_intro closed))
  stands quiet site h := by rw [LaneUnit.markState_of_ne_hold hold]; exact stands quiet site h

/-- After an entry the lane is coherent whatever it was, so that the lanes are coherent when the others are. -/
theorem State.enter_lanesCoherent {s : State} {l : Lane} {st : LaneState} (k : Bool) (hold : st ≠ .hold)
    (weighing : st ≠ .weighing) (others : ∀ m, m ≠ l → (s.lane m).coherent = true) :
    (s.enter l st k).lanesCoherent = true := State.lanesCoherent_iff.2 fun m => by
  rw [State.enter_lane]
  split
  · exact LaneUnit.enter_coherent _ _ k hold weighing
  next other => exact others m other

theorem Preserves.enter {s : State} {l : Lane} {st : LaneState} (k : Bool) (hold : st ≠ .hold) (weighing : st ≠ .weighing)
    (open_ : (s.lane l).state ≠ .closed ∨ s.phase = .ready)
    (stands : s.Stands l (s.lane l).markState → s.Stands l st) : Preserves s (s.enter l st k) :=
  (LaneMove.enter k hold open_ fun _ _ => stands).preserves fun _ => LaneUnit.enter_coherent _ _ k hold weighing

/-! ### Requests to barriers (R46, R47, R56) -/

theorem Barrier.stopped_iff {b : Barrier} :
    b.stopped = true ↔ b.state ≠ .rising ∧ b.state ≠ .falling ∧ b.lowerPending = false := by
  simp [Barrier.stopped, Barrier.raiseOut, Barrier.lowerOut, and_assoc]

theorem LaneUnit.stopped_iff {u : LaneUnit} : u.stopped = true ↔ ∀ i, (u.barrier i).stopped = true := by
  rw [LaneUnit.stopped, Bool.and_eq_true]
  exact ⟨fun ⟨a, x⟩ i => by cases i <;> assumption, fun h => ⟨h .a, h .x⟩⟩

/-- While ESTOP is active a request leaves a barrier as it is (R56). -/
theorem Barrier.raiseRequest_estop (t : BarrierTimes) (b : Barrier) : (b.raiseRequest t true).barrier = b := by
  unfold Barrier.raiseRequest
  split <;> rfl

theorem Barrier.lowerRequest_estop (t : BarrierTimes) (b : Barrier) : (b.lowerRequest t true).barrier = b := by
  unfold Barrier.lowerRequest
  split <;> rfl

/-- The unit that a barrier is put back on. -/
theorem State.putBarrier_eq (s : State) (l : Lane) (i : BarrierId) (r : BarrierStep) :
    s.putBarrier l i r = s.setLane l { (s.lane l).setBarrier i r.barrier with
      go := (s.lane l).go && !(r.fell && decide (i = .a)) } := by
  unfold State.putBarrier
  cases h : r.fell && decide (i = .a) <;> cases i <;> simp_all [LaneUnit.setBarrier]

theorem Preserves.putBarrier {s : State} {l : Lane} {i : BarrierId} {r : BarrierStep}
    (stopped : s.estop = true → ((s.lane l).barrier i).stopped = true → r.barrier.stopped = true) :
    Preserves s (s.putBarrier l i r) := by
  rw [State.putBarrier_eq]
  have control : SameControl (s.lane l) { (s.lane l).setBarrier i r.barrier with
      go := (s.lane l).go && !(r.fell && decide (i = .a)) } := by
    cases i <;> constructor <;> simp +contextual [LaneUnit.setBarrier]
  refine control.preserves fun estop before => LaneUnit.stopped_iff.2 fun j => ?_
  have each := LaneUnit.stopped_iff.1 before
  show (((s.lane l).setBarrier i r.barrier).barrier j).stopped = true
  rw [LaneUnit.barrier_setBarrier]
  split
  · exact stopped estop (each i)
  · exact each j

theorem Preserves.askRaise (s : State) (l : Lane) (i : BarrierId) : Preserves s (s.askRaise l i) :=
  .putBarrier fun estop h => by rw [State.raiseStep, estop, Barrier.raiseRequest_estop]; exact h

theorem Preserves.askLower (s : State) (l : Lane) (i : BarrierId) : Preserves s (s.askLower l i) :=
  .putBarrier fun estop h => by rw [State.lowerStep, estop, Barrier.lowerRequest_estop]; exact h

theorem Preserves.askLowerUnlessDown (s : State) (l : Lane) : Preserves s (s.askLowerUnlessDown l) := by
  unfold State.askLowerUnlessDown
  split
  · exact .refl s
  · exact .askLower ..

theorem State.putBarrier_lane_state (s : State) (l m : Lane) (i : BarrierId) (r : BarrierStep) :
    ((s.putBarrier l i r).lane m).state = (s.lane m).state := by
  rw [State.putBarrier_eq, State.lane_setLane]
  split
  next h => subst h; exact LaneUnit.setBarrier_state ..
  next => rfl

theorem State.putBarrier_lane_heldFrom (s : State) (l m : Lane) (i : BarrierId) (r : BarrierStep) :
    ((s.putBarrier l i r).lane m).heldFrom = (s.lane m).heldFrom := by
  rw [State.putBarrier_eq, State.lane_setLane]
  split
  next h => subst h; exact LaneUnit.setBarrier_heldFrom ..
  next => rfl

theorem State.putBarrier_lane_markState (s : State) (l m : Lane) (i : BarrierId) (r : BarrierStep) :
    ((s.putBarrier l i r).lane m).markState = (s.lane m).markState := by
  rw [LaneUnit.markState, State.putBarrier_lane_state, State.putBarrier_lane_heldFrom]
  rfl

/-! ### Holding (R82) -/

/-- An abandoned capture: its context is gone, and a notice may have been raised. -/
theorem State.abandon_eq (s : State) (l : Lane) (reason : CaptureReason) :
    ∃ t, Preserves s t ∧ t.lanes = s.lanes ∧ t.site = s.site
      ∧ s.abandon l reason = t.setLane l { s.lane l with capture := none } := by
  unfold State.abandon
  split
  next none =>
    refine ⟨s, .refl s, rfl, rfl, ?_⟩
    have stands : s = s.setLane l (s.lane l) := (congrArg (fun p => ({ s with lanes := p } : State)) (s.lanes.set_get l)).symm
    rw [← none]
    exact stands
  next c some =>
    exact ⟨s.raiseNotice .captureFailed (Option.some l) (s.laneSettings l).deck.noticeDeck (s.boundTicket l)
      (reason.toNat + 10 * (c.mode.toNat + 3 * originNat c.origin)) [], .raiseNotice .., rfl, rfl, rfl⟩

theorem LaneUnit.held_stopped (u : LaneUnit) (r : HoldReason) (h : u.stopped = true) : (u.held r).stopped = true := by
  rw [LaneUnit.stopped, Bool.and_eq_true, Barrier.stopped_iff, Barrier.stopped_iff] at h
  obtain ⟨⟨ar, af, _⟩, xr, xf, _⟩ := h
  rw [LaneUnit.stopped, Bool.and_eq_true, Barrier.stopped_iff, Barrier.stopped_iff]
  exact ⟨⟨ar, af, rfl⟩, xr, xf, rfl⟩

theorem LaneUnit.held_coherent {u : LaneUnit} (r : HoldReason) (h : u.state = .idle ∨ u.state.timed = true) :
    ({ u with capture := none }.held r : LaneUnit).coherent = true := by
  rw [LaneUnit.coherent_iff]
  refine ⟨iff_of_true rfl rfl, iff_of_true rfl rfl, iff_of_false nofun nofun, iff_of_false nofun nofun, nofun, ?_⟩
  rintro _ ⟨⟩
  exact h

/-- An entry to HOLD from IDLE or a timed state. -/
theorem Preserves.enterHold {s : State} {l : Lane} (r : HoldReason)
    (h : (s.lane l).state = .idle ∨ (s.lane l).state.timed = true) : Preserves s (s.enterHold l r) := by
  obtain ⟨t, passes, lanes, -, eq⟩ := s.abandon_eq l (if r = .estop then .estop else .held)
  have lane : t.lane l = s.lane l := congrArg (PerLane.get · l) lanes
  have held : s.enterHold l r =
      (t.setLane l (({ t.lane l with capture := none } : LaneUnit).held r)).laneHold l r (s.lane l).state := by
    unfold State.enterHold
    simp only [eq, State.lane_setLane, if_pos, lane]
    unfold State.setLane
    simp
  rw [held]
  refine passes.trans (Preserves.trans (LaneMove.preserves ?_ fun _ => LaneUnit.held_coherent r (lane ▸ h)) (.raiseNotice ..))
  refine ⟨fun _ stopped => LaneUnit.held_stopped _ r stopped, fun closed => ?_, fun _ _ stands => ?_⟩
  · rw [lane] at closed
    simp [closed, LaneState.timed] at h
  · have under_way : (t.lane l).state ≠ .hold := by
      rw [lane]; rintro hold; simp [hold, LaneState.timed] at h
    rwa [LaneUnit.markState_of_ne_hold under_way] at stands

theorem Preserves.hold (s : State) (l : Lane) (r : HoldReason) : Preserves s (s.hold l r) := by
  unfold State.hold
  split
  next => exact .refl s
  next idle =>
    split
    · exact .enterHold r (.inl idle)
    · exact .refl s
  next hold =>
    have move : LaneMove s s l { s.lane l with holdReason := some r } := ⟨fun _ => id, .inl, fun _ _ => id⟩
    refine (move.preserves fun coherent => ?_).trans (.raiseNotice ..)
    rw [LaneUnit.coherent_iff] at coherent ⊢
    obtain ⟨_, rest⟩ := coherent
    exact ⟨iff_of_true rfl hold, rest⟩
  next closed idle hold =>
    refine .enterHold r (.inr ?_)
    cases h : (s.lane l).state <;> simp_all [LaneState.timed]

/-- What a barrier reports to its lane. -/
theorem Preserves.takeBarrier {s : State} {l : Lane} {i : BarrierId} {r : BarrierStep}
    (stopped : s.estop = true → ((s.lane l).barrier i).stopped = true → r.barrier.stopped = true) :
    Preserves s (s.takeBarrier l i r) := by
  unfold State.takeBarrier
  have obstruction {t : State} (h : Preserves s t) :
      Preserves s (if r.obstructed then (t.raiseNotice .obstructed (some l) none 0 i.toNat []).hold l .obstructed else t) := by
    split
    · exact h.trans ((Preserves.raiseNotice ..).trans (.hold ..))
    · exact h
  apply obstruction
  split
  · exact (Preserves.putBarrier stopped).trans ((Preserves.raiseNotice ..).trans (.hold ..))
  · exact .putBarrier stopped

end Sys2Proof.Machine
end

section
/-! What every step keeps, part 3: the site register, the claim queues and the holders, and the ticket engine's operations. -/

namespace Sys2Proof.Machine

/-! ### The site register (R118 to R120) -/

theorem SiteKeyed.sublist {es fs : List SiteEntry} (h : SiteKeyed es) (sub : fs.Sublist es) : SiteKeyed fs where
  slots := h.slots.sublist (sub.map _)
  below e mem := h.below e (sub.subset mem)
  tags := h.tags.sublist (sub.filterMap _)
  bound := h.bound.sublist (sub.filterMap _)

/-- Entries that stay but may let their tag or their lane go. -/
theorem SiteKeyed.map {es : List SiteEntry} (h : SiteKeyed es) {f : SiteEntry → SiteEntry}
    (slot : ∀ e ∈ es, (f e).slot = e.slot) (tag : ∀ e ∈ es, (f e).tag = none ∨ (f e).tag = e.tag)
    (bound : ∀ e ∈ es, (f e).boundLane = none ∨ (f e).boundLane = e.boundLane) : SiteKeyed (es.map f) := by
  have sublist {α : Type} (g : SiteEntry → Option α) (given : ∀ e ∈ es, g (f e) = none ∨ g (f e) = g e) :
      ((es.map f).filterMap g).Sublist (es.filterMap g) := by
    clear slot tag bound h
    induction es with
    | nil => exact .slnil
    | cons e es ih =>
      obtain ⟨first, others⟩ := List.forall_mem_cons.1 given
      have rest := ih others
      rw [List.map_cons, List.filterMap_cons, List.filterMap_cons]
      obtain none | same := first
      · rw [none]
        cases g e with
        | none => exact rest
        | some _ => exact rest.trans (List.sublist_cons_self ..)
      · rw [same]
        cases g e with
        | none => exact rest
        | some _ => exact rest.cons_cons _
  refine ⟨?_, ?_, h.tags.sublist (sublist _ tag), h.bound.sublist (sublist _ bound)⟩
  · rw [List.map_map, List.map_congr_left (f := (fun e => e.slot) ∘ f) (g := fun e => e.slot) slot]
    exact h.slots
  · intro e mem
    obtain ⟨x, old, rfl⟩ := List.mem_map.1 mem
    rw [slot x old]
    exact h.below x old

/-- A slot names one entry. -/
theorem SiteKeyed.eq_of_slot {es : List SiteEntry} (h : SiteKeyed es) {e x : SiteEntry} (he : e ∈ es) (hx : x ∈ es)
    (slot : x.slot = e.slot) : x = e :=
  eq_of_key h.slots hx he slot

/-- A lane names one entry. -/
theorem SiteKeyed.eq_of_boundLane {es : List SiteEntry} (h : SiteKeyed es) {e x : SiteEntry} {l : Lane} (he : e ∈ es)
    (hx : x ∈ es) (hel : e.boundLane = some l) (hxl : x.boundLane = some l) : x = e := by
  obtain ⟨i, hi, rfl⟩ := List.getElem_of_mem he
  obtain ⟨j, hj, rfl⟩ := List.getElem_of_mem hx
  have apart := List.pairwise_iff_getElem.1 (List.pairwise_filterMap.1 h.bound)
  obtain less | rfl | more := Nat.lt_trichotomy i j
  · exact absurd rfl (apart i j hi hj less l hel l hxl)
  · rfl
  · exact absurd rfl (apart j i hj hi more l hxl l hel)

theorem insertSite_perm (e : SiteEntry) (es : List SiteEntry) : (insertSite e es).Perm (e :: es) := by
  induction es with
  | nil => exact .refl _
  | cons x xs ih =>
    unfold insertSite
    split
    · exact .refl _
    · exact (ih.cons x).trans (.swap ..)

theorem mem_insertSite {e x : SiteEntry} {es : List SiteEntry} : x ∈ insertSite e es ↔ x = e ∨ x ∈ es := by
  rw [(insertSite_perm e es).mem_iff, List.mem_cons]

/-- A new entry of a free slot, with a tag and a lane that no entry holds. -/
theorem SiteKeyed.insert {es : List SiteEntry} (h : SiteKeyed es) {e : SiteEntry} (slot : e.slot ∉ es.map fun x => x.slot)
    (below : e.slot < 64) (tag : ∀ t, e.tag = some t → ∀ x ∈ es, x.tag ≠ some t)
    (bound : ∀ l, e.boundLane = some l → ∀ x ∈ es, x.boundLane ≠ some l) : SiteKeyed (insertSite e es) := by
  have keys {α : Type} (g : SiteEntry → Option α) (nodup : (es.filterMap g).Nodup)
      (fresh : ∀ a, g e = some a → ∀ x ∈ es, g x ≠ some a) : ((insertSite e es).filterMap g).Nodup := by
    rw [((insertSite_perm e es).filterMap g).nodup_iff, List.filterMap_cons]
    split
    next => exact nodup
    next a given =>
      refine List.nodup_cons.2 ⟨fun mem => ?_, nodup⟩
      obtain ⟨x, mem, held⟩ := List.mem_filterMap.1 mem
      exact fresh a given x mem held
  refine ⟨?_, fun x mem => ?_, keys _ h.tags tag, keys _ h.bound bound⟩
  · rw [((insertSite_perm e es).map _).nodup_iff]
    exact List.nodup_cons.2 ⟨slot, h.slots⟩
  · exact (mem_insertSite.1 mem).elim (fun eq => eq ▸ below) (h.below x)

/-- The entry in one slot is bound to a lane that none was bound to. -/
theorem SiteKeyed.bind {es : List SiteEntry} (h : SiteKeyed es) {l : Lane} (n : Nat)
    (unbound : ∀ e ∈ es, e.boundLane ≠ some l) :
    SiteKeyed (es.map fun e => if e.slot = n then { e with boundLane := some l } else e) := by
  let f (e : SiteEntry) : SiteEntry := if e.slot = n then { e with boundLane := some l } else e
  have keys (e : SiteEntry) : (f e).slot = e.slot ∧ (f e).tag = e.tag := by simp only [f]; split <;> exact ⟨rfl, rfl⟩
  have lanes (e : SiteEntry) (m : Lane) (eq : (f e).boundLane = some m) :
      (m = l ∧ e.slot = n) ∨ e.boundLane = some m := by
    simp only [f] at eq
    split at eq
    next here => exact .inl ⟨(Option.some.inj eq).symm, here⟩
    next => exact .inr eq
  refine ⟨?_, fun e mem => ?_, ?_, ?_⟩
  · rw [List.map_map, List.map_congr_left (f := (fun e : SiteEntry => e.slot) ∘ f) (g := fun e => e.slot) fun e _ => (keys e).1]
    exact h.slots
  · obtain ⟨x, old, rfl⟩ := List.mem_map.1 mem
    exact (keys x).1.symm ▸ h.below x old
  · rw [List.filterMap_map, show (fun e : SiteEntry => e.tag) ∘ f = fun e => e.tag from funext fun e => (keys e).2]
    exact h.tags
  · rw [List.filterMap_map]
    refine List.pairwise_filterMap.2 (List.Pairwise.imp_of_mem ?_
      ((List.pairwise_filterMap.1 h.bound).and (List.pairwise_map.1 h.slots)))
    rintro x y hx hy ⟨apart, differs⟩ m eqx k eqy rfl
    obtain ⟨rfl, slotx⟩ | boundx := lanes x m eqx
    · obtain ⟨_, sloty⟩ | boundy := lanes y m eqy
      · exact differs (slotx.trans sloty.symm)
      · exact unbound y hy boundy
    · obtain ⟨rfl, _⟩ | boundy := lanes y m eqy
      · exact unbound x hx boundx
      · exact apart m boundx m boundy rfl

/-! ### Operations on the registers of a passage -/

/-- `t` differs from `s` in the claim queues, the holders and the site register alone. -/
structure SamePassages (s t : State) : Prop where
  pending : t.pending = s.pending
  estop : t.estop = s.estop
  phase : t.phase = s.phase
  clock : t.clock.set = s.clock.set
  roll : t.tickets.rollPending = s.tickets.rollPending
  lanes : t.lanes = s.lanes
  decks : t.decks = s.decks
  vehicles : t.vehicles = s.vehicles
  store : t.store = s.store
  notices : t.notices = s.notices

theorem SamePassages.lane {s t : State} (h : SamePassages s t) (l : Lane) : t.lane l = s.lane l :=
  congrArg (PerLane.get · l) h.lanes

/-- What an operation on those registers has to say, in an event that began in `o`. -/
theorem SamePassages.upholds {o s t : State} (h : SamePassages s t) (before : Upholds o s)
    (places : o.siteCoherent = true → o.claimsCoherent = true → s.siteCoherent = true → s.claimsCoherent = true →
      t.siteCoherent = true ∧ t.claimsCoherent = true) : Upholds o t where
  pending := h.pending.trans before.pending
  estop safe := State.estopSafe_iff.2 fun estop l => by
    rw [h.lane]; exact State.estopSafe_iff.1 (before.estop safe) (h.estop ▸ estop) l
  decks coherent := State.decksCoherent_iff.2 fun d => by
    rw [State.deck, h.decks]; exact State.decksCoherent_iff.1 (before.decks coherent) d
  notices bounded := State.noticesBounded_iff.2 fun st => by
    rw [h.notices]; exact State.noticesBounded_iff.1 (before.notices bounded) st
  quiet quiet := State.quietUntilReady_iff.2 <| by
    rw [h.phase, h.clock, h.roll, h.store]
    simp only [h.lane]
    exact State.quietUntilReady_iff.1 (before.quiet quiet)
  fits quiet fits := h.store ▸ before.fits quiet fits
  vehicles keyed := h.vehicles ▸ before.vehicles keyed
  places quiet site claims :=
    have ⟨site', claims'⟩ := before.places quiet site claims
    places site claims site' claims'

theorem SamePassages.lanesCoherent {s t : State} (h : SamePassages s t) (lanes : s.lanesCoherent = true) :
    t.lanesCoherent = true := State.lanesCoherent_iff.2 fun l => by
  rw [h.lane]; exact State.lanesCoherent_iff.1 lanes l

theorem SamePassages.preservesAfter {o s t : State} (h : SamePassages s t) (before : Preserves o s)
    (places : o.siteCoherent = true → o.claimsCoherent = true → s.siteCoherent = true → s.claimsCoherent = true →
      t.siteCoherent = true ∧ t.claimsCoherent = true) : Preserves o t :=
  ⟨h.upholds before.toUpholds places, h.lanesCoherent ∘ before.lanes⟩

theorem SamePassages.preserves {s t : State} (h : SamePassages s t)
    (places : s.siteCoherent = true → s.claimsCoherent = true → t.siteCoherent = true ∧ t.claimsCoherent = true) :
    Preserves s t :=
  h.preservesAfter (.refl s) fun _ _ => places

/-- A change of the site register alone that binds no further lane. -/
theorem SamePassages.preserves_of_site {s t : State} (h : SamePassages s t) (claims : t.claims = s.claims)
    (holders : t.holders = s.holders) (site : SiteKeyed s.site.entries → SiteKeyed t.site.entries)
    (bound : SiteKeyed s.site.entries → ∀ e ∈ t.site.entries, ∀ l, e.boundLane = some l →
      ∃ x ∈ s.site.entries, x.boundLane = some l) : Preserves s t :=
  h.preserves fun keyed coherent => by
    have keys := (State.siteCoherent_iff.1 keyed).1
    refine State.coherent_of_stands (site keys) (claims ▸ (State.claimsCoherent_iff.1 coherent).1) fun l => ?_
    have stands := State.stands_of_coherent keyed coherent l
    rw [h.lane]
    refine ⟨fun d mem => stands.claim d (claims ▸ mem), fun d eq => stands.holding d (holders ▸ eq), fun e mem eq => ?_⟩
    obtain ⟨x, mem, bound⟩ := bound keys e mem l eq
    exact stands.binding x mem bound

/-- A change of the claim queues and the holders alone that leaves no new claim and no new holder. -/
theorem SamePassages.preserves_of_less {s t : State} (h : SamePassages s t) (site : t.site = s.site)
    (claims : ∀ d, (t.claims.get d).Sublist (s.claims.get d))
    (holders : ∀ d l, t.holders.get d = some l → s.holders.get d = some l) : Preserves s t :=
  h.preserves fun keyed coherent => by
    refine State.coherent_of_stands (site ▸ (State.siteCoherent_iff.1 keyed).1)
      (fun d => ((State.claimsCoherent_iff.1 coherent).1 d).sublist (claims d)) fun l => ?_
    have stands := State.stands_of_coherent keyed coherent l
    rw [h.lane]
    exact ⟨fun d mem => stands.claim d ((claims d).subset mem), fun d eq => stands.holding d (holders d l eq),
      fun e mem => stands.binding e (site ▸ mem)⟩

theorem Preserves.releaseSite (s : State) (slot : Nat) : Preserves s (s.releaseSite slot) := by
  have same : SamePassages s (s.releaseSite slot) := by constructor <;> rfl
  have sub : (s.releaseSite slot).site.entries.Sublist s.site.entries := List.filter_sublist
  exact same.preserves_of_site rfl rfl (·.sublist sub) fun _ e mem l eq => ⟨e, sub.subset mem, eq⟩

theorem Preserves.unbind (s : State) (l : Lane) : Preserves s (s.unbind l) := by
  have same : SamePassages s (s.unbind l) := by constructor <;> rfl
  have each (e : SiteEntry) : (if e.boundLane = some l then { e with boundLane := none } else e : SiteEntry).boundLane = none
      ∨ (if e.boundLane = some l then { e with boundLane := none } else e : SiteEntry).boundLane = e.boundLane := by
    split
    · exact .inl rfl
    · exact .inr rfl
  refine same.preserves_of_site rfl rfl (fun keyed => keyed.map (fun e _ => ?_) (fun e _ => .inr ?_) fun e _ => each e) ?_
  · split <;> rfl
  · split <;> rfl
  · intro _ e mem m eq
    obtain ⟨x, old, rfl⟩ := List.mem_map.1 mem
    exact ⟨x, old, (each x).elim (fun none => nomatch none.symm.trans eq) fun same => same.symm.trans eq⟩

/-- An entry that is changed in its slot, its slot, tag and lane apart. -/
theorem Preserves.updateSite {s : State} {e f : SiteEntry} (mem : e ∈ s.site.entries) (slot : f.slot = e.slot)
    (tag : f.tag = e.tag) (bound : f.boundLane = e.boundLane) : Preserves s (s.updateSite e.slot fun _ => f) := by
  have same : SamePassages s (s.updateSite e.slot fun _ => f) := by constructor <;> rfl
  have each (keyed : SiteKeyed s.site.entries) (x : SiteEntry) (hx : x ∈ s.site.entries) :
      (if x.slot = e.slot then f else x).slot = x.slot ∧ (if x.slot = e.slot then f else x).tag = x.tag
        ∧ (if x.slot = e.slot then f else x).boundLane = x.boundLane := by
    split
    next here =>
      obtain rfl := keyed.eq_of_slot mem hx here
      exact ⟨slot, tag, bound⟩
    next => exact ⟨rfl, rfl, rfl⟩
  refine same.preserves_of_site rfl rfl (fun keyed => ?_) fun keyed y hy l eq => ?_
  · exact keyed.map (fun x hx => (each keyed x hx).1) (fun x hx => .inr (each keyed x hx).2.1)
      fun x hx => .inr (each keyed x hx).2.2
  · obtain ⟨x, hx, rfl⟩ := List.mem_map.1 hy
    exact ⟨x, hx, (each keyed x hx).2.2.symm.trans eq⟩

theorem Preserves.leaveClaim (s : State) (l : Lane) : Preserves s (s.leaveClaim l) := by
  have same : SamePassages s (s.leaveClaim l) := by constructor <;> rfl
  exact same.preserves_of_less rfl (fun d => by rw [State.leaveClaim_get]; exact List.filter_sublist) fun _ _ => id

theorem Preserves.releaseDecks (s : State) (l : Lane) : Preserves s (s.releaseDecks l) := by
  have same : SamePassages s (s.releaseDecks l) := by constructor <;> rfl
  refine same.preserves_of_less rfl (fun d => .refl _) fun d m eq => ?_
  rw [State.releaseDecks_get] at eq
  split at eq
  · cases eq
  · exact eq

/-- A lane on its passage from ENTERING on may become holder. -/
theorem Preserves.takeDecks {s : State} {l : Lane} (h : (s.lane l).markState ∈ holdingStates) :
    Preserves s (s.takeDecks l) := by
  have same : SamePassages s (s.takeDecks l) := by constructor <;> rfl
  refine same.preserves fun site claims => ?_
  refine State.coherent_of_stands (State.siteCoherent_iff.1 site).1 (State.claimsCoherent_iff.1 claims).1 fun m => ?_
  have stands := State.stands_of_coherent site claims m
  refine ⟨stands.claim, fun d eq => ?_, stands.binding⟩
  have holder : m = l ∨ s.holders.get d = some m := by
    cases d <;> simp only [State.takeDecks, PerDeck.get] at eq ⊢ <;> split at eq
    all_goals first | exact .inr eq | exact .inl (Option.some.inj eq).symm
  obtain rfl | held := holder
  · exact h
  · exact stands.holding d held

theorem State.hasClaim_eq_false_iff {s : State} {l : Lane} : s.hasClaim l = false ↔ ∀ d, l ∉ s.claims.get d := by
  rw [Deck.forall_iff, State.hasClaim, Bool.or_eq_false_iff]
  simp [PerDeck.get]

theorem State.joinClaim_get (s : State) (l : Lane) (d : Deck) :
    (s.joinClaim l).claims.get d = s.claims.get d ∨ (s.joinClaim l).claims.get d = s.claims.get d ++ [l] := by
  unfold State.joinClaim
  split <;> cases d <;> simp [PerDeck.get]

/-- A lane in ADMITTING without a claim joins the queues. -/
theorem Preserves.joinClaim {o s : State} {l : Lane} (before : Preserves o s) (admitting : (s.lane l).markState = .admitting)
    (none : o.siteCoherent = true → o.claimsCoherent = true → s.hasClaim l = false) : Preserves o (s.joinClaim l) := by
  have same : SamePassages s (s.joinClaim l) := by unfold State.joinClaim; split <;> constructor <;> rfl
  have others : (s.joinClaim l).holders = s.holders ∧ (s.joinClaim l).site = s.site := by
    unfold State.joinClaim; split <;> exact ⟨rfl, rfl⟩
  refine same.preservesAfter before fun site₀ claims₀ site claims => ?_
  have free := State.hasClaim_eq_false_iff.1 (none site₀ claims₀)
  have nodup := (State.claimsCoherent_iff.1 claims).1
  refine State.coherent_of_stands (others.2 ▸ (State.siteCoherent_iff.1 site).1) (fun d => ?_) fun m => ?_
  · obtain eq | eq := s.joinClaim_get l d <;> rw [eq]
    · exact nodup d
    · exact List.nodup_append.2 ⟨nodup d, List.nodup_cons.2 ⟨List.not_mem_nil, .nil⟩, by rintro a ha _ hb rfl; exact free d (List.mem_singleton.1 hb ▸ ha)⟩
  · have stands := State.stands_of_coherent site claims m
    rw [same.lane]
    refine ⟨fun d mem => ?_, fun d eq => stands.holding d (others.1 ▸ eq), fun e mem => stands.binding e (others.2 ▸ mem)⟩
    obtain eq | eq := s.joinClaim_get l d <;> rw [eq] at mem
    · exact stands.claim d mem
    · obtain old | new := List.mem_append.1 mem
      · exact stands.claim d old
      · exact List.mem_singleton.1 new ▸ admitting

/-! ### The ticket engine (7.3, 7.4) -/

theorem Preserves.journalLowCheck (s : State) : Preserves s s.journalLowCheck := by
  have flag (low : Bool) : Preserves s { s with journalLow := low } :=
    SameYard.preserves_of_same (by constructor <;> rfl) (fun _ => rfl) rfl rfl
  unfold State.journalLowCheck
  split
  · split
    · exact .refl s
    · exact (flag true).trans (.raiseNotice ..)
  · exact flag false

/-- A change of the index/totals record and of the ticket engine that leaves the roll-write-pending flag. -/
theorem Preserves.tickets (s : State) (index : IndexTotals) {tickets : TicketEngine}
    (roll : tickets.rollPending = s.tickets.rollPending) : Preserves s { s with index := index, tickets := tickets } :=
  SameYard.preserves_of_same (by constructor <;> first | exact roll | rfl) (fun _ => rfl) rfl rfl

theorem Preserves.permitCapOf (n : Nat) (s : State) (x : TicketSection) : Preserves s (State.permitCapOf n s x) := by
  unfold State.permitCapOf
  simp only
  split
  · exact .after (.raiseNotice ..) (.tickets s s.index rfl)
  · exact .refl s

theorem Preserves.permitCaps (s : State) (e : JournalEntry) : Preserves s (s.permitCaps e) := by
  unfold State.permitCaps
  split
  · exact .foldl _ (Preserves.permitCapOf e.ticket) _ s
  · exact .refl s

theorem Preserves.closeEntry (s : State) (slot : Nat) (j : JournalEntry) : Preserves s (s.closeEntry slot j) :=
  .after (.releaseSite ..) (.tickets s _ rfl)

theorem Preserves.closeNotices (s : State) (l : Lane) (j : JournalEntry) : Preserves s (s.closeNotices l j) :=
  ((Preserves.raiseNotice ..).trans (.permitCaps ..)).trans (.journalLowCheck _)

/-- A weighing is applied to an entry of the register while a slot of the write queue is free. -/
theorem Preserves.applyWeighing {s : State} {e : SiteEntry} (l : Lane) (mode : CaptureMode) (w : Weighing)
    (tare : Option Weighing) (mem : e ∈ s.site.entries) (free : s.slotFree = true)
    (open_ : s.phase = .ready ∨ ∃ l, (s.lane l).state ≠ .closed) : Preserves s (s.applyWeighing l mode e w tare) := by
  unfold State.applyWeighing
  split
  · exact .after (.raiseNotice ..) <| .after (.enqueue (by exact free) (by exact open_) _) <| .after (.updateSite mem rfl rfl rfl) <|
      .tickets s s.index rfl
  · exact .after (.closeNotices ..) <| .after (.enqueue (by exact free) (by exact open_) _) <| .after (.closeEntry ..) <| .tickets s s.index rfl
  · exact .after (.enqueue (by exact free) (by exact open_) _) (.updateSite mem rfl rfl rfl)
  · exact .after (.closeNotices ..) <| .after (.enqueue (by exact free) (by exact open_) _) (.closeEntry ..)

/-! ### The ticket engine leaves the lanes, the claims and the holders -/

/-- `t` has the lane controllers, the claim queues and the holders of `s`. -/
structure SameLanes (s t : State) : Prop where
  lanes : t.lanes = s.lanes
  claims : t.claims = s.claims
  holders : t.holders = s.holders

theorem SameLanes.refl (s : State) : SameLanes s s := ⟨rfl, rfl, rfl⟩

theorem SameLanes.trans {s t u : State} (h : SameLanes s t) (k : SameLanes t u) : SameLanes s u :=
  ⟨k.lanes.trans h.lanes, k.claims.trans h.claims, k.holders.trans h.holders⟩

theorem SameLanes.after {s t u : State} (k : SameLanes t u) (h : SameLanes s t) : SameLanes s u := h.trans k

theorem SameLanes.lane {s t : State} (h : SameLanes s t) (l : Lane) : t.lane l = s.lane l := congrArg (PerLane.get · l) h.lanes

theorem SameLanes.journalLowCheck (s : State) : SameLanes s s.journalLowCheck := by
  unfold State.journalLowCheck
  split
  · split <;> exact ⟨rfl, rfl, rfl⟩
  · exact ⟨rfl, rfl, rfl⟩

theorem SameLanes.dropBinding (s : State) (l : Lane) : SameLanes s (s.dropBinding l) := by
  unfold State.dropBinding
  split
  · exact .refl s
  · split
    · exact .after (.journalLowCheck _) ⟨rfl, rfl, rfl⟩
    · exact ⟨rfl, rfl, rfl⟩

theorem SameLanes.permitCaps (s : State) (e : JournalEntry) : SameLanes s (s.permitCaps e) := by
  unfold State.permitCaps
  split
  · refine List.foldlRecOn _ _ (motive := fun t => SameLanes s t) (.refl s) fun t sofar x _ => sofar.trans ?_
    unfold State.permitCapOf
    simp only
    split <;> exact ⟨rfl, rfl, rfl⟩
  · exact .refl s

theorem SameLanes.closeNotices (s : State) (l : Lane) (j : JournalEntry) : SameLanes s (s.closeNotices l j) :=
  .after (.journalLowCheck _) <| .after (.permitCaps ..) ⟨rfl, rfl, rfl⟩

theorem SameLanes.applyWeighing (s : State) (l : Lane) (mode : CaptureMode) (e : SiteEntry) (w : Weighing)
    (tare : Option Weighing) : SameLanes s (s.applyWeighing l mode e w tare) := by
  unfold State.applyWeighing
  split
  · exact ⟨rfl, rfl, rfl⟩
  · exact .after (.closeNotices ..) ⟨rfl, rfl, rfl⟩
  · exact ⟨rfl, rfl, rfl⟩
  · exact .after (.closeNotices ..) ⟨rfl, rfl, rfl⟩

end Sys2Proof.Machine
end

section
/-! What every step keeps, part 4: the chains of the lane controller. Each operation that a state of the passage calls keeps the
invariants from a lane in that state. -/

namespace Sys2Proof.Machine

/-! ### Capture (chapter 5) -/

section Capture

variable {s : State} {l : Lane}

theorem State.ready_or_open (h : (s.lane l).state ≠ .closed) : s.phase = .ready ∨ ∃ m, (s.lane m).state ≠ .closed :=
  .inr ⟨l, h⟩

/-- A weighing is recorded only while an ordinary slot is free (R95). -/
theorem State.slotFree_of_unmet (h : s.unmet l = none) : s.slotFree = true := by
  rw [State.unmet] at h
  repeat' split at h
  all_goals simp_all

theorem State.boundEntry?_mem {e : SiteEntry} (h : s.boundEntry? l = some e) :
    e ∈ s.site.entries ∧ e.boundLane = some l :=
  ⟨List.mem_of_find?_eq_some h, by simpa using List.find?_some h⟩

/-- The lanes of a recorded capture: the context and the dwell timer of its own lane are gone. -/
theorem SameLanes.recordCapture (s : State) (l : Lane) (c : CaptureContext) :
    SameLanes (s.setLane l { s.lane l with capture := none, dwell := none }) (s.recordCapture l c) := by
  unfold State.recordCapture
  simp only
  split
  · exact .refl _
  · exact (SameLanes.applyWeighing ..).trans ⟨rfl, rfl, rfl⟩

theorem Upholds.recordCapture (c : CaptureContext) (weighing : (s.lane l).state = .weighing) (free : s.slotFree = true) :
    Upholds s (s.recordCapture l c) := by
  have move : LaneMove s s l { s.lane l with capture := none, dwell := none } := ⟨fun _ => id, .inl, fun _ _ => id⟩
  refine (move.upholds (Preserves.refl s).toUpholds).trans ?_
  unfold State.recordCapture
  simp only
  split
  · exact (Preserves.refl _).toUpholds
  next e bound =>
    have opened : ((s.setLane l { s.lane l with capture := none, dwell := none }).lane l).state ≠ .closed := by
      simp [weighing]
    exact (Preserves.after (.raiseNotice ..) <|
      .applyWeighing l _ _ _ (State.boundEntry?_mem bound).1 free (State.ready_or_open opened)).toUpholds

/-- An entry to a state behind operations that left the lane controllers as they were but for the lane's own. -/
theorem Preserves.of_enter {o t : State} {st : LaneState} {k : Bool} (upholds : Upholds o t) (hold : st ≠ .hold)
    (weighing : st ≠ .weighing) (open_ : (t.lane l).state ≠ .closed ∨ t.phase = .ready)
    (stands : o.siteCoherent = true → t.Stands l (t.lane l).markState → t.Stands l st)
    (others : ∀ m, m ≠ l → t.lane m = o.lane m) : Preserves o (t.enter l st k) :=
  ⟨(LaneMove.enter k hold open_ fun _ => stands).upholds upholds, fun lanes => State.enter_lanesCoherent k hold weighing fun m differs =>
    others m differs ▸ State.lanesCoherent_iff.1 lanes m⟩

theorem State.putBarrier_other {m : Lane} (differs : m ≠ l) (i : BarrierId) (r : BarrierStep) :
    (s.putBarrier l i r).lane m = s.lane m := by
  rw [State.putBarrier_eq, State.lane_setLane, if_neg differs]

/-- An entry that a lane may make, a barrier being asked before it; one in FAULT holds the lane from the new state. -/
theorem Preserves.hold_if {o t : State} (b : Bool) (reason : HoldReason) (h : Preserves o t) {u : State}
    (otherwise : b = false → Preserves t u) : Preserves o (if b = true then t.hold l reason else u) := by
  split
  · exact h.trans (.hold ..)
  next goes => exact h.trans (otherwise (Bool.not_eq_true _ ▸ goes))

theorem Preserves.recordAndLeave (c : CaptureContext) (weighing : (s.lane l).state = .weighing) (free : s.slotFree = true) :
    Preserves s ((s.recordCapture l c).enterLeaving l) := by
  have recorded := Upholds.recordCapture c weighing free
  have lanes := SameLanes.recordCapture s l c
  have own : ((s.recordCapture l c).lane l).state = .weighing := by simp [lanes.lane, weighing]
  have asked : ((State.askRaise (s.recordCapture l c) l .x).lane l).state = .weighing :=
    (State.putBarrier_lane_state ..).trans own
  have entered : Preserves s (((s.recordCapture l c).askRaise l .x).enter l .leaving false) := by
    refine .of_enter (recorded.trans (Preserves.askRaise ..).toUpholds) nofun nofun (.inl (by simp [asked]))
      (fun _ stands => ?_) fun m differs => ?_
    · rw [LaneUnit.markState_of_ne_hold (by simp [asked]), asked] at stands
      exact stands.of_leadsTo rfl
    · exact (State.putBarrier_other differs ..).trans ((lanes.lane m).trans (by rw [State.lane_setLane, if_neg differs]))
  exact .hold_if _ _ entered fun _ => .refl _

theorem Preserves.evalCapture (weighing : (s.lane l).state = .weighing) : Preserves s (s.evalCapture l) := by
  unfold State.evalCapture
  split
  next => exact .refl s
  next c some =>
    split
    next r _ =>
      exact SameControl.preserves (v := { s.lane l with capture := Option.some { c with pending := r } })
        ⟨rfl, rfl, rfl, rfl, by simp [some], id⟩ fun _ => id
    next met => exact .recordAndLeave c weighing (State.slotFree_of_unmet met)

theorem State.enter_setLane (st : LaneState) (k : Bool) (v : LaneUnit) : (s.enter l st k).setLane l v = s.setLane l v :=
  congrArg (fun p => ({ s with lanes := p } : State)) (PerLane.set_set ..)

/-- The unit of a lane that has begun a capture. -/
theorem LaneUnit.weighing_coherent (u : LaneUnit) (c : LaneSettings) (x : CaptureContext) :
    ({ u.enter c .weighing false with armed := true, capture := some x } : LaneUnit).coherent = true := by
  rw [LaneUnit.coherent_iff]
  exact ⟨iff_of_false nofun nofun, iff_of_false nofun nofun, iff_of_true rfl rfl, iff_of_true rfl rfl, nofun, nofun⟩

theorem Preserves.beginCapture (onDeck : (s.lane l).state = .onDeck) (m : CaptureMode) (code : Option Nat)
    (origin : Option Station) : Preserves s (s.beginCapture l m code origin) := by
  unfold State.beginCapture
  simp only [State.enter_setLane, State.enter_lane, if_pos]
  have move : LaneMove s s l { (s.lane l).enter (s.laneSettings l) .weighing false with
      armed := true, capture := some { mode := m, sectionCode := code, origin := origin, pending := .status } } := by
    refine ⟨fun _ => id, fun closed => by simp [onDeck] at closed, fun _ _ stands => ?_⟩
    rw [LaneUnit.markState_of_ne_hold (by simp [onDeck]), onDeck] at stands
    exact stands.of_leadsTo rfl
  refine (move.preserves fun _ => LaneUnit.weighing_coherent ..).trans (.evalCapture ?_)
  rw [State.lane_setLane, if_pos rfl]
  rfl

theorem State.onDeck_of_autoDue (h : s.autoDue l = true) : (s.lane l).state = .onDeck := by
  simp only [State.autoDue, Bool.and_eq_true, decide_eq_true_eq] at h
  obtain ⟨⟨⟨⟨onDeck, _⟩, _⟩, _⟩, _⟩ := h
  exact onDeck

theorem Preserves.autoCapture (s : State) (l : Lane) : Preserves s (s.autoCapture l) := by
  unfold State.autoCapture
  split
  next due => exact .beginCapture (State.onDeck_of_autoDue due) ..
  next => exact .refl s

/-- A change that keeps a lane at its place and its barriers as they are. -/
theorem Preserves.arm (s : State) (l : Lane) (b : Bool) : Preserves s (s.setLane l { s.lane l with armed := b }) :=
  SameControl.preserves (v := { s.lane l with armed := b }) ⟨rfl, rfl, rfl, rfl, rfl, id⟩ fun _ => id

end Capture

/-! ### Passage (4.5) -/

section Passage

variable {s : State} {l : Lane}

theorem Preserves.enterOnDeck (k : Bool) (open_ : (s.lane l).state ≠ .closed ∨ s.phase = .ready)
    (stands : s.Stands l (s.lane l).markState → s.Stands l .onDeck) : Preserves s (s.enterOnDeck l k) :=
  .after (.autoCapture ..) <| .after (.arm ..) <| .enter k nofun nofun open_ stands

/-- What a lane in one state of the passage may enter next. -/
theorem State.Stands.next {a b : LaneState} (h : s.Stands l (s.lane l).markState) (state : (s.lane l).state = a)
    (hold : a ≠ .hold) (leads : a.leadsTo b = true) : s.Stands l b := by
  rw [LaneUnit.markState_of_ne_hold (state ▸ hold), state] at h
  exact h.of_leadsTo leads

/-- A lane in a state of the passage enters the next one. -/
theorem Preserves.enterNext {a b : LaneState} (k : Bool) (state : (s.lane l).state = a) (under_way : a.timed = true)
    (hold : b ≠ .hold) (weighing : b ≠ .weighing) (leads : a.leadsTo b = true) : Preserves s (s.enter l b k) := by
  refine .enter k hold weighing (.inl ?_) fun stands => stands.next state ?_ leads
  · rw [state]; rintro rfl; cases under_way
  · rintro rfl; cases under_way

theorem State.enter_lane_state (st : LaneState) (k : Bool) : ((s.enter l st k).lane l).state = st := by
  rw [State.enter_lane, if_pos rfl]
  rfl

theorem Preserves.evalPositioning (h : (s.lane l).state = .positioning) : Preserves s (s.evalPositioning l) := by
  unfold State.evalPositioning
  simp only
  split
  · exact .enterOnDeck false (.inl (by simp [h])) fun stands => stands.next h nofun rfl
  · exact .refl s

theorem Preserves.evalEntering (h : (s.lane l).state = .entering) : Preserves s (s.evalEntering l) := by
  unfold State.evalEntering
  simp only
  split
  · have asked : ((s.askLower l .a).lane l).state = .entering := (State.putBarrier_lane_state ..).trans h
    have entered : Preserves s ((s.askLower l .a).enter l .positioning false) :=
      .after (.enterNext false asked rfl nofun nofun rfl) (.askLower ..)
    exact .hold_if _ _ entered fun _ => .evalPositioning (State.enter_lane_state ..)
  · exact .refl s

/-! ### The arbiter (R72 to R74) -/

/-- A grant takes the decks as the lane enters ENTERING; the order of these parts does not show. -/
theorem State.grant_eq (s : State) (l : Lane) :
    s.grant l =
      let t := (((s.leaveClaim l).askRaise l .a).enter l .entering false).takeDecks l
      if s.faulted l .a then t.hold l .barrierFault else t.evalEntering l := rfl

theorem Preserves.grant (h : (s.lane l).state = .admitting) : Preserves s (s.grant l) := by
  rw [State.grant_eq]
  have asked : (((s.leaveClaim l).askRaise l .a).lane l).state = .admitting := (State.putBarrier_lane_state ..).trans h
  have noClaim : ∀ d, l ∉ ((s.leaveClaim l).askRaise l .a).claims.get d :=
    State.hasClaim_eq_false_iff.1 (s.leaveClaim_hasClaim l)
  have entered : Preserves s (((s.leaveClaim l).askRaise l .a).enter l .entering false) := by
    refine .after (.enter false nofun nofun (.inl (by simp [asked])) fun stands => ?_) <| .after (.askRaise ..) (.leaveClaim ..)
    rw [LaneUnit.markState_of_ne_hold (by simp [asked]), asked] at stands
    refine ⟨fun d mem => absurd mem (noClaim d), fun d eq => ?_, fun e mem eq => ?_⟩
    · exact absurd (stands.holding d eq) (by decide)
    · decide
  have state : ((((s.leaveClaim l).askRaise l .a).enter l .entering false).lane l).state = .entering :=
    State.enter_lane_state ..
  have taken := entered.trans (Preserves.takeDecks (l := l) (by
    rw [LaneUnit.markState_of_ne_hold (by simp only [state]; nofun), state]; decide))
  exact .hold_if _ _ taken fun _ => .evalEntering state

/-- A deck that is not in CAL_EDIT goes out of service. -/
theorem Preserves.deckOut {d : Deck} (n : Nat) (h : (s.deck d).cal.state ≠ .calEdit) : Preserves s (s.deckOut d n) := by
  have out : Preserves s (s.setDeck d { s.deck d with cal := { (s.deck d).cal with state := .outOfService } }) := by
    refine SameYard.preserves (by constructor <;> rfl) (fun coherent => State.decksCoherent_iff.2 fun e => ?_) id
      (fun _ => .inl) fun _ => id
    have each := State.decksCoherent_iff.1 coherent
    rw [State.deck_setDeck]
    split
    · have own := each d
      simp only [DeckCal.coherent, h, iff_false, Bool.and_eq_true, decide_eq_true_eq] at own
      simp only [DeckCal.coherent, reduceCtorEq, iff_false, Bool.and_eq_true, decide_eq_true_eq]
      exact own
    · exact each e
  have activated (t : State) : Preserves t (t.activate (calBadCondition d)) := by
    refine SameYard.preserves_of_same ?_ (fun _ => rfl) rfl rfl
    constructor <;> first | rfl | (cases d <;> rfl)
  refine out.trans ?_
  unfold State.deckOut State.activateWith
  simp only
  split
  · exact .refl _
  · split
    · exact .after (.raiseNotice ..) (activated _)
    · exact activated _

theorem State.deckOut_other (s : State) {d e : Deck} (n : Nat) (h : e ≠ d) : (s.deckOut d n).deck e = s.deck e := by
  unfold State.deckOut State.activateWith
  simp only
  split
  · rw [State.deck_setDeck, if_neg h]
  · split
    all_goals exact (State.deck_setDeck s d e _).trans (if_neg h)

/-- Decks go out of service one after the other. -/
theorem Preserves.decksOut {ds : List Deck} (nodup : ds.Nodup) (h : ∀ d ∈ ds, (s.deck d).cal.state ≠ .calEdit) :
    Preserves s (ds.foldl (fun t d => t.deckOut d 0) s) := by
  induction ds generalizing s with
  | nil => exact .refl s
  | cons d ds ih =>
    obtain ⟨apart, nodup⟩ := List.nodup_cons.1 nodup
    obtain ⟨first, others⟩ := List.forall_mem_cons.1 h
    refine (Preserves.deckOut 0 first).trans (ih nodup fun e mem => ?_)
    have differs : e ≠ d := by rintro rfl; exact apart mem
    rw [State.deckOut_other s 0 differs]
    exact others e mem

theorem Preserves.failGrant {ds : List Deck} (nodup : ds.Nodup) (h : ∀ d ∈ ds, (s.deck d).cal.state ≠ .calEdit) :
    Preserves s (s.failGrant ds) :=
  .after (.foldl _ (fun t l => .hold t l .deckOut) _ _) <| .after (.foldl _ Preserves.leaveClaim _ _) (.decksOut nodup h)

/-- What a grantable claim has to show (R72). -/
theorem State.grantable_iff :
    s.grantable l = true ↔
      (s.lane l).state = .admitting
        ∧ ∀ d ∈ s.claimed l, (s.claims.get d).head? = some l ∧ s.holders.get d = none
          ∧ (s.deck d).cal.state = .inService := by
  simp only [State.grantable, Bool.and_eq_true, decide_eq_true_eq, List.all_eq_true, Option.isNone_iff_eq_none, and_assoc]

theorem State.claimed_nodup (s : State) (l : Lane) : (s.claimed l).Nodup := by
  unfold State.claimed
  cases (s.laneSettings l).deck <;> decide

theorem Preserves.takeGrant (h : s.grantable l = true) : Preserves s (s.takeGrant l) := by
  obtain ⟨admitting, ready⟩ := State.grantable_iff.1 h
  unfold State.takeGrant
  split
  · exact .grant admitting
  · refine .failGrant ((s.claimed_nodup l).filter _) fun d mem => ?_
    obtain ⟨_, _, inService⟩ := ready d (List.mem_filter.1 mem).1
    rw [inService]
    nofun

theorem State.grantable_of_nextGrant (h : s.nextGrant = some l) : s.grantable l = true := List.find?_some h

theorem Preserves.examineFor (n : Nat) : ∀ s, Preserves s (State.examineFor n s) := by
  induction n with
  | zero => exact .refl
  | succ n ih =>
    intro s
    unfold State.examineFor
    split
    next => exact .refl s
    next l found => exact (Preserves.takeGrant (State.grantable_of_nextGrant found)).trans (ih _)

theorem Preserves.examine (s : State) : Preserves s s.examine := .examineFor 8 s

/-! ### The end of the passage -/

theorem State.releaseDecks_free (s : State) (l : Lane) (d : Deck) : (s.releaseDecks l).holders.get d ≠ some l := by
  rw [State.releaseDecks_get]
  split
  · nofun
  · assumption

theorem Preserves.evalClearing (h : (s.lane l).state = .clearing) : Preserves s (s.evalClearing l) := by
  unfold State.evalClearing
  simp only
  split
  · refine .after (.examine _) <| .after (.raiseNotice ..) <| .after
      (.enter false nofun nofun (.inl (by rw [show ((s.releaseDecks l).lane l).state = _ from h]; nofun)) fun stands => ?_)
      (.releaseDecks ..)
    have place : ((s.releaseDecks l).lane l).state = .clearing := h
    rw [LaneUnit.markState_of_ne_hold (by simp [place]), place] at stands
    exact ⟨fun d mem => absurd (stands.claim d mem) (by decide), fun d eq => absurd eq (s.releaseDecks_free l d),
      fun e mem eq => absurd (stands.binding e mem eq) (by decide)⟩
  · exact .refl s

theorem Preserves.evalRetreating (h : (s.lane l).state = .retreating) : Preserves s (s.evalRetreating l) := by
  unfold State.evalRetreating
  simp only
  split
  · have asked : ((s.askLower l .a).lane l).state = .retreating := (State.putBarrier_lane_state ..).trans h
    have entered : Preserves s ((s.askLower l .a).enter l .clearing false) :=
      .after (.enterNext false asked rfl nofun nofun rfl) (.askLower ..)
    exact .hold_if _ _ entered fun _ => .evalClearing (State.enter_lane_state ..)
  · exact .refl s

theorem State.unbind_free (s : State) (l : Lane) : ∀ e ∈ (s.unbind l).site.entries, e.boundLane ≠ some l := by
  intro e mem eq
  obtain ⟨x, _, rfl⟩ := List.mem_map.1 mem
  split at eq
  · cases eq
  · exact absurd eq ‹_›

theorem Preserves.evalLeaving (h : (s.lane l).state = .leaving) : Preserves s (s.evalLeaving l) := by
  unfold State.evalLeaving
  split
  · have asked : (((s.askLower l .x).unbind l).lane l).state = .leaving := (State.putBarrier_lane_state ..).trans h
    have entered : Preserves s (((s.askLower l .x).unbind l).enter l .clearing false) := by
      refine .after (.enter false nofun nofun (.inl (by simp [asked])) fun stands => ?_) <| .after (.unbind ..) (.askLower ..)
      rw [LaneUnit.markState_of_ne_hold (by simp [asked]), asked] at stands
      exact ⟨fun d mem => absurd (stands.claim d mem) (by decide), fun d eq => by decide,
        fun e mem eq => absurd eq (State.unbind_free _ l e mem)⟩
    exact .hold_if _ _ entered fun _ => .evalClearing (State.enter_lane_state ..)
  · exact .refl s

theorem Preserves.evalPassage (s : State) (l : Lane) : Preserves s (s.evalPassage l) := by
  unfold State.evalPassage
  split
  next h => exact .evalEntering h
  next h => exact .evalPositioning h
  next h => exact .evalLeaving h
  next h => exact .evalRetreating h
  next h => exact .evalClearing h
  all_goals exact .refl s

theorem Preserves.takeReading (s : State) (l : Lane) : Preserves s (s.takeReading l) := by
  unfold State.takeReading
  split
  next h => exact .evalCapture h
  next => exact .evalPassage ..

theorem Preserves.lanesTakeReading (s : State) (d : Deck) : Preserves s (s.lanesTakeReading d) := by
  unfold State.lanesTakeReading
  refine .foldl _ (fun t l => ?_) _ s
  split
  · exact .takeReading ..
  · exact .refl t

end Passage

end Sys2Proof.Machine
end

section
/-! What every step keeps, part 5: admission, RESUME, SEND_BACK, LANE_RESET, attendance, and the inputs that a lane takes. -/

namespace Sys2Proof.Machine

variable {s : State} {l : Lane}

/-! ### Admission (R66 to R69) -/

/-- The entry and the claim of an admission do not look at the lane controllers, so that the lane may be taken to ADMITTING
first. -/
theorem State.accept_eq (s : State) (l : Lane) (i : Identity) :
    s.accept l i =
      (((((s.enter l .admitting false).bindAdmission l i).1.joinClaim l).raiseNotice .admitted (some l) none
        (s.bindAdmission l i).2 0 []).journalLowCheck).examine := by
  have parts : (((s.bindAdmission l i).1.joinClaim l).enter l .admitting false)
      = (((s.enter l .admitting false).bindAdmission l i).1.joinClaim l) := by
    have settings : (s.enter l .admitting false).laneSettings l = s.laneSettings l := rfl
    have entry : (s.enter l .admitting false).outboundEntry i = s.outboundEntry i := rfl
    unfold State.bindAdmission
    rw [settings, entry]
    cases (s.laneSettings l).direction
    · unfold State.joinClaim State.laneSettings
      cases h : (s.settings.lanes.get l).deck <;> simp only [State.enter_settings, h] <;> rfl
    · cases s.outboundEntry i <;> unfold State.joinClaim State.laneSettings State.updateSite <;>
        cases h : (s.settings.lanes.get l).deck <;> simp only [State.enter_settings, h] <;> rfl
  unfold State.accept
  simp only [parts]

theorem lowestFree_spec {n i : Nat} {used : List Nat} (h : lowestFree n used = some i) : i < n ∧ i ∉ used := by
  have member := List.mem_of_find?_eq_some h
  have free := List.find?_some h
  exact ⟨List.mem_range.1 member, by simpa using free⟩

/-- The new entry of an INBOUND admission that passes its checks: a free slot, and a tag that is not on site. -/
theorem State.reservedEntry_fresh {i : Identity} (passes : s.inboundRefusal l i = none) :
    (s.reservedEntry l i).slot < 64 ∧ (s.reservedEntry l i).slot ∉ s.site.entries.map (fun e => e.slot)
      ∧ ∀ t, i.tag = some t → ∀ e ∈ s.site.entries, e.tag ≠ some t := by
  have checks := s.inboundRefusal_firstFailing l i
  have onSite : ∀ t, i.tag = some t → ∀ e ∈ s.site.entries, e.tag ≠ some t := by
    intro t tag e mem held
    rw [State.inboundRefusal] at passes
    have found : i.tag.any (fun t => (s.siteByTag? t).isSome) = true := by
      rw [tag, Option.any_some, State.siteByTag?_isSome_iff]
      exact ⟨e, mem, held⟩
    repeat' split at passes
    all_goals simp_all
  have room : s.siteHasRoom = true := by
    rw [State.inboundRefusal] at passes
    repeat' split at passes
    all_goals simp_all
  obtain ⟨slot, free⟩ : ∃ n, s.freeSiteSlot = some n :=
    Option.isSome_iff_exists.1 (Bool.and_eq_true_iff.1 room).1
  have chosen : (s.reservedEntry l i).slot = slot := by rw [State.reservedEntry, free]; rfl
  obtain ⟨below, unused⟩ := lowestFree_spec free
  rw [chosen]
  exact ⟨below, unused, onSite⟩

theorem Preserves.bindAdmission {o : State} {i : Identity} (before : Preserves o s)
    (admitting : (s.lane l).markState = .admitting) (passes : s.admitRefusal l i = none)
    (free : o.siteCoherent = true → o.claimsCoherent = true → ∀ e ∈ s.site.entries, e.boundLane ≠ some l) :
    Preserves o (s.bindAdmission l i).1 := by
  have same : SamePassages s (s.bindAdmission l i).1 := by
    unfold State.bindAdmission
    split
    · constructor <;> rfl
    · split <;> constructor <;> rfl
  have claims : (s.bindAdmission l i).1.claims = s.claims ∧ (s.bindAdmission l i).1.holders = s.holders := by
    unfold State.bindAdmission
    split
    · exact ⟨rfl, rfl⟩
    · split <;> exact ⟨rfl, rfl⟩
  refine same.preservesAfter before fun site₀ claims₀ site coherent => ?_
  have keyed := (State.siteCoherent_iff.1 site).1
  have unbound := free site₀ claims₀
  have stands := State.stands_of_coherent site coherent
  have entries : SiteKeyed (s.bindAdmission l i).1.site.entries ∧ ∀ e ∈ (s.bindAdmission l i).1.site.entries,
      ∀ m, e.boundLane = some m → m = l ∨ ∃ x ∈ s.site.entries, x.boundLane = some m := by
    unfold State.bindAdmission
    split
    next inbound =>
      obtain ⟨below, slot, tag⟩ := State.reservedEntry_fresh ((State.admitRefusal_inbound inbound i).symm.trans passes)
      refine ⟨keyed.insert slot below tag fun m eq => ?_, fun e mem m eq => ?_⟩
      · obtain rfl : l = m := Option.some.inj eq
        exact unbound
      · obtain rfl | old := mem_insertSite.1 mem
        · exact .inl (Option.some.inj eq).symm
        · exact .inr ⟨e, old, eq⟩
    next outbound =>
      split
      next => exact ⟨keyed, fun e mem m eq => .inr ⟨e, mem, eq⟩⟩
      next found _ =>
        refine ⟨keyed.bind found.slot unbound, fun e mem m eq => ?_⟩
        obtain ⟨x, old, rfl⟩ := List.mem_map.1 mem
        split at eq
        · exact .inl (Option.some.inj eq).symm
        · exact .inr ⟨x, old, eq⟩
  refine State.coherent_of_stands entries.1 (claims.1 ▸ (State.claimsCoherent_iff.1 coherent).1) fun m => ?_
  rw [same.lane]
  refine ⟨fun d mem => (stands m).claim d (claims.1 ▸ mem), fun d eq => (stands m).holding d (claims.2 ▸ eq), fun e mem eq => ?_⟩
  obtain rfl | ⟨x, old, bound⟩ := entries.2 e mem m eq
  · rw [admitting]; decide
  · exact (stands m).binding x old bound

/-- A lane in IDLE claims, holds and is bound to nothing. -/
theorem State.idle_unattached (site : s.siteCoherent = true) (claims : s.claimsCoherent = true) (idle : (s.lane l).state = .idle) :
    (∀ d, l ∉ s.claims.get d) ∧ ∀ e ∈ s.site.entries, e.boundLane ≠ some l := by
  have stands := State.stands_of_coherent site claims l
  rw [LaneUnit.markState_of_ne_hold (by simp [idle]), idle] at stands
  exact ⟨fun d mem => absurd (stands.claim d mem) (by decide), fun e mem eq => absurd (stands.binding e mem eq) (by decide)⟩

theorem Preserves.accept {i : Identity} (idle : (s.lane l).state = .idle) (passes : s.admitRefusal l i = none) :
    Preserves s (s.accept l i) := by
  rw [State.accept_eq]
  have entered : Preserves s (s.enter l .admitting false) :=
    .enter false nofun nofun (.inl (by simp [idle])) fun stands => stands.next idle nofun rfl
  have state : ((s.enter l .admitting false).lane l).state = .admitting := State.enter_lane_state ..
  have mark : ((s.enter l .admitting false).lane l).markState = .admitting := by
    rw [LaneUnit.markState_of_ne_hold (by simp only [state]; nofun), state]
  have bound := Preserves.bindAdmission (i := i) entered mark passes fun site claims => (State.idle_unattached site claims idle).2
  have lanes : ((s.enter l .admitting false).bindAdmission l i).1.lanes = (s.enter l .admitting false).lanes
      ∧ ((s.enter l .admitting false).bindAdmission l i).1.claims = s.claims := by
    unfold State.bindAdmission
    split
    · exact ⟨rfl, rfl⟩
    · split <;> exact ⟨rfl, rfl⟩
  refine .after (.examine _) <| .after (.journalLowCheck _) <| .after (.raiseNotice ..) <| bound.joinClaim ?_ fun site claims => ?_
  · exact (congrArg (fun p => (PerLane.get p l).markState) lanes.1).trans mark
  · rw [State.hasClaim_eq_false_iff, lanes.2]
    exact (State.idle_unattached site claims idle).1

/-- The last refused tag, the tag receiver and the inputs are no part of a lane's place. -/
theorem Preserves.lastRefused (s : State) (l : Lane) (t : Option Tag) :
    Preserves s (s.setLane l { s.lane l with lastRefused := t }) :=
  SameControl.preserves (v := { s.lane l with lastRefused := t }) ⟨rfl, rfl, rfl, rfl, rfl, id⟩ fun _ => id

theorem Preserves.tagRx (s : State) (l : Lane) (t : TagReceiver) : Preserves s (s.setLane l { s.lane l with tagRx := t }) :=
  SameControl.preserves (v := { s.lane l with tagRx := t }) ⟨rfl, rfl, rfl, rfl, rfl, id⟩ fun _ => id

theorem Preserves.admitTag (idle : (s.lane l).state = .idle) (t : Tag) : Preserves s (s.admitTag l t) := by
  unfold State.admitTag
  split
  next passes => exact .accept idle passes
  next => exact .after (.lastRefused ..) (.raiseNotice ..)

theorem Preserves.takeTag (s : State) (l : Lane) (t : Tag) : Preserves s (s.takeTag l t) := by
  unfold State.takeTag
  simp only
  split
  next => exact .refl s
  next idle =>
    split
    · exact .raiseNotice ..
    · split
      · exact .refl s
      · split
        · exact .refl s
        · exact .admitTag (Classical.not_not.1 idle) t

/-! ### RESUME, SEND_BACK and LANE_RESET (R84 to R86) -/

/-- A lane in HOLD returns to the state it is held from. -/
theorem Preserves.enterBack {o t : State} {st : LaneState} (k : Bool) (before : Preserves o t)
    (state : (t.lane l).state = .hold) (heldFrom : (t.lane l).heldFrom = some st) (hold : st ≠ .hold)
    (weighing : st ≠ .weighing) : Preserves o (t.enter l st k) := by
  refine before.trans (.enter k hold weighing (.inl (by simp [state])) fun stands => ?_)
  have mark : (t.lane l).markState = st := by rw [LaneUnit.markState, if_pos state, heldFrom]; rfl
  exact mark ▸ stands

theorem State.askLowerUnlessDown_lane (s : State) (l : Lane) :
    ((s.askLowerUnlessDown l).lane l).state = (s.lane l).state
      ∧ ((s.askLowerUnlessDown l).lane l).heldFrom = (s.lane l).heldFrom := by
  unfold State.askLowerUnlessDown
  split
  · exact ⟨rfl, rfl⟩
  · exact ⟨State.putBarrier_lane_state .., State.putBarrier_lane_heldFrom ..⟩

theorem Preserves.resumeLane (h : (s.lane l).state = .hold) : Preserves s (s.resumeLane l) := by
  have raised (t : State) (i : BarrierId) : ((t.askRaise l i).lane l).state = (t.lane l).state
      ∧ ((t.askRaise l i).lane l).heldFrom = (t.lane l).heldFrom :=
    ⟨State.putBarrier_lane_state .., State.putBarrier_lane_heldFrom ..⟩
  have lowered (t : State) (i : BarrierId) : ((t.askLower l i).lane l).state = (t.lane l).state
      ∧ ((t.askLower l i).lane l).heldFrom = (t.lane l).heldFrom :=
    ⟨State.putBarrier_lane_state .., State.putBarrier_lane_heldFrom ..⟩
  have down := s.askLowerUnlessDown_lane l
  have onDeck (k : Bool) (st : LaneState) (heldFrom : (s.lane l).heldFrom = some st) (leads : st.leadsTo .onDeck = true) :
      Preserves s ((s.askLowerUnlessDown l).enterOnDeck l k) := by
    refine .after (.enterOnDeck k (.inl (by simp [down.1, h])) fun stands => ?_) (.askLowerUnlessDown ..)
    rw [LaneUnit.markState, if_pos (down.1.trans h), down.2, heldFrom] at stands
    exact stands.of_leadsTo leads
  unfold State.resumeLane
  split
  next heldFrom =>
    exact .enterBack true (.after (.askLower ..) (.askLower ..)) (by simp [lowered, h]) (by simp [lowered, heldFrom]) nofun nofun
  next heldFrom =>
    have entered : Preserves s (s.enter l .admitting true) := .enterBack true (.refl s) h heldFrom nofun nofun
    simp only
    split
    · exact .after (.examine _) entered
    next noClaim =>
      refine .after (.examine _) (entered.joinClaim ?_ fun _ _ => Bool.not_eq_true _ ▸ noClaim)
      rw [LaneUnit.markState_of_ne_hold (by rw [State.enter_lane_state]; nofun), State.enter_lane_state]
  next heldFrom =>
    exact .after (.evalEntering (State.enter_lane_state ..)) <|
      .enterBack true (.askRaise ..) (by simp [raised, h]) (by simp [raised, heldFrom]) nofun nofun
  next heldFrom =>
    exact .after (.evalPositioning (State.enter_lane_state ..)) <|
      .enterBack true (.askLowerUnlessDown ..) (down.1.trans h) (down.2.trans heldFrom) nofun nofun
  next heldFrom => exact onDeck true _ heldFrom rfl
  next heldFrom => exact onDeck false _ heldFrom rfl
  next heldFrom =>
    have both := (s.askRaise l .x).askLowerUnlessDown_lane l
    exact .after (.evalLeaving (State.enter_lane_state ..)) <| .enterBack true (.after (.askLowerUnlessDown ..) (.askRaise ..))
      (by simp [both.1, raised, h]) (by simp [both.2, raised, heldFrom]) nofun nofun
  next heldFrom =>
    exact .after (.evalRetreating (State.enter_lane_state ..)) <|
      .enterBack true (.askRaise ..) (by simp [raised, h]) (by simp [raised, heldFrom]) nofun nofun
  next heldFrom =>
    exact .after (.evalClearing (State.enter_lane_state ..)) <| .enterBack true (.after (.askLower ..) (.askLower ..))
      (by simp [lowered, h]) (by simp [lowered, heldFrom]) nofun nofun
  all_goals exact .refl s

theorem Preserves.dropBinding (s : State) (l : Lane) : Preserves s (s.dropBinding l) := by
  unfold State.dropBinding
  split
  · exact .refl s
  · split
    · exact .after (.journalLowCheck _) (.releaseSite ..)
    · exact .unbind ..

theorem State.journalLowCheck_site (s : State) : s.journalLowCheck.site = s.site := by
  unfold State.journalLowCheck
  split
  · split <;> rfl
  · rfl

/-- Once its binding has been let go, a lane is bound to no entry, each entry having been bound to a lane of its own. -/
theorem State.dropBinding_free (keyed : SiteKeyed s.site.entries) :
    ∀ e ∈ (s.dropBinding l).site.entries, e.boundLane ≠ some l := by
  unfold State.dropBinding
  split
  next none =>
    intro e mem eq
    exact absurd (List.find?_eq_none.1 none e mem) (by simp [eq])
  next x bound =>
    obtain ⟨here, own⟩ := State.boundEntry?_mem bound
    split
    next =>
      rw [State.journalLowCheck_site]
      intro e mem eq
      obtain ⟨old, slot⟩ := List.mem_filter.1 mem
      simp [keyed.eq_of_boundLane here old own eq] at slot
    next => exact s.unbind_free l

/-- Where the site register is coherent when an event begins, the lane that lets its entry go is bound to none. -/
theorem Preserves.enterUnbound {o t : State} {st : LaneState} (upholds : Upholds o t) (hold : st ≠ .hold) (weighing : st ≠ .weighing)
    (open_ : (t.lane l).state ≠ .closed ∨ t.phase = .ready)
    (unbound : o.siteCoherent = true → ∀ e ∈ t.site.entries, e.boundLane ≠ some l)
    (claim : t.Stands l (t.lane l).markState → ∀ d, l ∈ t.claims.get d → st = .admitting)
    (holding : t.Stands l (t.lane l).markState → ∀ d, t.holders.get d = some l → st ∈ holdingStates)
    (others : ∀ m, m ≠ l → t.lane m = o.lane m) : Preserves o (t.enter l st false) :=
  .of_enter upholds hold weighing open_
    (fun site stands => ⟨claim stands, holding stands, fun e mem eq => absurd eq (unbound site e mem)⟩) others

theorem State.leaveClaim_free (s : State) (l : Lane) : ∀ d, l ∉ (s.leaveClaim l).claims.get d :=
  State.hasClaim_eq_false_iff.1 (s.leaveClaim_hasClaim l)

theorem SiteKeyed.of_coherent (h : s.siteCoherent = true) : SiteKeyed s.site.entries := (State.siteCoherent_iff.1 h).1

/-- The states from which SEND_BACK is accepted: the place of the lane is one of them. -/
theorem State.markState_of_canSendBack (h : s.canSendBack l = true) :
    (s.lane l).markState.returnable = true ∧ (s.lane l).state ≠ .closed := by
  unfold State.canSendBack at h
  simp only at h
  split at h
  next hold =>
    rw [Bool.and_eq_true, Option.any_eq_true] at h
    obtain ⟨⟨st, heldFrom, returnable⟩, _⟩ := h
    rw [LaneUnit.markState, if_pos hold, heldFrom, hold]
    exact ⟨returnable, nofun⟩
  next hold =>
    rw [LaneUnit.markState_of_ne_hold hold]
    exact ⟨h, fun closed => by simp [closed, LaneState.returnable] at h⟩

theorem Preserves.sendBack (h : s.canSendBack l = true) : Preserves s (s.sendBack l) := by
  obtain ⟨returnable, opened⟩ := State.markState_of_canSendBack h
  unfold State.sendBack
  split
  next admitting =>
    have dropped : Preserves s ((s.leaveClaim l).dropBinding l) := .after (.dropBinding ..) (.leaveClaim ..)
    have same := SameLanes.dropBinding (s.leaveClaim l) l
    have lane (m : Lane) : ((s.leaveClaim l).dropBinding l).lane m = s.lane m := same.lane m
    refine .after (.examine _) (.enterUnbound dropped.toUpholds nofun nofun (.inl (by rw [lane]; exact opened)) (fun site => ?_)
      (fun stands d mem => absurd mem (same.claims ▸ s.leaveClaim_free l d)) (fun stands d eq => ?_) fun m _ => lane m)
    · exact State.dropBinding_free (s := s.leaveClaim l) (.of_coherent site)
    · rw [lane, admitting] at stands
      exact absurd (stands.holding d eq) (by decide)
  next beyond =>
    obtain ⟨u, raised, lanes, site, eq⟩ := s.abandon_eq l .sentBack
    have uLane (m : Lane) : u.lane m = s.lane m := congrArg (PerLane.get · m) lanes
    let gone : LaneUnit := { s.lane l with capture := none }
    have abandoned : Upholds s (u.setLane l gone) := by
      have move : LaneMove s u l gone := ⟨fun _ => by rw [uLane]; exact id,
        fun closed => .inl (by rw [uLane] at closed; exact closed), fun _ _ stands => by rw [uLane] at stands; exact stands⟩
      exact move.upholds raised.toUpholds
    have same := SameLanes.dropBinding (u.setLane l gone) l
    have dropped : Upholds s (((u.setLane l gone).dropBinding l).askRaise l .a) :=
      abandoned.trans (Preserves.after (.askRaise ..) (.dropBinding ..)).toUpholds
    have state : ((((u.setLane l gone).dropBinding l).askRaise l .a).lane l).state = (s.lane l).state := by
      rw [State.askRaise, State.putBarrier_lane_state, same.lane, State.lane_setLane, if_pos rfl]
    have mark : ((((u.setLane l gone).dropBinding l).askRaise l .a).lane l).markState = (s.lane l).markState := by
      rw [State.askRaise, State.putBarrier_lane_markState, same.lane, State.lane_setLane, if_pos rfl]
      rfl
    have entered : Preserves s ((((u.setLane l gone).dropBinding l).askRaise l .a).enter l .retreating false) := by
      refine .enterUnbound dropped nofun nofun (.inl (by rw [state]; exact opened)) (fun coherent => ?_) (fun stands d mem => ?_)
        (fun _ d eq => by decide) fun m differs => ?_
      · exact State.dropBinding_free (s := u.setLane l gone) (site ▸ .of_coherent coherent)
      · rw [mark] at stands
        exact absurd (stands.claim d mem) beyond
      · rw [State.askRaise, State.putBarrier_other differs, same.lane, State.lane_setLane, if_neg differs, uLane]
    simp only [eq]
    exact .hold_if _ _ entered fun _ => .evalRetreating (State.enter_lane_state ..)

theorem Preserves.resetLane (h : (s.lane l).state = .hold) : Preserves s (s.resetLane l) := by
  have same := SameLanes.dropBinding ((s.leaveClaim l).releaseDecks l) l
  have lane (m : Lane) : ((((s.leaveClaim l).releaseDecks l).dropBinding l).lane m) = s.lane m := same.lane m
  have lowered : Upholds s (((((s.leaveClaim l).releaseDecks l).dropBinding l).askLower l .a).askLower l .x) :=
    (Preserves.after (.askLower ..) <| .after (.askLower ..) <| .after (.dropBinding ..) <|
      .after (.releaseDecks ..) (.leaveClaim ..)).toUpholds
  have state : ((((((s.leaveClaim l).releaseDecks l).dropBinding l).askLower l .a).askLower l .x).lane l).state = .hold :=
    (State.putBarrier_lane_state ..).trans ((State.putBarrier_lane_state ..).trans ((congrArg LaneUnit.state (lane l)).trans h))
  refine .after (.examine _) (.enterUnbound lowered nofun nofun (.inl (by rw [state]; nofun)) (fun site => ?_)
    (fun _ d mem => ?_) (fun _ d eq => ?_) fun m differs => ?_)
  · exact State.dropBinding_free (s := (s.leaveClaim l).releaseDecks l) (.of_coherent site)
  · exact absurd (same.claims ▸ mem) (s.leaveClaim_free l d)
  · exact absurd (same.holders ▸ eq) ((s.leaveClaim l).releaseDecks_free l d)
  · rw [State.askLower, State.putBarrier_other differs, State.askLower, State.putBarrier_other differs, lane]

/-! ### OPEN_LANE and CLOSE_LANE (R62) -/

theorem Preserves.settings (s : State) (c : Settings) : Preserves s { s with settings := c } :=
  SameYard.preserves_of_same (by constructor <;> rfl) (fun _ => rfl) rfl rfl

theorem Preserves.attending (s : State) (a : PerLane (Option Station)) : Preserves s { s with attending := a } :=
  SameYard.preserves_of_same (by constructor <;> rfl) (fun _ => rfl) rfl rfl

theorem Preserves.writeSettings (c : Settings) (ready : s.phase = .ready) (free : s.slotFree = true) :
    Preserves s (s.writeSettings c) :=
  .after (.enqueue (by exact free) (by exact .inl ready) _) (.settings ..)

theorem Preserves.openLane (closed : (s.lane l).state = .closed) (ready : s.phase = .ready) (free : s.slotFree = true) :
    Preserves s (s.openLane l) := by
  have entered : Preserves s ((((s.setOpenAtStart l true).enqueueSettings).enter l .idle false).askLower l .a |>.askLower l .x) :=
    .after (.askLower ..) <| .after (.askLower ..) <|
      .after (.enter false nofun nofun (.inr ready) fun stands => stands.next closed nofun rfl) <|
        Preserves.writeSettings _ ready free
  exact .hold_if _ _ entered fun _ => .refl _

theorem Preserves.closeLane (idle : (s.lane l).state = .idle) (ready : s.phase = .ready) (free : s.slotFree = true) :
    Preserves s (s.closeLane l) :=
  .after (.attending ..) <| .after (.enter false nofun nofun (.inr ready) fun stands => stands.next idle nofun rfl) <|
    Preserves.writeSettings _ ready free

/-! ### Attendance (R171) -/

theorem Preserves.endAttendance (s : State) (l : Lane) : Preserves s (s.endAttendance l) :=
  .after (.autoCapture ..) (.attending ..)

theorem Preserves.endAttendances (s : State) (st : Station) (which : State → Lane → Bool) :
    Preserves s (s.endAttendances st which) := by
  refine .foldl _ (fun t l => ?_) _ s
  split
  · exact .endAttendance ..
  · exact .refl t

/-! ### Events of a lane -/

/-- The settle timeout takes a lane in WEIGHING back to ON_DECK (R102). -/
theorem Preserves.settleFailure (weighing : (s.lane l).state = .weighing) (c : CaptureContext) :
    Preserves s (s.settleFailure l c) := by
  have move : LaneMove s s l { s.lane l with capture := none } := ⟨fun _ => id, .inl, fun _ _ => id⟩
  have failed : Upholds s ((s.setLane l { s.lane l with capture := none }).captureFailed l c c.pending) :=
    (move.upholds (Preserves.refl s).toUpholds).trans (Preserves.raiseNotice ..).toUpholds
  have lane (m : Lane) : ((s.setLane l { s.lane l with capture := none }).captureFailed l c c.pending).lane m =
      if m = l then { s.lane l with capture := none } else s.lane m := State.lane_setLane ..
  have state : (((s.setLane l { s.lane l with capture := none }).captureFailed l c c.pending).lane l).state = .weighing := by
    rw [lane, if_pos rfl]; exact weighing
  refine .after (.arm ..) (.of_enter failed nofun nofun (.inl (by rw [state]; nofun)) (fun _ stands => ?_) fun m differs => ?_)
  · exact stands.next state nofun rfl
  · rw [lane, if_neg differs]

/-- An input change leaves a lane at its place and its barriers as they are. -/
theorem LaneUnit.takeInput_control (u : LaneUnit) (i : LaneInput) (broken : Bool) :
    SameControl u (u.takeInput i broken) ∧ (u.takeInput i broken).stopped = u.stopped := by
  have level (u : LaneUnit) : SameControl u (u.setInput i broken) ∧ (u.setInput i broken).stopped = u.stopped := by
    cases i <;> exact ⟨⟨rfl, rfl, rfl, rfl, rfl, id⟩, rfl⟩
  have marks (u : LaneUnit) (st : LaneState) : SameControl u (u.mark st i broken) ∧ (u.mark st i broken).stopped = u.stopped := by
    unfold LaneUnit.mark
    split
    case h_4 =>
      unfold LaneUnit.reposition
      repeat' split
      all_goals exact ⟨⟨rfl, rfl, rfl, rfl, rfl, id⟩, rfl⟩
    all_goals exact ⟨⟨rfl, rfl, rfl, rfl, rfl, id⟩, rfl⟩
  have both : SameControl u ((u.setInput i broken).mark u.markState i broken)
      ∧ ((u.setInput i broken).mark u.markState i broken).stopped = u.stopped := by
    obtain ⟨a, x⟩ := level u
    obtain ⟨b, y⟩ := marks (u.setInput i broken) u.markState
    exact ⟨⟨b.state.trans a.state, b.reason.trans a.reason, b.heldFrom.trans a.heldFrom, b.dwell.trans a.dwell,
      b.capture.trans a.capture, a.go ∘ b.go⟩, y.trans x⟩
  unfold LaneUnit.takeInput
  simp only
  split
  · exact ⟨⟨both.1.state, both.1.reason, both.1.heldFrom, both.1.dwell, both.1.capture, both.1.go⟩, both.2⟩
  · exact both

theorem Preserves.takeInput (s : State) (l : Lane) (i : LaneInput) (broken : Bool) : Preserves s (s.takeInput l i broken) := by
  obtain ⟨control, stopped⟩ := (s.lane l).takeInput_control i broken
  have taken : Preserves s (s.setLane l ((s.lane l).takeInput i broken)) := control.preserves fun _ h => stopped.trans h
  unfold State.takeInput
  simp only
  split
  · exact taken.trans (.autoCapture ..)
  · exact taken.trans (.evalPassage ..)

theorem Preserves.barrierEvent {i : BarrierId} {r : BarrierStep}
    (stopped : ((s.lane l).barrier i).stopped = true → r.barrier.stopped = true) : Preserves s (s.barrierEvent l i r) :=
  .after (.evalPassage ..) (.takeBarrier fun _ => stopped)

/-! ### A stopped barrier takes its inputs and its timers without a movement (R54, R56) -/

section Stopped

variable {b : Barrier} (h : b.stopped = true) (t : BarrierTimes)

include h

theorem Barrier.stopped_limitMove (limit : Limit) (active : Bool) : (b.limitMove t limit active).barrier.stopped = true := by
  obtain ⟨rising, falling, pending⟩ := Barrier.stopped_iff.1 h
  have waits : (({ b with state := .up } : Barrier).lowerPending && ({ b with state := .up } : Barrier).settled) = false := by
    simp [pending]
  cases state : b.state
  case rising => exact absurd state rising
  case falling => exact absurd state falling
  all_goals
    cases limit <;> cases active <;> simp only [Barrier.limitMove, state, Barrier.resumeFall, waits, Bool.false_eq_true, if_false]
    all_goals first
      | exact h
      | exact Barrier.stopped_iff.2 ⟨nofun, nofun, pending⟩
      | rfl

theorem Barrier.stopped_limitChange (limit : Limit) (active : Bool) : (b.limitChange t limit active).barrier.stopped = true := by
  have level : (b.setLimit limit active).stopped = true := by cases limit <;> exact h
  unfold Barrier.limitChange
  simp only
  split
  · exact level
  · split
    · rfl
    · exact Barrier.stopped_limitMove level t limit active

theorem Barrier.stopped_clearExpired : (b.clearExpired t).barrier.stopped = true := by
  obtain ⟨_, _, pending⟩ := Barrier.stopped_iff.1 h
  simp only [Barrier.clearExpired, pending, Bool.false_and, Bool.false_eq_true, if_false]
  exact pending ▸ h

theorem Barrier.stopped_beamChange (held broken : Bool) : (b.beamChange t held broken).barrier.stopped = true := by
  obtain ⟨_, falling, _⟩ := Barrier.stopped_iff.1 h
  unfold Barrier.beamChange
  simp only [falling, if_false]
  split
  · exact h
  · split
    · exact Barrier.stopped_clearExpired (b := { b with beamBroken := false, clearDelay := some t.clear }) h t
    · exact h

end Stopped

theorem Barrier.limitState_at_rest (b : Barrier) : b.limitState ≠ .rising ∧ b.limitState ≠ .falling := by
  unfold Barrier.limitState
  split
  · exact ⟨nofun, nofun⟩
  · split <;> exact ⟨nofun, nofun⟩

/-- ESTOP stops every barrier (R56). -/
theorem Barrier.estopStop_stopped (b : Barrier) : b.estopStop.stopped = true := by
  rw [Barrier.stopped_iff]
  unfold Barrier.estopStop
  simp only
  split
  next => exact ⟨b.limitState_at_rest.1, b.limitState_at_rest.2, rfl⟩
  next still => exact ⟨fun rising => still (.inl rising), fun falling => still (.inr falling), rfl⟩

theorem Barrier.cleared_stopped (b : Barrier) : b.cleared.stopped = true :=
  Barrier.stopped_iff.2 ⟨b.limitState_at_rest.1, b.limitState_at_rest.2, rfl⟩

/-- A barrier takes its first state at rest (R59). -/
theorem Barrier.first_stopped (p : BarrierPins) : (Barrier.first p).stopped = true := by
  rw [Barrier.stopped_iff]
  unfold Barrier.first
  simp only
  split
  · exact ⟨nofun, nofun, rfl⟩
  · exact ⟨(Barrier.limitState_at_rest _).1, (Barrier.limitState_at_rest _).2, rfl⟩

theorem Preserves.setBarrier {i : BarrierId} {b : Barrier}
    (stopped : ((s.lane l).barrier i).stopped = true → b.stopped = true) : Preserves s (s.setBarrier l i b) := by
  have plain : s.setBarrier l i b = s.putBarrier l i b.quiet := by
    rw [State.putBarrier_eq]
    cases i <;> simp [State.setBarrier, Barrier.quiet, LaneUnit.setBarrier]
  rw [plain]
  exact .putBarrier fun _ => stopped

end Sys2Proof.Machine
end

section
/-! What every step keeps, part 6: the yard clock and the day roll, the notice states, the conditions, the decks, the vehicle
register and the record store engine. -/

namespace Sys2Proof.Machine

variable {s : State}

/-! ### The clock and the day roll (R139 to R142) -/

/-- The clock and the ticket engine may change as they like once start-up is READY. -/
theorem Preserves.clockAndTickets (ready : s.quietUntilReady = true → s.phase = .ready) (clock : Clock) (tickets : TicketEngine) :
    Preserves s { s with clock := clock, tickets := tickets } :=
  ⟨⟨rfl, id, id, id, fun quiet => State.quietUntilReady_iff.2 (.inl (ready quiet)), fun _ => id, id, fun _ site claims => ⟨site, claims⟩⟩,
    id⟩

theorem StoreEngine.reservedFilled_eq_false_iff {e : StoreEngine} : e.reservedFilled = false ↔ e.reservedCount = 0 := by
  simp [StoreEngine.reservedFilled, StoreEngine.reservedCount, List.filter_eq_nil_iff]

/-- A change of the write queue and its engine. -/
theorem Preserves.setStore {e : StoreEngine}
    (queue : s.quietUntilReady = true → s.store.queue = [] → e.queue = [] ∨ s.phase = .ready)
    (fits : s.store.fits = true → e.fits = true) : Preserves s (s.setStore e) :=
  SameYard.preserves (by constructor <;> rfl) id id queue fun _ => fits

theorem Preserves.enqueueRoll (ready : s.quietUntilReady = true → s.phase = .ready) : Preserves s s.enqueueRoll := by
  have opened (e : StoreEngine) (quiet : s.quietUntilReady = true) (_ : s.store.queue = []) : e.queue = [] ∨ s.phase = .ready :=
    .inr (ready quiet)
  obtain ⟨_, eq⟩ | ⟨_, free, eq⟩ | ⟨_, _, free, eq⟩ | ⟨_, _, _, eq⟩ := s.enqueueRoll_cases <;> rw [eq]
  · exact .refl s
  · exact .setStore (opened _) fun fits => StoreEngine.join_fits fits (StoreEngine.reservedFilled_eq_false_iff.1 free)
  · exact .setStore (opened _) fun fits => StoreEngine.join_fits fits (State.slotFree_iff.1 free)
  · exact .clockAndTickets ready s.clock _

/-- The day index is examined only while the clock is SET, and so at READY. -/
theorem Preserves.examineDay (s : State) : Preserves s s.examineDay := by
  unfold State.examineDay
  split
  next set =>
    have ready (quiet : s.quietUntilReady = true) : s.phase = .ready :=
      (State.quietUntilReady_iff.1 quiet).elim id fun ⟨_, unset, _⟩ => by simp [unset] at set
    split
    · exact .after (.enqueueRoll ready) (.tickets s { s.index with storedDay := some s.currentDay } rfl)
    · split
      · exact .after (.enqueueRoll ready) <| .after (.raiseNotice ..) (.tickets s _ rfl)
      · exact .refl s
  next => exact .refl s

/-! ### The notice states (R178 to R181) -/

/-- A selection of a list without repeats is what membership selects. -/
theorem filter_contains_of_sublist {l m : List Nat} (h : l.Sublist m) (nodup : m.Nodup) :
    m.filter (fun v => l.contains v) = l := by
  induction h with
  | slnil => rfl
  | cons a sub ih =>
    obtain ⟨apart, nodup⟩ := List.nodup_cons.1 nodup
    rw [List.filter_cons_of_neg (by simpa using fun mem => apart (sub.subset mem)), ih nodup]
  | cons_cons a sub ih =>
    rename_i l m
    obtain ⟨apart, nodup⟩ := List.nodup_cons.1 nodup
    rw [List.filter_cons_of_pos (by simp)]
    have same : m.filter (fun v => (a :: l).contains v) = m.filter (fun v => l.contains v) :=
      List.filter_congr fun v mem => by
        have differs : v ≠ a := by rintro rfl; exact apart mem
        simp [differs]
    rw [same, ih nodup]

/-- A set of levels is a selection of the levels in their order. -/
theorem isLevelSet_iff {l : List Nat} : isLevelSet l = true ↔ l.Sublist noticeLevels := by
  refine ⟨fun h => ?_, fun h => decide_eq_true (filter_contains_of_sublist h (by decide)).symm⟩
  rw [of_decide_eq_true h]
  exact List.filter_sublist

theorem levelSet_isLevelSet (p : Nat → Bool) : isLevelSet (levelSet p) = true := isLevelSet_iff.2 List.filter_sublist

theorem Preserves.setNotices {st : Station} {n : NoticeState} (h : (s.notices.get st).bounded = true → n.bounded = true) :
    Preserves s (s.setNotices st n) := by
  have same : SameYard s (s.setNotices st n) := by constructor <;> rfl
  refine same.preserves id (fun bounded => State.noticesBounded_iff.2 fun a => ?_) (fun _ => .inl) fun _ => id
  have each := State.noticesBounded_iff.1 bounded
  rw [State.setNotices, PerStation.get_set]
  split
  · exact h (each st)
  · exact each a

theorem NoticeState.fetched_bounded {n : NoticeState} (q : Notice) (h : n.bounded = true) : (n.fetched q).bounded = true := by
  obtain ⟨length, _, mask⟩ := NoticeState.bounded_iff.1 h
  refine NoticeState.bounded_iff.2 ⟨Nat.le_trans List.eraseP_sublist.length_le length, ?_, mask⟩
  exact levelSet_isLevelSet fun v => n.inProgress.contains v || decide (v = q.level)

/-! ### The conditions (R182 to R185) -/

theorem Preserves.setCondition {k : Condition} {v : CondState} (h : k = .estop → v.active = (s.condition k).active) :
    Preserves s (s.setCondition k v) := by
  refine SameYard.preserves_of_same ?_ (fun _ => rfl) rfl rfl
  constructor
  case estop => cases k <;> first | rfl | exact h rfl
  all_goals rfl

theorem Preserves.activate {k : Condition} (h : k ≠ .estop) : Preserves s (s.activate k) := .setCondition (absurd · h)

theorem Preserves.deactivate {k : Condition} (h : k ≠ .estop) : Preserves s (s.deactivate k) := .setCondition (absurd · h)

theorem Preserves.latch (k : Condition) : Preserves s (s.latch k) := .setCondition fun _ => rfl

theorem Preserves.activateWith {k : Condition} {notice : State → State} (h : k ≠ .estop) (raised : ∀ t, Preserves t (notice t)) :
    Preserves s (s.activateWith k notice) := by
  unfold State.activateWith
  split
  · exact .refl s
  · split
    · exact .after (raised _) (.activate h)
    · exact .activate h

theorem Preserves.deactivateWith {k : Condition} {notice : State → State} (h : k ≠ .estop)
    (raised : ∀ t, Preserves t (notice t)) : Preserves s (s.deactivateWith k notice) := by
  unfold State.deactivateWith
  split
  · split
    · exact .after (raised _) (.deactivate h)
    · exact .deactivate h
  · exact .refl s

/-! ### The decks (chapters 1 and 2) -/

theorem Preserves.setDeck {d : Deck} {u : DeckUnit} (h : (s.deck d).cal.coherent = true → u.cal.coherent = true) :
    Preserves s (s.setDeck d u) := by
  have same : SameYard s (s.setDeck d u) := by constructor <;> rfl
  refine same.preserves (fun coherent => State.decksCoherent_iff.2 fun e => ?_) id (fun _ => .inl) fun _ => id
  have each := State.decksCoherent_iff.1 coherent
  rw [State.deck_setDeck]
  split
  · exact h (each d)
  · exact each e

theorem DeckCal.coherent_iff {c : DeckCal} :
    c.coherent = true ↔
      (c.edit.isSome ↔ c.state = .calEdit) ∧ (c.preEdit.isSome ↔ c.state = .calEdit) ∧ c.preEdit ≠ some .calEdit := by
  simp only [DeckCal.coherent, Bool.and_eq_true, decide_eq_true_eq, and_assoc]

theorem DeckUnit.discardEdit_coherent {u : DeckUnit} (h : u.cal.coherent = true) : u.discardEdit.cal.coherent = true := by
  unfold DeckUnit.discardEdit
  split
  next inEdit =>
    obtain ⟨_, preEdit, other⟩ := DeckCal.coherent_iff.1 h
    obtain ⟨st, eq⟩ := Option.isSome_iff_exists.1 (preEdit.2 inEdit)
    have away : st ≠ .calEdit := by rintro rfl; exact other eq
    rw [DeckCal.coherent_iff, eq]
    exact ⟨iff_of_false nofun away, iff_of_false nofun away, nofun⟩
  next => exact h

/-- A deck forms a new reading. -/
theorem Preserves.newReading {d : Deck} {u : DeckUnit} (h : u.cal = (s.deck d).cal) : Preserves s (s.newReading d u) := by
  have formed (t : State) : Preserves t t.recouple :=
    SameYard.preserves_of_same (by constructor <;> rfl) (fun _ => rfl) rfl rfl
  have set : Preserves s (s.setDeck d u) := .setDeck fun coherent => h ▸ coherent
  refine .after (formed _) ?_
  split
  · exact set
  · exact .after (.raiseNotice ..) set

theorem Preserves.takeSample (s : State) (d : Deck) (seq : Nat) (cells : List CellSample) : Preserves s (s.takeSample d seq cells) :=
  .after (.newReading rfl) (.deactivate (by cases d <;> nofun))

theorem Preserves.takeExpiry (s : State) (d : Deck) : Preserves s (s.takeExpiry d) :=
  .after (.newReading rfl) (.activate (by cases d <;> nofun))

theorem Preserves.track (s : State) (d : Deck) : Preserves s (s.track d) := by
  unfold State.track
  split
  · unfold State.trackingStep
    simp only
    split
    · exact .after (.raiseNotice ..) (.setDeck id)
    · exact .setDeck id
  · exact .refl s

theorem Preserves.openEdit {d : Deck} (h : (s.deck d).cal.state ≠ .calEdit) : Preserves s (s.openEdit d) :=
  .setDeck fun _ => DeckCal.coherent_iff.2 ⟨iff_of_true rfl rfl, iff_of_true rfl rfl, fun eq => h (Option.some.inj eq)⟩

theorem Preserves.commit {d : Deck} (ready : s.phase = .ready) (free : s.slotFree = true) (e : CalRecord) :
    Preserves s (s.commit d e) :=
  .after (.examine _) <| .after (.raiseNotice ..) <| .after (.deactivate (by cases d <;> nofun)) <|
    .after (.enqueue (by exact free) (by exact .inl ready) _) <| .setDeck fun _ =>
      DeckCal.coherent_iff.2 ⟨iff_of_false nofun nofun, iff_of_false nofun nofun, nofun⟩

/-! ### The vehicle register (R107) -/

theorem risingBelow_iff {n : Nat} {l : List Nat} : risingBelow n l = true ↔ l.Pairwise (· < ·) ∧ ∀ a ∈ l, a < n := by
  induction l with
  | nil => simp [risingBelow]
  | cons a l ih =>
    cases l with
    | nil => simp [risingBelow]
    | cons b l =>
      rw [risingBelow, Bool.and_eq_true, ih, decide_eq_true_eq, List.pairwise_cons (a := a), List.forall_mem_cons (a := a)]
      constructor
      · rintro ⟨less, rising, below⟩
        have first := (List.pairwise_cons.1 rising).1
        refine ⟨⟨List.forall_mem_cons.2 ⟨less, fun c mem => Nat.lt_trans less (first c mem)⟩, rising⟩, ?_, below⟩
        exact Nat.lt_trans less (below b List.mem_cons_self)
      · rintro ⟨⟨less, rising⟩, _, below⟩
        exact ⟨less b List.mem_cons_self, rising, below⟩

theorem keyed_iff {vs : List VehicleEntry} :
    keyed vs = true ↔
      (vs.map fun v => v.slot).Pairwise (· < ·) ∧ (∀ v ∈ vs, v.slot < 512) ∧ (vs.map fun v => v.data.tag).Nodup
        ∧ ∀ v ∈ vs, v.data.tag ≠ 0 := by
  simp only [keyed, Bool.and_eq_true, decide_eq_true_eq, risingBelow_iff, List.all_eq_true, List.forall_mem_map, and_assoc]

theorem keyed_sublist {vs ws : List VehicleEntry} (h : keyed vs = true) (sub : ws.Sublist vs) : keyed ws = true := by
  obtain ⟨rising, below, tags, given⟩ := keyed_iff.1 h
  exact keyed_iff.2 ⟨rising.sublist (sub.map _), fun v mem => below v (sub.subset mem), tags.sublist (sub.map _),
    fun v mem => given v (sub.subset mem)⟩

theorem insertVehicle_perm (e : VehicleEntry) (vs : List VehicleEntry) : (insertVehicle e vs).Perm (e :: vs) := by
  induction vs with
  | nil => exact .refl _
  | cons x xs ih =>
    unfold insertVehicle
    split
    · exact .refl _
    · exact (ih.cons x).trans (.swap ..)

theorem insertVehicle_rising {e : VehicleEntry} {vs : List VehicleEntry} (h : (vs.map fun v => v.slot).Pairwise (· < ·))
    (fresh : ∀ v ∈ vs, v.slot ≠ e.slot) : ((insertVehicle e vs).map fun v => v.slot).Pairwise (· < ·) := by
  induction vs with
  | nil => simp [insertVehicle]
  | cons x xs ih =>
    obtain ⟨first, rest⟩ := List.pairwise_cons.1 h
    obtain ⟨other, others⟩ := List.forall_mem_cons.1 fresh
    unfold insertVehicle
    split
    next less =>
      refine List.pairwise_cons.2 ⟨List.forall_mem_cons.2 ⟨less, fun n mem => Nat.lt_trans less (first n mem)⟩, h⟩
    next more =>
      refine List.pairwise_cons.2 ⟨fun n mem => ?_, ih rest others⟩
      rw [((insertVehicle_perm e xs).map fun v => v.slot).mem_iff] at mem
      obtain rfl | old := List.mem_cons.1 mem
      · exact Nat.lt_of_le_of_ne (Nat.not_lt.1 more) other
      · exact first n old

theorem keyed_insert {e : VehicleEntry} {vs : List VehicleEntry} (h : keyed vs = true) (slot : ∀ v ∈ vs, v.slot ≠ e.slot)
    (below : e.slot < 512) (tag : ∀ v ∈ vs, v.data.tag ≠ e.data.tag) (given : e.data.tag ≠ 0) :
    keyed (insertVehicle e vs) = true := by
  obtain ⟨rising, slots, tags, all⟩ := keyed_iff.1 h
  have mem {v : VehicleEntry} : v ∈ insertVehicle e vs ↔ v = e ∨ v ∈ vs := by
    rw [(insertVehicle_perm e vs).mem_iff, List.mem_cons]
  refine keyed_iff.2 ⟨insertVehicle_rising rising slot, fun v hv => ?_, ?_, fun v hv => ?_⟩
  · exact (mem.1 hv).elim (fun eq => eq ▸ below) (slots v)
  · rw [((insertVehicle_perm e vs).map _).nodup_iff, List.map_cons, List.nodup_cons]
    refine ⟨fun held => ?_, tags⟩
    obtain ⟨v, hv, same⟩ := List.mem_map.1 held
    exact tag v hv same
  · exact (mem.1 hv).elim (fun eq => eq ▸ given) (all v)

/-- A change of the vehicle register alone. -/
theorem Preserves.vehicles' {vs : List VehicleEntry} (h : keyed s.vehicles = true → keyed vs = true) :
    Preserves s { s with vehicles := vs } :=
  ⟨⟨rfl, id, id, id, id, fun _ => id, h, fun _ site claims => ⟨site, claims⟩⟩, id⟩

theorem State.vehicle?_eq_none {t : Tag} (h : s.vehicle? t = none) : ∀ v ∈ s.vehicles, v.data.tag ≠ t := by
  simpa [State.vehicle?] using h

theorem Preserves.addVehicle {slot : Nat} {v : VehicleData} (given : v.tag ≠ 0) (absent : s.vehicle? v.tag = none)
    (lowest : s.freeVehicleSlot = some slot) (ready : s.phase = .ready) (free : s.slotFree = true) :
    Preserves s (s.addVehicle slot v) := by
  obtain ⟨below, unused⟩ := lowestFree_spec lowest
  refine .after (.enqueue (by exact free) (by exact .inl ready) _) (.vehicles' fun keyed => ?_)
  refine keyed_insert keyed (fun x mem same => ?_) below (State.vehicle?_eq_none absent) given
  exact unused (List.mem_map.2 ⟨x, mem, same⟩)

theorem RegChange.apply_tag (clock : Clock) (d : VehicleData) (changes : List RegChange) :
    (changes.foldl (RegChange.apply clock) d).tag = d.tag :=
  List.foldlRecOn changes _ (motive := fun x : VehicleData => x.tag = d.tag) rfl fun x sofar c _ => by
    cases c <;> exact sofar

theorem Preserves.updateVehicle {e : VehicleEntry} {t : Tag} (found : s.vehicle? t = some e) (changes : List RegChange)
    (ready : s.phase = .ready) (free : s.slotFree = true) : Preserves s (s.updateVehicle e changes) := by
  refine .after (.enqueue (by exact free) (by exact .inl ready) _) (.vehicles' fun keyed => ?_)
  obtain ⟨rising, below, tags, given⟩ := keyed_iff.1 keyed
  have here : e ∈ s.vehicles := List.mem_of_find?_eq_some found
  let f (v : VehicleEntry) : VehicleEntry :=
    if v.slot = e.slot then { v with data := changes.foldl (RegChange.apply s.clock) e.data } else v
  have same (v : VehicleEntry) (mem : v ∈ s.vehicles) : (f v).slot = v.slot ∧ (f v).data.tag = v.data.tag := by
    simp only [f]
    split
    next slot =>
      have nodup : (s.vehicles.map fun v => v.slot).Nodup := rising.imp Nat.ne_of_lt
      obtain rfl : v = e := eq_of_key nodup mem here slot
      exact ⟨rfl, RegChange.apply_tag ..⟩
    next => exact ⟨rfl, rfl⟩
  refine keyed_iff.2 ⟨?_, ?_, ?_, ?_⟩
  · rw [List.map_map, List.map_congr_left (f := (fun v : VehicleEntry => v.slot) ∘ f) (g := fun v => v.slot)
      fun v mem => (same v mem).1]
    exact rising
  · intro v mem
    obtain ⟨x, old, rfl⟩ := List.mem_map.1 mem
    have slot := (same x old).1
    exact Nat.lt_of_le_of_lt (Nat.le_of_eq slot) (below x old)
  · rw [List.map_map, List.map_congr_left (f := (fun v : VehicleEntry => v.data.tag) ∘ f) (g := fun v => v.data.tag)
      fun v mem => (same v mem).2]
    exact tags
  · intro v mem
    obtain ⟨x, old, rfl⟩ := List.mem_map.1 mem
    have tag := (same x old).2
    exact fun zero => given x old (tag.symm.trans zero)

theorem Preserves.removeVehicle (e : VehicleEntry) (ready : s.phase = .ready) (free : s.slotFree = true) :
    Preserves s (s.removeVehicle e) :=
  .after (.enqueue (by exact free) (by exact .inl ready) _) (.vehicles' (keyed_sublist · List.filter_sublist))

/-! ### Tickets (R130, R131, R154) -/

theorem Preserves.voidEntry (e : SiteEntry) (reason : Nat) (ready : s.phase = .ready) (free : s.slotFree = true) :
    Preserves s (s.voidEntry e reason) :=
  .after (.journalLowCheck _) <| .after (.raiseNotice ..) <| .after (.enqueue (by exact free) (by exact .inl ready) _)
    (.closeEntry ..)

/-- An edit leaves an entry's slot, tag and lane (R131). -/
theorem TicketChange.apply_keys (e : SiteEntry) (changes : List TicketChange) :
    (changes.foldl TicketChange.apply e).slot = e.slot ∧ (changes.foldl TicketChange.apply e).tag = e.tag
      ∧ (changes.foldl TicketChange.apply e).boundLane = e.boundLane :=
  List.foldlRecOn changes _ (motive := fun x : SiteEntry => x.slot = e.slot ∧ x.tag = e.tag ∧ x.boundLane = e.boundLane)
    ⟨rfl, rfl, rfl⟩ fun x sofar c _ => by cases c <;> exact sofar

theorem Preserves.editEntry {e : SiteEntry} (mem : e ∈ s.site.entries) (changes : List TicketChange) (ready : s.phase = .ready)
    (free : s.slotFree = true) : Preserves s (s.editEntry e changes) := by
  obtain ⟨slot, tag, bound⟩ := TicketChange.apply_keys e changes
  exact .after (.enqueue (by exact free) (by exact .inl ready) _) (.updateSite mem slot tag bound)

/-! ### The record store engine (R147 to R152) -/

theorem StoreEngine.freePort_fits {e : StoreEngine} (h : e.fits = true) : e.freePort.fits = true := by
  obtain ⟨ordinary, reserved, current, empty, idle⟩ := StoreEngine.fits_iff.1 h
  refine StoreEngine.fits_iff.2 ⟨ordinary, reserved, current, empty, fun st => (idle st).imp id fun reads none => ?_⟩
  exact reads (List.append_eq_nil_iff.1 none).1

/-- A step of the engine that leaves its queue: an item is current still, and the engine is not IDLE. -/
theorem StoreEngine.fits_of_busy {e f : StoreEngine} (h : e.fits = true) (queue : f.queue = e.queue)
    (current : f.current = none ↔ e.current = none) (busy : f.state ≠ .idle) (item : e.queue ≠ []) : f.fits = true := by
  obtain ⟨ordinary, reserved, same, _, _⟩ := StoreEngine.fits_iff.1 h
  rw [StoreEngine.fits_iff, StoreEngine.ordinaryFilled, StoreEngine.reservedCount, queue]
  exact ⟨ordinary, reserved, current.trans same, fun none => absurd none item, fun idle => absurd idle busy⟩

theorem StoreEngine.queue_ne_nil_of_busy {e : StoreEngine} (h : e.fits = true) (busy : e.state ≠ .idle) : e.queue ≠ [] :=
  fun none => busy ((StoreEngine.fits_iff.1 h).2.2.2.1 none)

theorem StoreEngine.queue_ne_nil_of_current {e : StoreEngine} (h : e.fits = true) {c : CurrentExtent} (some : e.current = some c) :
    e.queue ≠ [] := fun none => by
  have same := (StoreEngine.fits_iff.1 h).2.2.1
  rw [same.2 none] at some
  cases some

/-- The engine's flags, its last failure and the reads that wait are no part of what fits. -/
theorem StoreEngine.fits_congr {e f : StoreEngine} (h : e.fits = true) (queue : f.queue = e.queue) (current : f.current = e.current)
    (state : f.state = e.state) (serving : f.serving = e.serving ∨ f.serving ≠ []) : f.fits = true := by
  obtain ⟨ordinary, reserved, same, empty, idle⟩ := StoreEngine.fits_iff.1 h
  rw [StoreEngine.fits_iff, StoreEngine.ordinaryFilled, StoreEngine.reservedCount, queue, current, state]
  refine ⟨ordinary, reserved, same, empty, fun st => ?_⟩
  obtain eq | reads := serving
  · rw [eq]; exact idle st
  · exact .inr reads

/-- The item behind the one that has gone becomes current. -/
theorem StoreEngine.nextItem_fits {e : StoreEngine} (ordinary : e.ordinaryFilled ≤ 16) (reserved : e.reservedCount ≤ 1) :
    e.nextItem.fits = true := by
  unfold StoreEngine.nextItem
  split
  next none => exact StoreEngine.fits_iff.2 ⟨ordinary, reserved, by simp [none], fun _ => rfl, fun _ => .inl none⟩
  next some => exact StoreEngine.fits_iff.2 ⟨ordinary, reserved, by simp [some], by simp [some], nofun⟩

/-- An item that has been written leaves a slot, which the pending roll item takes. -/
theorem StoreEngine.afterHead_counts {e : StoreEngine} {i : WriteItem} {rest more : List WriteItem} (queue : e.queue = i :: rest)
    (h : e.fits = true) (taken : more = [] ∨ ∃ x : WriteItem, x.reserved = i.reserved ∧ more = [x]) :
    ({ e with queue := rest ++ more } : StoreEngine).ordinaryFilled ≤ 16
      ∧ ({ e with queue := rest ++ more } : StoreEngine).reservedCount ≤ 1 := by
  obtain ⟨ordinary, reserved, _⟩ := StoreEngine.fits_iff.1 h
  simp only [StoreEngine.ordinaryFilled, StoreEngine.reservedCount, queue, List.filter_cons] at ordinary reserved
  simp only [StoreEngine.ordinaryFilled, StoreEngine.reservedCount, List.filter_append, List.length_append]
  obtain rfl | ⟨x, kind, rfl⟩ := taken
  · cases h : i.reserved <;>
      simp only [h, Bool.not_true, Bool.not_false, Bool.false_eq_true, if_true, if_false, List.length_cons] at ordinary reserved <;>
      simp only [List.filter_nil, List.length_nil] <;> omega
  · cases h : i.reserved <;> rw [h] at kind <;>
      simp only [h, Bool.not_true, Bool.not_false, Bool.false_eq_true, if_true, if_false, List.length_cons] at ordinary reserved <;>
      simp only [List.filter_cons, List.filter_nil, kind, Bool.not_true, Bool.not_false, Bool.false_eq_true, if_true, if_false,
        List.length_singleton, List.length_nil] <;> omega

theorem Preserves.itemWritten (s : State) : Preserves s s.itemWritten := by
  unfold State.itemWritten
  split
  next => exact .refl s
  next i rest queue =>
    have started (quiet : s.quietUntilReady = true) : s.phase = .ready :=
      (State.quietUntilReady_iff.1 quiet).elim id fun ⟨empty, _⟩ => by simp [empty] at queue
    have put (tickets : TicketEngine) (e : StoreEngine) (fits : s.store.fits = true → e.fits = true) :
        Preserves s { s with tickets := tickets, store := e } :=
      (Preserves.clockAndTickets started s.clock tickets).trans
        (.setStore (e := e) (fun _ (empty : s.store.queue = []) => by simp [empty] at queue) fits)
    unfold State.takeFreedSlot
    split
    next =>
      refine put _ _ fun fits => ?_
      have counts := StoreEngine.afterHead_counts queue fits
        (more := [({ extents := [.indexTotals s.index], reserved := i.reserved } : WriteItem)]) (.inr ⟨{ extents := [.indexTotals s.index], reserved := i.reserved }, rfl, rfl⟩)
      exact StoreEngine.nextItem_fits counts.1 counts.2
    next =>
      refine put s.tickets _ fun fits => ?_
      have counts := StoreEngine.afterHead_counts queue fits (more := []) (.inl rfl)
      rw [List.append_nil] at counts
      exact StoreEngine.nextItem_fits counts.1 counts.2

theorem Preserves.attemptSucceeds (s : State) : Preserves s s.attemptSucceeds := by
  have freed : Preserves s (s.setStore s.store.freePort) := .setStore (fun _ => .inl) StoreEngine.freePort_fits
  unfold State.attemptSucceeds
  simp only
  split
  next i rest c queue current =>
    have extent : s.store.current = some c := current
    have item : s.store.queue = i :: rest := queue
    split
    · refine freed.trans (.setStore (fun _ => .inl) fun fits => ?_)
      exact StoreEngine.fits_of_busy fits rfl (iff_of_false nofun (by rw [current]; nofun)) nofun (by rw [queue]; nofun)
    · exact freed.trans (.itemWritten _)
  next => exact freed

theorem Preserves.attemptFails (s : State) (cause : FailCause) : Preserves s (s.attemptFails cause) := by
  have freed : Preserves s (s.setStore { s.store.freePort with lastFailure := some cause }) :=
    .setStore (fun _ => .inl) fun fits => StoreEngine.fits_congr (StoreEngine.freePort_fits fits) rfl rfl rfl (.inl rfl)
  unfold State.attemptFails
  simp only
  split
  next => exact freed
  next c current =>
    have busy {e : StoreEngine} (fits : ({ s.store.freePort with lastFailure := some cause } : StoreEngine).fits = true)
        (queue : e.queue = s.store.queue) (extent : e.current ≠ none) (state : e.state ≠ .idle) : e.fits = true :=
      StoreEngine.fits_of_busy fits queue (iff_of_false extent fun none => nomatch none.symm.trans current) state
        (StoreEngine.queue_ne_nil_of_current fits current)
    split
    · exact freed.trans (.setStore (fun _ => .inl) fun fits => busy fits rfl nofun nofun)
    · exact .after (.activateWith nofun fun t => .raiseNotice ..) <|
        freed.trans (.setStore (fun _ => .inl) fun fits => busy fits rfl (current.symm ▸ nofun) nofun)

theorem StoreEngine.readsLeft_fits {e : StoreEngine} (gs : List ReadGroup) (h : e.fits = true) : (e.readsLeft gs).fits = true := by
  obtain ⟨ordinary, reserved, current, empty, idle⟩ := StoreEngine.fits_iff.1 h
  rw [StoreEngine.readsLeft_eq]
  by_cases waits : ({ e with serving := gs } : StoreEngine).awaitsPort = true ∧ gs = []
  · have item : e.queue ≠ [] := by
      obtain ⟨waits, _⟩ := waits
      intro none
      have noExtent := current.2 none
      simp [StoreEngine.awaitsPort, noExtent] at waits
    rw [if_pos waits]
    exact StoreEngine.fits_of_busy h rfl Iff.rfl nofun item
  · rw [if_neg waits]
    refine StoreEngine.fits_iff.2 ⟨ordinary, reserved, current, empty, fun st => ?_⟩
    by_cases item : e.queue = []
    · exact .inl item
    · refine .inr fun none => waits ⟨?_, none⟩
      have extent : e.current ≠ Option.none := fun eq => item (current.1 eq)
      have here : e.state = .idle := st
      simp [StoreEngine.awaitsPort, here, Option.isSome_iff_ne_none, extent]

theorem StoreEngine.takeReads_fits {e : StoreEngine} (g : ReadGroup) (h : e.fits = true) : (e.takeReads g).fits = true := by
  unfold StoreEngine.takeReads
  split
  · exact StoreEngine.fits_congr h rfl rfl rfl (.inr (by simp))
  · exact StoreEngine.fits_congr h rfl rfl rfl (.inl rfl)

theorem StoreEngine.takeReads_queue (e : StoreEngine) (g : ReadGroup) : (e.takeReads g).queue = e.queue := by
  unfold StoreEngine.takeReads
  split <;> rfl

end Sys2Proof.Machine
end

section
/-! What every step keeps, part 7: the commands. `Passes s t` adds to `Preserves` that the committed calibration records stay; every
command but CAL_COMMIT, the yard reset and the loads answers a next state that it passes to. -/

namespace Sys2Proof.Machine

/-- `t` has the invariants, the waiting commands and the committed calibration records of `s`. -/
structure Passes (s t : State) : Prop extends Preserves s t where
  committed : ∀ d, (t.deck d).cal.committed = (s.deck d).cal.committed

theorem Passes.refl (s : State) : Passes s s := ⟨.refl s, fun _ => rfl⟩

theorem Passes.trans {s t u : State} (h : Passes s t) (k : Passes t u) : Passes s u :=
  ⟨h.toPreserves.trans k.toPreserves, fun d => (k.committed d).trans (h.committed d)⟩

/-- `trans`, the later part first. -/
theorem Passes.after {s t u : State} (k : Passes t u) (h : Passes s t) : Passes s u := h.trans k

/-- An operation of the shared ones leaves the committed records. -/
theorem Passes.of_keeps {s t : State} (h : Preserves s t) (k : Keeps s t) : Passes s t := ⟨h, k.committed⟩

/-- An operation that leaves the decks leaves their committed records. -/
theorem Passes.of_decks {s t : State} (h : Preserves s t) (k : t.decks = s.decks) : Passes s t :=
  ⟨h, fun d => congrArg (fun p => (PerDeck.get p d).cal.committed) k⟩

theorem Passes.ports (s : State) (p : PerStation Port) : Passes s { s with ports := p } :=
  .of_decks (SameYard.preserves_of_same (by constructor <;> rfl) (fun _ => rfl) rfl rfl) rfl

/-- A command that answers a next state which `s` passes to. -/
def PassesTo (s : State) (o : Host.Outcome State Fault Refusal) : Prop := ∃ t, o = .next t ∧ Passes s t

theorem PassesTo.next {s t : State} (h : Passes s t) : PassesTo s (.next t) := ⟨t, rfl, h⟩

/-! ### Requests -/

section Handlers

variable {R : State → State → Prop} {s : State}

/-- A relation that what a port does on its own keeps, and the block's part at READY, holds of a request (R189). -/
theorem rel_takeRequest {r : Req} {code : Byte} {handler : Handler} (trans : ∀ {s t u}, R s t → R t u → R s u)
    (heard : ∀ s, R s (s.endFrame r.station)) (respond : ∀ s a, R s (s.respond r.station a))
    (marker : ∀ s m, R s (s.setMarker r.station m)) (h : ∀ t, t.phase = .ready → R t (handler t).1) :
    R s (s.takeRequest r code false handler) := by
  unfold State.takeRequest
  simp only
  split
  · exact heard s
  split
  · exact trans (heard s) (respond ..)
  split
  · exact trans (heard s) (respond ..)
  next ready =>
    have taken := h (s.endFrame r.station) (by simpa using ready)
    split
    · exact trans (heard s) (respond ..)
    · split
      all_goals
        rename_i answer
        rw [answer] at taken
      · exact trans (trans (heard s) taken) (respond ..)
      · exact trans (trans (heard s) taken) (marker ..)

theorem rel_needControl {k : Handler} {st : Station} {scope : Scope} {cls : Cls} (refl : R s s) (h : R s (k s).1) :
    R s (needControl st scope cls k s).1 := by
  unfold Machine.needControl
  split
  · exact refl
  · split
    · exact refl
    · exact h

theorem rel_needWatch {k : Handler} {st : Station} {scope : Scope} {cls : Cls} (refl : R s s) (h : R s (k s).1) :
    R s (needWatch st scope cls k s).1 := by
  unfold Machine.needWatch
  split
  · exact refl
  · exact h

theorem rel_withLane {b : Byte} {k : Lane → Handler} (refl : R s s) (h : ∀ l, R s (k l s).1) : R s (withLane b k s).1 := by
  unfold Machine.withLane
  cases Lane.ofNat? b.toNat with
  | none => exact refl
  | some l => exact h l

theorem rel_withDeck {b : Byte} {k : Deck → Handler} (refl : R s s) (h : ∀ d, R s (k d s).1) : R s (withDeck b k s).1 := by
  unfold Machine.withDeck
  cases Deck.ofNat? b.toNat with
  | none => exact refl
  | some d => exact h d

theorem rel_inRange {ok : Bool} {k : Handler} (refl : R s s) (h : ok = true → R s (k s).1) : R s (inRange ok k s).1 := by
  unfold Machine.inRange
  split
  next good => exact h good
  next => exact refl

end Handlers

theorem Passes.takeRequest {s : State} {r : Req} {code : Byte} {handler : Handler}
    (h : ∀ t, t.phase = .ready → Passes t (handler t).1) : Passes s (s.takeRequest r code false handler) :=
  rel_takeRequest Passes.trans (fun _ => .ports ..) (fun _ _ => .ports ..) (fun _ _ => .ports ..) h

section Handlers

variable {s : State}

theorem Passes.needControl {k : Handler} {st : Station} {scope : Scope} {cls : Cls} (h : Passes s (k s).1) :
    Passes s (needControl st scope cls k s).1 := rel_needControl (.refl s) h

theorem Passes.needWatch {k : Handler} {st : Station} {scope : Scope} {cls : Cls} (h : Passes s (k s).1) :
    Passes s (needWatch st scope cls k s).1 := rel_needWatch (.refl s) h

theorem Passes.withLane {b : Byte} {k : Lane → Handler} (h : ∀ l, Passes s (k l s).1) : Passes s (withLane b k s).1 :=
  rel_withLane (.refl s) h

theorem Passes.withDeck {b : Byte} {k : Deck → Handler} (h : ∀ d, Passes s (k d s).1) : Passes s (withDeck b k s).1 :=
  rel_withDeck (.refl s) h

theorem Passes.inRange {ok : Bool} {k : Handler} (h : ok = true → Passes s (k s).1) : Passes s (inRange ok k s).1 :=
  rel_inRange (.refl s) h

theorem Passes.needSlot {k : Handler} (h : s.slotFree = true → Passes s (k s).1) : Passes s (needSlot k s).1 := by
  unfold Machine.needSlot
  split
  next free => exact h free
  next => exact .refl s

theorem Passes.deckControl {r : Req} {b : Byte} {k : Deck → Handler} (h : ∀ d, Passes s (k d s).1) :
    Passes s (deckControl r b k s).1 := .withDeck fun d => .needControl (h d)

theorem Passes.laneControl {r : Req} {b : Byte} {k : Lane → Handler} (h : ∀ l, Passes s (k l s).1) :
    Passes s (laneControl r b k s).1 := .withLane fun l => .needControl (h l)

/-- A refusal changes nothing, so that only the case in which the request is taken is left to show. -/
theorem Passes.unless {p : Prop} [Decidable p] {a : Answer} {x : State × Answer} (h : ¬p → Passes s x.1) :
    Passes s (if p then (s, a) else x).1 := by
  split
  · exact .refl s
  next goes => exact h goes

/-- The taken case of a request whose condition comes first. -/
theorem Passes.ifTaken {p : Prop} [Decidable p] {a : Answer} {x : State × Answer} (h : p → Passes s x.1) :
    Passes s (if p then x else (s, a)).1 := by
  split
  next goes => exact h goes
  · exact .refl s

end Handlers

/-! ### Configuration -/

theorem Passes.writeSettings {s : State} {c : Settings} (ready : s.phase = .ready) (free : s.slotFree = true) :
    Passes s (s.writeSettings c) := .of_decks (.writeSettings c ready free) rfl

/-- The attendance part of an end of attendance leaves the decks; auto-capture leaves their records. -/
theorem Passes.endAttendance (s : State) (l : Lane) : Passes s (s.endAttendance l) :=
  ⟨.endAttendance .., fun d => (Keeps.autoCapture _ l).committed d⟩

theorem Passes.foldl {α : Type} (f : State → α → State) (h : ∀ t a, Passes t (f t a)) (l : List α) (s : State) :
    Passes s (l.foldl f s) :=
  List.foldlRecOn l f (motive := Passes s) (.refl s) fun t sofar a _ => sofar.trans (h t a)

theorem Passes.endAttendances (s : State) (st : Station) (which : State → Lane → Bool) :
    Passes s (s.endAttendances st which) :=
  .foldl _ (fun t l => by
    split
    · exact .endAttendance t l
    · exact .refl t) _ s

theorem Passes.writeWindows {s : State} {st : Station} {ws : List Window} (ready : s.phase = .ready)
    (free : s.slotFree = true) : Passes s (s.writeWindows st ws) := by
  unfold State.writeWindows
  exact .after (.endAttendances ..) (.writeSettings ready free)

section Configuration

variable (s : State) (r : Req)

theorem execGetStatus_passes : PassesTo s (execGetStatus r s) := by
  obtain ⟨t, ports, taken, result⟩ := s.takeRequest_rest r 0x01 true fun s => (s, .okBody (.status s.statusReport))
  refine ⟨_, rfl, ?_⟩
  rw [result]
  obtain rfl | rfl := taken
  all_goals exact Passes.trans (t := s.heard r.station) (.ports ..) (.ports ..)

theorem execConfigRead_passes (g : Byte) : PassesTo s (execConfigRead r g s) := by
  refine .next (.takeRequest fun t _ => ?_)
  cases Group.ofNat? g.toNat with
  | none => exact .refl t
  | some g => exact .needWatch (.refl t)

theorem execConfigWriteLane_passes (l : Lane) (v : LaneGroup) : PassesTo s (execConfigWriteLane r l v s) := by
  refine .next (.takeRequest fun t ready => ?_)
  cases laneSettingsOf? v with
  | none => exact .refl t
  | some c => exact .needControl (.unless fun _ => .needSlot fun free => .writeSettings ready free)

theorem execConfigWriteWindows_passes (st : Station) (v : List WindowBytes) :
    PassesTo s (execConfigWriteWindows r st v s) := by
  refine .next (.takeRequest fun t ready => ?_)
  cases windowsOf? v with
  | none => exact .refl t
  | some ws =>
    exact .needControl (.unless fun _ => .needSlot fun free => .writeWindows ready free)

theorem execConfigWriteNoticeLevels_passes (v : List Byte) : PassesTo s (execConfigWriteNoticeLevels r v s) :=
  .next (.takeRequest fun _ ready => .inRange fun _ => .needControl (.needSlot fun free => .writeSettings ready free))

theorem execConfigWriteWasteCaps_passes (v : List (BitVec 32)) : PassesTo s (execConfigWriteWasteCaps r v s) := by
  refine .next (.takeRequest fun t ready => .inRange fun _ => .needControl (.needSlot fun free => ?_))
  let flags := clearedFlags t.settings.caps (v.map fun c => c.toNat) t.tickets.capNotice
  have cleared : Passes t { t with tickets := { t.tickets with capNotice := flags } } :=
    .of_decks (.tickets t t.index (tickets := { t.tickets with capNotice := flags }) rfl) rfl
  exact cleared.trans (.writeSettings ready free)

theorem Passes.examineDay (s : State) : Passes s s.examineDay := .of_keeps (.examineDay s) (.examineDay s)

theorem execConfigWriteRollSecond_passes (v : BitVec 32) : PassesTo s (execConfigWriteRollSecond r v s) :=
  .next (.takeRequest fun _ ready => .needControl (.needSlot fun free =>
    .after (.examineDay _) (.writeSettings ready free)))

theorem execConfigWriteVerifyOption_passes (v : Byte) : PassesTo s (execConfigWriteVerifyOption r v s) := by
  refine .next (.takeRequest fun t ready => ?_)
  cases flagOfNat? v.toNat with
  | none => exact .refl t
  | some v => exact .needControl (.needSlot fun free => .writeSettings ready free)

theorem execConfigWriteSampleTimeout_passes (d0 d1 : BitVec 16) : PassesTo s (execConfigWriteSampleTimeout r d0 d1 s) :=
  .next (.takeRequest fun _ ready => .needControl (.needSlot fun free => .writeSettings ready free))

end Configuration

/-! ### Notices, conditions and the clock -/

section Yard

variable (s : State) (r : Req)

theorem execFetchNotice_passes : PassesTo s (execFetchNotice r s) := by
  refine .next (.takeRequest fun t _ => ?_)
  simp only
  split
  · exact .refl t
  · exact .of_decks (.setNotices (NoticeState.fetched_bounded _)) rfl

theorem execNoticeDone_passes : PassesTo s (execNoticeDone r s) := by
  refine .next (.takeRequest fun t _ => ?_)
  simp only
  split
  next => exact .refl t
  next v rest progress =>
    refine .of_decks (.setNotices fun bounded => ?_) rfl
    obtain ⟨length, levels, mask⟩ := NoticeState.bounded_iff.1 bounded
    rw [progress, isLevelSet_iff] at levels
    exact NoticeState.bounded_iff.2 ⟨length, isLevelSet_iff.2 ((List.sublist_cons_self v rest).trans levels), mask⟩

theorem execSetNoticeMask_passes (v : List Byte) : PassesTo s (execSetNoticeMask r v s) := by
  refine .next (.takeRequest fun t _ => .inRange fun _ => .of_decks (.setNotices fun bounded => ?_) rfl)
  obtain ⟨length, levels, _⟩ := NoticeState.bounded_iff.1 bounded
  exact NoticeState.bounded_iff.2 ⟨length, levels, levelSet_isLevelSet fun n => v.any fun b => decide (b.toNat = n)⟩

theorem execClearCondition_passes (k : Byte) : PassesTo s (execClearCondition r k s) := by
  refine .next (.takeRequest fun t _ => ?_)
  cases Condition.ofNat? k.toNat with
  | none => exact .refl t
  | some k => exact .needControl (.unless fun _ => .of_decks (.setCondition fun _ => rfl) rfl)

theorem execSetConditionEnable_passes (k v : Byte) : PassesTo s (execSetConditionEnable r k v s) := by
  refine .next (.takeRequest fun t _ => ?_)
  cases Condition.ofNat? k.toNat with
  | none => exact .refl t
  | some k =>
    cases enableOfNat? v.toNat with
    | none => exact .refl t
    | some v => exact .inRange fun _ => .needControl (.of_decks (.setCondition fun _ => rfl) rfl)

theorem execSetClock_passes (v : BitVec 32) : PassesTo s (execSetClock r v s) :=
  .next (.takeRequest fun t ready => .needControl (Passes.trans (t := { t with clock := { count := v.toNat, set := true } })
    (.of_decks (.clockAndTickets (fun _ => ready) _ t.tickets) rfl) (.examineDay _)))

theorem execClockTick_passes : PassesTo s (execClockTick s) := by
  have ticked (clock : Clock) (set : clock.set = s.clock.set) : Preserves s { s with clock := clock } :=
    SameYard.preserves_of_same (by constructor <;> first | exact set | rfl) (fun _ => rfl) rfl rfl
  exact .next (.after (.examineDay _) (.of_decks (ticked _ rfl) rfl))

theorem State.activateWith_decks (s : State) (k : Condition) (notice : State → State) (leaves : ∀ t, (notice t).decks = t.decks) :
    (s.activateWith k notice).decks = s.decks := by
  unfold State.activateWith
  split
  · rfl
  · split
    · exact leaves _
    · rfl

theorem State.deactivateWith_decks (s : State) (k : Condition) (notice : State → State)
    (leaves : ∀ t, (notice t).decks = t.decks) : (s.deactivateWith k notice).decks = s.decks := by
  unfold State.deactivateWith
  split
  · split
    · exact leaves _
    · rfl
  · rfl

theorem execMainsFailInputChange_passes (asserted : Bool) : PassesTo s (execMainsFailInputChange asserted s) := by
  have raised (detail : Nat) (t : State) : Preserves t (State.yardNotice .mainsChange detail t) := .raiseNotice ..
  refine .next ?_
  split
  · exact .refl s
  · split
    · exact .of_decks (.activateWith nofun (raised 1)) (State.activateWith_decks _ _ _ fun _ => rfl)
    · exact .of_decks (.deactivateWith nofun (raised 0)) (State.deactivateWith_decks _ _ _ fun _ => rfl)

/-! ### The emergency stop (R56, R87) -/

variable {s}

theorem Preserves.setEstop {v : CondState} (stopped : v.active = true → ∀ l, (s.lane l).stopped = true) :
    Preserves s (s.setCondition .estop v) :=
  ⟨⟨rfl, fun _ => State.estopSafe_iff.2 stopped, id, id, id, fun _ => id, id, fun _ site claims => ⟨site, claims⟩⟩, id⟩

/-- A lane unit whose barriers have met the activation of ESTOP. -/
def LaneUnit.estopStop (u : LaneUnit) : LaneUnit :=
  { u with barrierA := u.barrierA.estopStop, barrierX := u.barrierX.estopStop }

theorem LaneUnit.estopStop_stopped (u : LaneUnit) : u.estopStop.stopped = true :=
  LaneUnit.stopped_iff.2 fun
    | .a => Barrier.estopStop_stopped _
    | .x => Barrier.estopStop_stopped _

theorem State.stopBarriers_lane (s : State) (l : Lane) : s.stopBarriers.lane l = (s.lane l).estopStop := by
  cases l <;> rfl

/-- The barriers stop lane by lane. -/
theorem State.stopBarriers_eq (s : State) :
    s.stopBarriers = Lane.all.foldl (fun t l => t.setLane l (t.lane l).estopStop) s := rfl

theorem Preserves.stopBarriers (s : State) : Preserves s s.stopBarriers := by
  rw [State.stopBarriers_eq]
  refine .foldl _ (fun t l => ?_) _ s
  exact SameControl.preserves (by constructor <;> intros <;> first | rfl | assumption) fun _ _ => LaneUnit.estopStop_stopped _

/-- The barriers may stop before the condition is shown: no part of the activation looks at them. -/
theorem State.activateEstop_stopBarriers (s : State) :
    (s.activateWith .estop (State.yardNotice .estopChange 1)).stopBarriers =
      s.stopBarriers.activateWith .estop (State.yardNotice .estopChange 1) := by
  unfold State.activateWith
  rw [show s.stopBarriers.condition .estop = s.condition .estop from rfl]
  split
  · rfl
  · split <;> rfl

theorem Preserves.activateEstop (stopped : ∀ l, (s.lane l).stopped = true) :
    Preserves s (s.activateWith .estop (State.yardNotice .estopChange 1)) := by
  have active : Preserves s (s.activate .estop) := .setEstop fun _ => stopped
  unfold State.activateWith
  split
  · exact .refl s
  · split
    · exact .after (.raiseNotice ..) active
    · exact active

theorem Preserves.deactivateEstop : Preserves s (s.deactivateWith .estop (State.yardNotice .estopChange 0)) := by
  have inactive : Preserves s (s.deactivate .estop) := .setEstop nofun
  unfold State.deactivateWith
  split
  · split
    · exact .after (.raiseNotice ..) inactive
    · exact inactive
  · exact .refl s

variable (s)

theorem Passes.holdAll (s : State) : Passes s s.holdAll :=
  .foldl _ (fun t l => .of_keeps (.hold t l .estop) (.hold t l .estop)) _ s

/-- Before the lanes are held every motor has been stopped, so that ESTOP is active over standing barriers alone. -/
theorem execEstopInputChange_passes (asserted : Bool) : PassesTo s (execEstopInputChange asserted s) := by
  refine .next ?_
  split
  · exact .refl s
  · split
    · rw [State.activateEstop_stopBarriers]
      have stopped : Passes s s.stopBarriers := .of_decks (.stopBarriers s) rfl
      have active : Passes s.stopBarriers (s.stopBarriers.activateWith .estop (State.yardNotice .estopChange 1)) :=
        .of_decks (.activateEstop fun l => by rw [State.stopBarriers_lane]; exact LaneUnit.estopStop_stopped _)
          (State.activateWith_decks _ _ _ fun _ => rfl)
      exact (stopped.trans active).trans (.holdAll _)
    · exact .of_decks .deactivateEstop (State.deactivateWith_decks _ _ _ fun _ => rfl)

end Yard

end Sys2Proof.Machine
end

section
/-! What every step keeps, part 8: the commands of the decks, the lanes, the registers, the ticket engine, the store and the
ports. -/

namespace Sys2Proof.Machine

variable (s : State) (r : Req)

/-! ### Decks -/

theorem State.setDeck_committed {s : State} {d : Deck} {u : DeckUnit} (committed : u.cal.committed = (s.deck d).cal.committed)
    (e : Deck) : ((s.setDeck d u).deck e).cal.committed = (s.deck e).cal.committed := by
  rw [State.deck_setDeck]
  split
  next same => rw [same, committed]
  next => rfl

theorem Passes.setDeck {s : State} {d : Deck} {u : DeckUnit} (coherent : (s.deck d).cal.coherent = true → u.cal.coherent = true)
    (committed : u.cal.committed = (s.deck d).cal.committed) : Passes s (s.setDeck d u) :=
  ⟨.setDeck coherent, State.setDeck_committed committed⟩

theorem execReadWeight_passes (b : Byte) : PassesTo s (execReadWeight r b s) := by
  refine .next (.takeRequest fun t _ => ?_)
  rcases DeckSel.ofNat? b.toNat with _ | _ | _ | _
  · exact .refl t
  all_goals exact .needWatch (.refl t)

theorem execReadRaw_passes (b : Byte) : PassesTo s (execReadRaw r b s) :=
  .next (.takeRequest fun t _ => .withDeck fun _ => .needWatch (.refl t))

theorem execReadCal_passes (b copy : Byte) : PassesTo s (execReadCal r b copy s) := by
  refine .next (.takeRequest fun t _ => .withDeck fun d => ?_)
  rcases copyOfNat? copy.toNat with _ | edit
  · exact .refl t
  · refine .needWatch ?_
    simp only
    split
    · split <;> exact .refl t
    · exact .refl t

theorem execZero_passes (b : Byte) : PassesTo s (execZero r b s) := by
  refine .next (.takeRequest fun t _ => .deckControl fun d => ?_)
  split
  · exact .refl t
  · exact .setDeck id rfl

theorem execCalOpen_passes (b : Byte) : PassesTo s (execCalOpen r b s) :=
  .next (.takeRequest fun _ _ => .deckControl fun _ => .unless fun _ => .unless fun closed => .unless fun _ =>
    ⟨.openEdit closed, State.setDeck_committed rfl⟩)

theorem execCalWrite_passes (b : Byte) (ps : List CalPair) : PassesTo s (execCalWrite r b ps s) := by
  refine .next (.takeRequest fun t _ => .withDeck fun d => .inRange fun _ => .needControl ?_)
  simp only
  split
  · exact .refl t
  next e edit =>
    refine .setDeck (fun coherent => ?_) rfl
    rw [DeckCal.coherent_iff] at coherent ⊢
    obtain ⟨editing, pre, notEdit⟩ := coherent
    have state : (t.deck d).cal.state = .calEdit := by
      unfold State.editCopy? at edit
      split at edit
      · assumption
      · exact nomatch edit
    exact ⟨by simp [state], pre, notEdit⟩

theorem DeckUnit.discardEdit_committed (u : DeckUnit) : u.discardEdit.cal.committed = u.cal.committed := by
  unfold DeckUnit.discardEdit
  split <;> rfl

theorem Passes.examine (s : State) : Passes s s.examine := .of_keeps (.examine s) (.examine s)

theorem execCalDiscard_passes (b : Byte) : PassesTo s (execCalDiscard r b s) :=
  .next (.takeRequest fun _ _ => .deckControl fun _ => .ifTaken fun _ =>
    .after (.examine _) (.setDeck DeckUnit.discardEdit_coherent (DeckUnit.discardEdit_committed _)))

theorem State.discardEdits_committed (t : State) (d : Deck) :
    (({ t with decks := t.decks.map DeckUnit.discardEdit } : State).deck d).cal.committed = (t.deck d).cal.committed := by
  cases d <;> exact DeckUnit.discardEdit_committed _

theorem Preserves.discardEdits (t : State) : Preserves t { t with decks := t.decks.map DeckUnit.discardEdit } := by
  have each : ({ t with decks := t.decks.map DeckUnit.discardEdit } : State) =
      (t.setDeck .d0 (t.deck .d0).discardEdit).setDeck .d1 (t.deck .d1).discardEdit := rfl
  rw [each]
  exact .after (.setDeck DeckUnit.discardEdit_coherent) (.setDeck DeckUnit.discardEdit_coherent)

theorem execSealSwitchChange_passes (access : Bool) : PassesTo s (execSealSwitchChange access s) := by
  have raised (detail : Nat) (t : State) : Preserves t (t.raiseNotice .sealChange none none 0 detail []) := .raiseNotice ..
  refine .next ?_
  split
  · exact .refl s
  · split
    · exact .of_decks (.activateWith nofun (raised 1)) (State.activateWith_decks _ _ _ fun _ => rfl)
    · have shown := Passes.of_decks (Preserves.deactivateWith (s := s) (k := .sealAccess) nofun (raised 0))
        (State.deactivateWith_decks _ _ _ fun _ => rfl)
      exact .after (.examine _) (shown.trans ⟨.discardEdits _, State.discardEdits_committed _⟩)

theorem Passes.discardCellFrame (d : Deck) : Passes s (s.discardCellFrame d) := by
  unfold State.discardCellFrame
  split
  · exact .setDeck id rfl
  · exact .refl s

theorem State.newReading_committed {s : State} {d : Deck} {u : DeckUnit} (committed : u.cal.committed = (s.deck d).cal.committed)
    (e : Deck) : ((s.newReading d u).deck e).cal.committed = (s.deck e).cal.committed := by
  rw [← State.setDeck_committed committed e]
  unfold State.newReading
  simp only
  split <;> rfl

theorem Passes.track (d : Deck) : Passes s (s.track d) := by
  refine ⟨.track .., fun e => ?_⟩
  unfold State.track
  split
  · unfold State.trackingStep
    simp only
    split
    all_goals
      show ((s.setDeck d _).deck e).cal.committed = _
      exact State.setDeck_committed (by rfl) e
  · rfl

theorem execSampleArrival_passes (d : Deck) (seq : Byte) (cells : List CellSample) :
    PassesTo s (execSampleArrival d seq cells s) := by
  refine .next ?_
  split
  · have sampled : Passes s (s.takeSample d seq.toNat cells) := ⟨.takeSample .., State.newReading_committed rfl⟩
    exact .after (.track ..) (.after (.of_keeps (.lanesTakeReading ..) (.lanesTakeReading ..)) sampled)
  · exact .refl s

theorem execSampleTimerExpiry_passes (d : Deck) : PassesTo s (execSampleTimerExpiry d s) := by
  refine .next ?_
  split
  · have silent : Passes s (s.takeExpiry d) := ⟨.takeExpiry .., State.newReading_committed rfl⟩
    exact .after (.of_keeps (.lanesTakeReading ..) (.lanesTakeReading ..)) silent
  all_goals exact .refl s

/-! ### Lanes -/

theorem execReadLaneIo_passes (b : Byte) : PassesTo s (execReadLaneIo r b s) :=
  .next (.takeRequest fun t _ => .withLane fun _ => .needWatch (.refl t))

theorem Passes.barrierRequest {s : State} {r : Req} {b i : Byte} {k : Lane → BarrierId → Handler}
    (h : ∀ l i, s.estop = false → Passes s (k l i s).1) : Passes s (barrierRequest r b i k s).1 := by
  refine .withLane fun l => ?_
  cases BarrierId.ofNat? i.toNat with
  | none => exact .refl s
  | some i => exact .needControl (.unless fun _ => .unless fun calm => h l i (by simpa using calm))

theorem execBarrierRaise_passes (b i : Byte) : PassesTo s (execBarrierRaise r b i s) :=
  .next (.takeRequest fun _ _ => .barrierRequest fun _ _ _ => .unless fun _ => .of_keeps (.askRaise ..) (.askRaise ..))

theorem execBarrierLower_passes (b i : Byte) : PassesTo s (execBarrierLower r b i s) :=
  .next (.takeRequest fun _ _ => .barrierRequest fun _ _ _ => .unless fun _ => .of_keeps (.askLower ..) (.askLower ..))

theorem execBarrierClear_passes (b i : Byte) : PassesTo s (execBarrierClear r b i s) := by
  refine .next (.takeRequest fun t _ => .barrierRequest fun l i _ => ?_)
  simp only
  refine .unless fun _ => ?_
  split
  · exact .of_decks (.setBarrier fun stopped => stopped) rfl
  · exact .of_decks (.setBarrier fun _ => Barrier.cleared_stopped _) rfl

theorem State.openLane_committed (l : Lane) (d : Deck) :
    ((s.openLane l).deck d).cal.committed = (s.deck d).cal.committed := by
  unfold State.openLane
  simp only
  split
  · exact (Keeps.hold ..).committed d
  · rfl

theorem execOpenLane_passes (b : Byte) : PassesTo s (execOpenLane r b s) :=
  .next (.takeRequest fun _ ready => .laneControl fun _ => .unless fun closed => .needSlot fun free => 
    ⟨.openLane (by simpa using closed) ready free, fun d => State.openLane_committed _ _ d⟩)

theorem execCloseLane_passes (b : Byte) : PassesTo s (execCloseLane r b s) :=
  .next (.takeRequest fun _ ready => .laneControl fun _ => .unless fun idle => .needSlot fun free => 
    .of_decks (.closeLane (by simpa using idle) ready free) rfl)

theorem Passes.refuseAdmission (l : Lane) (reason : Result) : Passes s (s.refuseAdmission l reason) := by
  exact .of_keeps (.raiseNotice ..) (.raiseNotice ..)

theorem execAdmit_passes (b : Byte) (f : AdmitFields) : PassesTo s (execAdmit r b f s) := by
  refine .next (.takeRequest fun t _ => .withLane fun l => .inRange fun _ => .needControl (.unless fun _ => .unless fun idle =>
    .unless fun _ => ?_))
  split
  next => exact .refuseAdmission ..
  next passes => exact .of_keeps (.accept (by simpa using idle) passes) (.accept ..)

theorem execHold_passes (b : Byte) : PassesTo s (execHold r b s) :=
  .next (.takeRequest fun _ _ => .laneControl fun _ => .ifTaken fun _ => .of_keeps (.hold ..) (.hold ..))

theorem State.hold_of_resumable {s : State} {l : Lane} (h : s.resumable l = true) : (s.lane l).state = .hold := by
  simp only [State.resumable, Bool.and_eq_true, decide_eq_true_eq, and_assoc] at h
  exact h.1

theorem State.hold_of_resettable {s : State} {l : Lane} (h : s.resettable l = true) : (s.lane l).state = .hold := by
  simp only [State.resettable, Bool.and_eq_true, decide_eq_true_eq, and_assoc] at h
  exact h.1

theorem execResume_passes (b : Byte) : PassesTo s (execResume r b s) :=
  .next (.takeRequest fun _ _ => .laneControl fun _ => .ifTaken fun resumable =>
    .of_keeps (.resumeLane (State.hold_of_resumable resumable)) (.resumeLane ..))

theorem execSendBack_passes (b : Byte) : PassesTo s (execSendBack r b s) :=
  .next (.takeRequest fun _ _ => .laneControl fun _ => .ifTaken fun can => .of_keeps (.sendBack can) (.sendBack ..))

theorem execLaneReset_passes (b : Byte) : PassesTo s (execLaneReset r b s) :=
  .next (.takeRequest fun _ _ => .laneControl fun _ => .ifTaken fun resettable =>
    .of_keeps (.resetLane (State.hold_of_resettable resettable)) (.resetLane ..))

theorem execCapture_passes (b : Byte) (mode waste : Option Byte) : PassesTo s (execCapture r b mode waste s) :=
  .next (.takeRequest fun _ _ => .withLane fun _ => .inRange fun _ => .needControl (.unless fun onDeck => .unless fun _ =>
    .of_keeps (.beginCapture (by simpa using onDeck) ..) (.beginCapture ..)))

theorem execAttend_passes (b : Byte) : PassesTo s (execAttend r b s) :=
  .next (.takeRequest fun _ _ => .laneControl fun _ => .unless fun _ => .of_decks (.attending ..) rfl)

theorem execAttendEnd_passes (b : Byte) : PassesTo s (execAttendEnd r b s) :=
  .next (.takeRequest fun _ _ => .laneControl fun _ => .ifTaken fun _ => .endAttendance ..)

theorem Passes.discardTagFrame (l : Lane) : Passes s (s.discardTagFrame l) := by
  unfold State.discardTagFrame
  split
  · exact .of_decks (.tagRx ..) rfl
  · exact .refl s

theorem Keeps.admitTag (l : Lane) (t : Tag) : Keeps s (s.admitTag l t) := by
  unfold State.admitTag
  split
  · exact .accept ..
  · exact (Keeps.raiseNotice ..).trans (.setLane ..)

theorem Keeps.takeTag (l : Lane) (t : Tag) : Keeps s (s.takeTag l t) := by
  unfold State.takeTag
  simp only
  split
  · exact .refl s
  split
  · exact .raiseNotice ..
  split
  · exact .refl s
  split
  · exact .refl s
  · exact .admitTag ..

theorem execTagArrival_passes (l : Lane) (t : Tag) : PassesTo s (execTagArrival l t s) := by
  refine .next ?_
  split
  · exact .refl s
  · split
    · exact .discardTagFrame ..
    · exact .after (.of_keeps (.takeTag ..) (Keeps.takeTag ..)) (.of_decks (.tagRx ..) rfl)

theorem Passes.barrierEvent {l : Lane} {i : BarrierId} {b : BarrierStep}
    (stopped : ((s.lane l).barrier i).stopped = true → b.barrier.stopped = true) : Passes s (s.barrierEvent l i b) :=
  .of_keeps (.barrierEvent stopped) ((Keeps.takeBarrier ..).trans (Keeps.evalPassage ..))

theorem Keeps.takeInput (l : Lane) (i : LaneInput) (broken : Bool) : Keeps s (s.takeInput l i broken) := by
  unfold State.takeInput
  simp only
  split
  · exact (Keeps.setLane ..).trans (.autoCapture ..)
  · exact (Keeps.setLane ..).trans (.evalPassage ..)

theorem execLaneInputChange_passes (l : Lane) (i : LaneInput) (broken : Bool) :
    PassesTo s (execLaneInputChange l i broken s) := by
  refine .next ?_
  split
  · exact .refl s
  · exact .of_keeps (.takeInput ..) (.takeInput ..)

theorem execLimitChange_passes (l : Lane) (i : BarrierId) (limit : Limit) (active : Bool) :
    PassesTo s (execLimitChange l i limit active s) := by
  refine .next ?_
  split
  · exact .refl s
  · exact .barrierEvent _ (Barrier.stopped_limitChange · ..)

theorem execSafetyBeamChange_passes (l : Lane) (i : BarrierId) (broken : Bool) :
    PassesTo s (execSafetyBeamChange l i broken s) := by
  refine .next ?_
  split
  · exact .refl s
  · exact .barrierEvent _ (Barrier.stopped_beamChange · ..)

theorem execClearDelayExpiry_passes (l : Lane) (i : BarrierId) : PassesTo s (execClearDelayExpiry l i s) := by
  refine .next ?_
  split
  · exact .barrierEvent _ (Barrier.stopped_clearExpired · ..)
  · exact .refl s

theorem execTravelTimeout_passes (l : Lane) (i : BarrierId) : PassesTo s (execTravelTimeout l i s) := by
  refine .next ?_
  split
  · exact .barrierEvent _ fun _ => rfl
  · exact .refl s

theorem execLeaveLimitExpiry_passes (l : Lane) (i : BarrierId) : PassesTo s (execLeaveLimitExpiry l i s) := by
  refine .next ?_
  split
  · exact .barrierEvent _ fun _ => rfl
  · exact .refl s

theorem execDwellExpiry_passes (l : Lane) : PassesTo s (execDwellExpiry l s) := by
  refine .next ?_
  split
  · exact .of_keeps (.hold ..) (.hold ..)
  · exact .refl s

theorem execSettleTimeout_passes (l : Lane) : PassesTo s (execSettleTimeout l s) := by
  refine .next ?_
  split
  next weighing _ => exact .of_decks (.settleFailure weighing _) rfl
  next => exact .refl s

/-! ### Vehicle register -/

theorem Passes.addVehicle {s : State} {slot : Nat} {v : VehicleData} (h : Preserves s (s.addVehicle slot v)) :
    Passes s (s.addVehicle slot v) := .of_decks h rfl

theorem execRegAdd_passes (tag : Tag) (f : RegFields) : PassesTo s (execRegAdd r tag f s) := by
  refine .next (.takeRequest fun t ready => .inRange fun good => .needControl (.unless fun absent => ?_))
  have given : tag ≠ 0 := by
    simp only [RegFields.ok, Bool.and_eq_true, decide_eq_true_eq, and_assoc] at good
    exact good.1
  split
  next => exact .refl t
  next slot lowest =>
    refine .unless fun _ => .needSlot fun free => .of_decks ?_ rfl
    have none : t.vehicle? tag = none := by simpa using absent
    exact .addVehicle given none lowest ready free

theorem execRegUpdate_passes (tag : Tag) (changes : List RegChange) : PassesTo s (execRegUpdate r tag changes s) := by
  refine .next (.takeRequest fun t ready => .inRange fun _ => .needControl ?_)
  split
  next => exact .refl t
  next e found => exact .unless fun _ => .needSlot fun free => .of_decks (.updateVehicle found changes ready free) rfl

theorem execRegRemove_passes (tag : Tag) : PassesTo s (execRegRemove r tag s) := by
  refine .next (.takeRequest fun t ready => .inRange fun _ => .needControl ?_)
  split
  next => exact .refl t
  next e _ => exact .unless fun _ => .needSlot fun free => .of_decks (.removeVehicle e ready free) rfl

theorem execRegRead_passes (after : Tag) (count : Byte) : PassesTo s (execRegRead r after count s) :=
  .next (.takeRequest fun t _ => .inRange fun _ => .needWatch (.refl t))

theorem execRegFind_passes (key : FindKey) : PassesTo s (execRegFind r key s) := by
  refine .next (.takeRequest fun t _ => .inRange fun _ => .needWatch ?_)
  split <;> exact .refl t

/-! ### Tickets -/

theorem execReadSite_passes (after : BitVec 32) (count : Byte) : PassesTo s (execReadSite r after count s) :=
  .next (.takeRequest fun t _ => .inRange fun _ => .needWatch (.refl t))

theorem execReadTotals_passes : PassesTo s (execReadTotals r s) := .next (.takeRequest fun t _ => .needWatch (.refl t))

theorem Passes.setStore {s : State} {e : StoreEngine} (queue : e.queue = s.store.queue)
    (fits : s.store.fits = true → e.fits = true) : Passes s (s.setStore e) :=
  .of_decks (.setStore (fun _ empty => .inl (queue.trans empty)) fits) rfl

theorem Passes.readJournalEntries {s : State} {r : Req} {code : Byte} (seqs : List Nat) (clamped : Bool) :
    Passes s (readJournalEntries r code seqs clamped s).1 := by
  unfold Machine.readJournalEntries
  simp only
  split
  · exact .refl s
  · exact .setStore (StoreEngine.takeReads_queue ..) (StoreEngine.takeReads_fits _)

theorem execReadJournal_passes (seq : BitVec 32) (count : Byte) : PassesTo s (execReadJournal r seq count s) := by
  have read (n : Nat) (t : State) : Passes t (readJournalEntries r 0x3D ((List.range n).map fun i => seq.toNat + i)
      (decide (n ≠ count.toNat)) t).1 := .readJournalEntries ..
  refine .next (.takeRequest fun t _ => ?_)
  by_cases none : t.decision r.station .yard .ticket = .none
  · rw [needWatch_refused _ _ _ _ none]
    exact .refl t
  · rw [needWatch_passes _ _ _ _ none]
    exact .unless fun _ => read _ t

theorem execReadTicket_passes (n : BitVec 32) : PassesTo s (execReadTicket r n s) := by
  refine .next (.takeRequest fun t _ => .inRange fun _ => .needWatch ?_)
  simp only
  split
  · exact .refl t
  · split
    · exact .readJournalEntries ..
    · exact .refl t

theorem execVoidTicket_passes (n : BitVec 32) (reason : Byte) : PassesTo s (execVoidTicket r n reason s) := by
  refine .next (.takeRequest fun t ready => .inRange fun _ => .needControl ?_)
  split
  next => exact .refl t
  next e _ =>
    refine .unless fun _ => .needSlot fun free => .of_keeps (.voidEntry e reason.toNat ready free) ?_
    exact (Keeps.closeEntry ..).trans ((Keeps.enqueue ..).trans ((Keeps.raiseNotice ..).trans (Keeps.journalLowCheck _)))

theorem execEditTicket_passes (n : BitVec 32) (changes : List TicketChange) : PassesTo s (execEditTicket r n changes s) := by
  refine .next (.takeRequest fun t ready => .inRange fun _ => .needControl ?_)
  split
  next => exact .refl t
  next e found =>
    have mem : e ∈ t.site.entries := List.mem_of_find?_eq_some found
    exact .unless fun _ => .unless fun _ => .needSlot fun free => .of_decks (.editEntry mem changes ready free) rfl

theorem execArchive_passes (n : BitVec 32) : PassesTo s (execArchive r n s) := by
  refine .next (.takeRequest fun t ready => .inRange fun _ => .needControl (.needSlot fun free => ?_))
  have archived : Preserves t { t with index := { t.index with archivedSeq := n.toNat } } :=
    .tickets t { t.index with archivedSeq := n.toNat } (tickets := t.tickets) rfl
  refine .of_keeps (.after (.journalLowCheck _) (.after (.enqueue (by exact free) (by exact .inl ready) _) archived)) ?_
  exact (Keeps.touch ..).trans ((Keeps.enqueue ..).trans (Keeps.journalLowCheck _))

/-! ### The store -/

theorem execAttemptStart_passes : PassesTo s (execAttemptStart s) := by
  refine .next ?_
  split
  · exact .setStore rfl id
  · exact .refl s

theorem execWriteIssued_passes : PassesTo s (execWriteIssued s) := by
  refine .next ?_
  split
  next begun =>
    refine .setStore rfl fun fits => ?_
    exact StoreEngine.fits_of_busy fits rfl .rfl nofun (StoreEngine.queue_ne_nil_of_busy fits (by simp [begun.1]))
  next => exact .refl s

theorem execStatusPollBusy_passes : PassesTo s (execStatusPollBusy s) := .next (.refl s)

theorem State.itemWritten_decks : s.itemWritten.decks = s.decks := by
  unfold State.itemWritten
  split
  · rfl
  · unfold State.takeFreedSlot
    simp only
    split <;> rfl

theorem Passes.attemptSucceeds : Passes s s.attemptSucceeds := by
  refine .of_decks (.attemptSucceeds s) ?_
  unfold State.attemptSucceeds
  simp only
  split
  · split
    · rfl
    · exact State.itemWritten_decks _
  · rfl

theorem Passes.attemptFails (cause : FailCause) : Passes s (s.attemptFails cause) := by
  refine .of_decks (.attemptFails s cause) ?_
  unfold State.attemptFails
  simp only
  split
  · rfl
  · split
    · rfl
    · exact State.activateWith_decks _ _ _ fun _ => rfl

theorem execReadyAnswered_passes : PassesTo s (execReadyAnswered s) := by
  refine .next ?_
  split
  · split
    · exact .setStore rfl id
    · exact .attemptSucceeds s
  · exact .refl s

theorem execVerifyReadDone_passes (read : List Byte) : PassesTo s (execVerifyReadDone read s) := by
  refine .next ?_
  split
  · split
    · exact .attemptSucceeds s
    · exact .attemptFails ..
  · exact .refl s

theorem execReadyTimeout_passes : PassesTo s (execReadyTimeout s) := by
  refine .next ?_
  split
  · exact .attemptFails ..
  · exact .refl s

theorem execStoreRetry_passes : PassesTo s (execStoreRetry r s) := by
  refine .next (.takeRequest fun t _ => .needControl (.ifTaken fun fault => .of_decks (.after (.deactivate nofun) ?_) rfl))
  rw [StoreEngine.enterWriting_eq]
  refine .setStore (fun _ empty => .inl empty) fun fits => ?_
  have item := StoreEngine.queue_ne_nil_of_busy fits (by simp [fault])
  refine StoreEngine.fits_of_busy fits rfl (by simp) ?_ item
  split <;> simp [fault]

theorem execJournalReadDone_passes (record : List Byte) : PassesTo s (execJournalReadDone record s) := by
  refine .next ?_
  split
  next => exact .refl s
  next g gs serving =>
    show Passes s (if _ then _ else _)
    split
    · have answered (t : State) (x : ReadGroup) : Passes t (t.answerReads x) := by
        unfold State.answerReads
        split
        · exact .refl t
        · exact Passes.trans (t := t.respond ..) (.ports ..) (.ports ..)
      exact .after (answered ..) (.setStore (by rw [StoreEngine.readsLeft_eq]) (StoreEngine.readsLeft_fits gs))
    · exact .setStore rfl fun fits => StoreEngine.fits_congr fits rfl rfl rfl (.inr nofun)

/-! ### Ports -/

theorem execUnknownRequest_passes (code : Byte) : PassesTo s (execUnknownRequest r code s) := by
  refine .next ?_
  split
  · exact .ports ..
  · exact Passes.trans (t := s.endFrame r.station) (.ports ..) (.ports ..)

theorem execFrameError_passes (st : Station) (fault : FrameFault) : PassesTo s (execFrameError st fault s) := by
  refine .next ?_
  split
  · exact .ports ..
  · exact Passes.trans (t := s.endFrame st) (.ports ..) (.ports ..)

theorem execStationFrameGap_passes (st : Station) : PassesTo s (execStationFrameGap st s) := .next (.ports ..)

theorem execStationFrameBadLength_passes (st : Station) : PassesTo s (execStationFrameBadLength st s) := .next (.ports ..)

theorem execResponseSent_passes (st : Station) : PassesTo s (execResponseSent st s) := .next (.ports ..)

theorem execPortReset_passes (st : Station) : PassesTo s (execPortReset st s) := by
  refine .next (.after (.endAttendances ..) ?_)
  have broken : Passes s (s.setPort st (s.port st).broken) := .ports ..
  let drop := ReadGroup.dropFor st
  let store := { s.store with serving := s.store.serving.map drop, waiting := s.store.waiting.map drop }
  have dropped : Passes (s.setPort st (s.port st).broken) ((s.setPort st (s.port st).broken).setStore store) := by
    refine .setStore rfl fun fits => StoreEngine.fits_congr fits rfl rfl rfl ?_
    by_cases none : s.store.serving = []
    · exact .inl (by simp [store, none, State.setPort])
    · exact .inr (by simpa [store] using none)
  exact (broken.trans dropped).trans (.of_decks (.setNotices fun _ => rfl) rfl)

end Sys2Proof.Machine
end

section
/-! What every step keeps, part 9: the yard reset and the loads of start-up. -/

namespace Sys2Proof.Machine

variable {s : State}

/-- A phase of start-up that follows another, or READY; what start-up holds on its way is no part of the invariants. -/
theorem Preserves.phase (p : Phase) (h : s.phase ≠ .ready ∨ p = .ready) (x : Startup) (index : IndexTotals) :
    Preserves s { s with phase := p, startup := x, index := index } :=
  ⟨⟨rfl, id, id, id, fun quiet => State.quietUntilReady_iff.2 <| h.elim
      (fun starting => .inr ((State.quietUntilReady_iff.1 quiet).resolve_left starting)) .inl,
    fun _ => id, id, fun _ site claims => ⟨site, claims⟩⟩, id⟩

theorem Preserves.startup (s : State) (x : Startup) : Preserves s { s with startup := x } :=
  SameYard.preserves_of_same (by constructor <;> rfl) (fun _ => rfl) rfl rfl

/-! ### Configuration -/

theorem LaneUnit.first_stopped (u : LaneUnit) (p : LanePins) : (u.first p).stopped = true :=
  LaneUnit.stopped_iff.2 fun
    | .a => Barrier.first_stopped _
    | .x => Barrier.first_stopped _

/-- Every lane stays at its place, with its motors stopped. -/
theorem Preserves.lanesStopped {ls : PerLane LaneUnit} (control : ∀ l, SameControl (s.lane l) (ls.get l))
    (stopped : ∀ l, (ls.get l).stopped = true) (c : Conditions) : Preserves s { s with conditions := c, lanes := ls } where
  pending := rfl
  estop _ := State.estopSafe_iff.2 fun _ => stopped
  decks := id
  notices := id
  quiet quiet := State.quietUntilReady_iff.2 <| (State.quietUntilReady_iff.1 quiet).imp_right
    fun ⟨queue, clock, roll, closed⟩ => ⟨queue, clock, roll, fun l => (control l).state.trans (closed l)⟩
  fits _ := id
  vehicles := id
  places _ site claims := State.coherent_of_stands (State.siteCoherent_iff.1 site).1 (State.claimsCoherent_iff.1 claims).1
    fun l =>
      have ⟨claim, holding, binding⟩ := State.stands_of_coherent site claims l
      (control l).markState.symm ▸ ⟨claim, holding, binding⟩
  lanes coherent := State.lanesCoherent_iff.2 fun l => (control l).coherent (State.lanesCoherent_iff.1 coherent l)

theorem Preserves.takePins (s : State) (p : YardPins) : Preserves s (s.takePins p) := by
  have each (l : Lane) : (PerLane.ofFn fun m => (s.lane m).first (p.lanes.get m)).get l = (s.lane l).first (p.lanes.get l) :=
    PerLane.get_ofFn ..
  refine .lanesStopped (fun l => ?_) (fun l => ?_) _
  · rw [each]
    constructor <;> intros <;> first | rfl | assumption
  · rw [each]
    exact LaneUnit.first_stopped ..

theorem Passes.takeConfiguration (s : State) (record : List Byte) : Passes s (s.takeConfiguration record) := by
  unfold State.takeConfiguration
  split
  · exact .of_decks (.settings ..) rfl
  · exact .of_decks (.after (.latch _) (.after (.settings ..) (.startup s { s.startup with configDefaulted := true }))) rfl

theorem Passes.reportFirst (s : State) (l : Lane) (i : BarrierId) : Passes s (s.reportFirst l i) := by
  unfold State.reportFirst
  split
  · exact .of_keeps (.after (.hold ..) (.raiseNotice ..)) ((Keeps.raiseNotice ..).trans (.hold ..))
  · exact .refl s

theorem execConfigAreaLoaded_passes (s : State) (record : List Byte) (pins : YardPins) :
    PassesTo s (execConfigAreaLoaded record pins s) := by
  refine .next ?_
  split
  next loading =>
    have taken : Passes s ((s.takeConfiguration record).takePins pins) :=
      (Passes.takeConfiguration s record).trans (.of_decks (.takePins ..) rfl)
    have starting : ((s.takeConfiguration record).takePins pins).phase ≠ .ready := by
      have phase : ((s.takeConfiguration record).takePins pins).phase = s.phase := by
        unfold State.takeConfiguration
        split <;> rfl
      rw [phase, loading]; nofun
    refine .after (.foldl _ (fun t l => .after (.reportFirst ..) (.reportFirst ..)) _ _) (taken.trans ?_)
    exact .of_decks (.phase _ (.inl starting) _ _) rfl
  next => exact .refl s

/-! ### Calibration -/

theorem Preserves.loadDeck (s : State) (d : Deck) (record : List Byte) : Preserves s (s.loadDeck d record) := by
  unfold State.loadDeck
  simp only
  have loaded {u : DeckUnit} (state : u.cal.state = .inService) (edit : u.cal.edit = none) (pre : u.cal.preEdit = none) :
      Preserves s (s.setDeck d u) :=
    .setDeck fun _ => DeckCal.coherent_iff.2 (by simp [state, edit, pre])
  split
  · exact loaded rfl rfl rfl
  · exact .after (.deckOut _ (by simp)) (loaded rfl rfl rfl)

theorem State.loadDeck_phase (s : State) (d : Deck) (record : List Byte) : (s.loadDeck d record).phase = s.phase := by
  unfold State.loadDeck
  simp only
  split
  · rfl
  · exact (Keeps.deckOut ..).phase

theorem execCalibrationLoaded_preserves (s : State) (d0 d1 : List Byte) :
    ∃ t, execCalibrationLoaded d0 d1 s = .next t ∧ Preserves s t := by
  refine ⟨_, rfl, ?_⟩
  split
  next loading =>
    refine .after (.phase _ (.inl ?_) _ _) (.after (.loadDeck ..) (.loadDeck ..))
    simp [State.loadDeck_phase, loading]
  next => exact .refl s

/-! ### Vehicle register (R117) -/

/-- What the load of the vehicle register holds on its way: slots falling below the next one, and tags of their own. -/
structure VehicleLoad.Sound (a : VehicleLoad) : Prop where
  falling : (a.entries.map fun v => v.slot).Pairwise (· > ·)
  below : ∀ v ∈ a.entries, v.slot < a.slot
  tags : (a.entries.map fun v => v.data.tag).Nodup
  given : ∀ v ∈ a.entries, v.data.tag ≠ 0

theorem VehicleLoad.take_slot (a : VehicleLoad) (bs : List Byte) : (a.take bs).slot = a.slot + 1 := by
  unfold VehicleLoad.take
  simp only
  repeat' split
  all_goals rfl

theorem VehicleLoad.Sound.next {a b : VehicleLoad} (h : a.Sound) (entries : b.entries = a.entries) (slot : b.slot = a.slot + 1) :
    b.Sound where
  falling := entries ▸ h.falling
  below v mem := by
    have := h.below v (entries ▸ mem)
    omega
  tags := entries ▸ h.tags
  given := entries ▸ h.given

theorem VehicleLoad.Sound.take {a : VehicleLoad} (h : a.Sound) (bs : List Byte) : (a.take bs).Sound := by
  unfold VehicleLoad.take
  simp only
  split
  · exact h.next rfl rfl
  split
  next good =>
    simp only [Bool.and_eq_true, List.all_eq_true, decide_eq_true_eq] at good
    obtain ⟨⟨_, fields⟩, fresh⟩ := good
    have given : tagAt bs 1 ≠ 0 := by
      simp only [vehicleFieldsOk, Bool.and_eq_true, decide_eq_true_eq, and_assoc] at fields
      exact fields.1
    refine ⟨?_, ?_, ?_, ?_⟩
    · simpa using ⟨h.below, h.falling⟩
    · simp only [List.forall_mem_cons]
      exact ⟨Nat.lt_succ_self _, fun v mem => Nat.lt_trans (h.below v mem) (Nat.lt_succ_self _)⟩
    · simp only [List.map_cons, List.nodup_cons]
      exact ⟨fun mem => by
        obtain ⟨v, mem, eq⟩ := List.mem_map.1 mem
        exact fresh v mem eq, h.tags⟩
    · simpa only [List.forall_mem_cons] using ⟨given, h.given⟩
  next => exact h.next rfl rfl

theorem VehicleLoad.foldl_sound (slots : List (List Byte)) :
    ∀ {a : VehicleLoad}, a.Sound → (slots.foldl VehicleLoad.take a).Sound
      ∧ (slots.foldl VehicleLoad.take a).slot = a.slot + slots.length := by
  induction slots with
  | nil => exact fun h => ⟨h, rfl⟩
  | cons bs slots ih =>
    intro a h
    obtain ⟨sound, slot⟩ := ih (h.take bs)
    refine ⟨sound, ?_⟩
    rw [List.foldl_cons, slot, VehicleLoad.take_slot, List.length_cons]
    omega

theorem VehicleLoad.loaded_keyed {slots : List (List Byte)} (length : slots.length = 512) :
    keyed (slots.foldl VehicleLoad.take { slot := 0, entries := [], dropped := 0 }).entries.reverse = true := by
  obtain ⟨sound, slot⟩ := foldl_sound slots (a := { slot := 0, entries := [], dropped := 0 }) ⟨.nil, nofun, .nil, nofun⟩
  refine keyed_iff.2 ⟨?_, fun v mem => ?_, ?_, fun v mem => sound.given v (List.mem_reverse.1 mem)⟩
  · rw [List.map_reverse, List.pairwise_reverse]
    exact sound.falling
  · have below := sound.below v (List.mem_reverse.1 mem)
    rw [slot, length] at below
    simpa using below
  · rw [List.map_reverse, nodup_reverse_iff]
    exact sound.tags

/-! ### Site register (R121) -/

/-- What the load of the site register holds on its way: a keyed register of slots below the next one, no entry bound. -/
structure SiteLoad.Sound (a : SiteLoad) : Prop where
  keyed : SiteKeyed a.entries
  below : ∀ e ∈ a.entries, e.slot < a.slot
  unbound : ∀ e ∈ a.entries, e.boundLane = none

theorem SiteLoad.take_slot (a : SiteLoad) (bs : List Byte) : (a.take bs).slot = a.slot + 1 := by
  unfold SiteLoad.take
  simp only
  repeat' split
  all_goals rfl

theorem SiteLoad.Sound.next {a b : SiteLoad} (h : a.Sound) (entries : b.entries = a.entries) (slot : b.slot = a.slot + 1) :
    b.Sound where
  keyed := entries ▸ h.keyed
  below e mem := by
    have := h.below e (entries ▸ mem)
    omega
  unbound := entries ▸ h.unbound

theorem SiteLoad.Sound.insert {a b : SiteLoad} {bs : List Byte} {st : SiteState} (h : a.Sound) (room : a.slot < 64)
    {taken : Bool} (tag : taken = (decide (tagAt bs 6 ≠ 0) && a.entries.any fun e => decide (e.tag = some (tagAt bs 6))))
    (entries : b.entries = insertSite (siteEntryOf bs a.slot st taken) a.entries) (slot : b.slot = a.slot + 1) : b.Sound where
  keyed := by
    rw [entries]
    refine h.keyed.insert (fun mem => ?_) room (fun t own e mem other => ?_) nofun
    · obtain ⟨e, mem, eq⟩ := List.mem_map.1 mem
      exact absurd eq (Nat.ne_of_lt (h.below e mem))
    · simp only [siteEntryOf, optTagAt] at own
      split at own
      · exact nomatch own
      · split at own
        · exact nomatch own
        next free given =>
          obtain rfl := Option.some.inj own
          refine free (tag.trans ?_)
          simpa using ⟨given, e, mem, other⟩
  below e mem := by
    rw [entries, mem_insertSite] at mem
    rw [slot]
    exact mem.elim (fun same => same ▸ Nat.lt_succ_self _) fun mem => Nat.lt_trans (h.below e mem) (Nat.lt_succ_self _)
  unbound e mem := by
    rw [entries, mem_insertSite] at mem
    exact mem.elim (fun same => same ▸ rfl) fun mem => h.unbound e mem

theorem SiteLoad.Sound.take {a : SiteLoad} (h : a.Sound) (room : a.slot < 64) (bs : List Byte) : (a.take bs).Sound := by
  unfold SiteLoad.take
  simp only
  split
  · exact h.next rfl rfl
  split
  · exact h.next rfl rfl
  split
  · exact h.insert room rfl rfl rfl
  · exact h.insert room rfl rfl rfl

theorem SiteLoad.foldl_sound (slots : List (List Byte)) :
    ∀ {a : SiteLoad}, a.Sound → a.slot + slots.length ≤ 64 → (slots.foldl SiteLoad.take a).Sound := by
  induction slots with
  | nil => exact fun h _ => h
  | cons bs slots ih =>
    intro a h room
    rw [List.length_cons] at room
    refine ih (h.take (by omega) bs) ?_
    rw [SiteLoad.take_slot]
    omega

end Sys2Proof.Machine
end

section
/-! What every step keeps, part 10: recovery and READY, and the step of the machine. -/

namespace Sys2Proof.Machine

variable {s : State}

/-! ### The journal ring and the index/totals record -/

theorem execIndexTotalsLoaded_passes (s : State) (record : List Byte) : PassesTo s (execIndexTotalsLoaded record s) := by
  refine .next ?_
  split
  next loading =>
    have starting : s.phase ≠ .ready := by rw [loading]; nofun
    split
    next index _ =>
      exact .of_decks (.phase _ (.inl starting) { s.startup with indexGood := true } index) rfl
    next => exact .of_decks (.phase _ (.inl starting) s.startup s.index) rfl
  next => exact .refl s

/-- Entries leave the site register, the rest standing as it is. -/
theorem Preserves.siteFilter (s : State) (p : SiteEntry → Bool) (ordinal : Nat) :
    Preserves s { s with site := { entries := s.site.entries.filter p, nextOrdinal := ordinal } } :=
  SamePassages.preserves_of_site (by constructor <;> rfl) rfl rfl (fun keyed => keyed.sublist List.filter_sublist)
    fun _ e mem l bound => ⟨e, (List.mem_filter.1 mem).1, bound⟩

theorem Preserves.takeRing (ring : List JournalEntry) (starting : s.phase ≠ .ready) : Preserves s (s.takeRing ring) := by
  let nextSeq := if s.startup.indexGood then s.index.nextSeq else rebuiltNextSeq ring
  have stand := Preserves.siteFilter s (fun e => !closedBefore ring nextSeq e) (s.takeRing ring).site.nextOrdinal
  exact stand.trans (.phase _ (.inl (by exact starting)) (s.takeRing ring).startup (s.takeRing ring).index)

theorem execJournalRingLoaded_passes (s : State) (positions : List (List Byte)) :
    PassesTo s (execJournalRingLoaded positions s) := by
  refine .next ?_
  split
  next loading =>
    have taken : Passes s (s.takeRing (ringEntries positions)) := .of_decks (.takeRing _ (by rw [loading]; nofun)) rfl
    simp only
    split
    · exact taken
    · exact taken.trans (.of_decks (.latch _) rfl)
  next => exact .refl s

/-! ### Recovery (R160, R161) -/

theorem Preserves.recoverEntry (s : State) : Preserves s s.recoverEntry.1 := by
  unfold State.recoverEntry
  split
  · exact .refl s
  · exact .after (.permitCaps ..) (.tickets s _ (tickets := s.tickets) rfl)

theorem Preserves.recoverSlot (s : State) (r : Recovery) : Preserves s (s.recoverSlot r).1 := by
  unfold State.recoverSlot
  split
  · exact .refl s
  · split
    · exact .refl s
    · exact .releaseSite ..

/-- The parts that recovery leaves alone. -/
structure SameStore (s t : State) : Prop where
  store : t.store = s.store
  lanes : t.lanes = s.lanes
  decks : t.decks = s.decks

theorem SameStore.trans {s t u : State} (h : SameStore s t) (k : SameStore t u) : SameStore s u :=
  ⟨k.store.trans h.store, k.lanes.trans h.lanes, k.decks.trans h.decks⟩

theorem SameStore.permitCaps (s : State) (e : JournalEntry) : SameStore s (s.permitCaps e) := by
  unfold State.permitCaps
  split
  · refine List.foldlRecOn _ _ (motive := SameStore s) ⟨rfl, rfl, rfl⟩ fun t sofar x _ => sofar.trans ?_
    unfold State.permitCapOf
    simp only
    split <;> exact ⟨rfl, rfl, rfl⟩
  · exact ⟨rfl, rfl, rfl⟩

theorem SameStore.recoverEntry (s : State) : SameStore s s.recoverEntry.1 := by
  unfold State.recoverEntry
  split
  · exact ⟨rfl, rfl, rfl⟩
  · obtain ⟨store, lanes, decks⟩ := SameStore.permitCaps _ _
    exact ⟨store, lanes, decks⟩

theorem SameStore.recoverSlot (s : State) (r : Recovery) : SameStore s (s.recoverSlot r).1 := by
  unfold State.recoverSlot
  split
  · exact ⟨rfl, rfl, rfl⟩
  · split <;> exact ⟨rfl, rfl, rfl⟩

theorem SameStore.recovered (s : State) : SameStore s (s.recoverEntry.1.recoverSlot s.recoverEntry.2).1 :=
  (SameStore.recoverEntry s).trans (.recoverSlot ..)

theorem State.repairItems_length (s t u : State) (written : Bool) :
    (u.repairItems written (t.recoverSlot s.recoverEntry.2).2).length ≤ 5 := by
  have first : s.recoverEntry.2.items.length ≤ 1 := by
    unfold State.recoverEntry
    split <;> simp
  have second : (t.recoverSlot s.recoverEntry.2).2.items.length ≤ s.recoverEntry.2.items.length + 1 := by
    unfold State.recoverSlot
    split
    · simp
    · split <;> simp
  have optional (b : Bool) (i : List Record) : (if b then [i] else []).length ≤ 1 := by cases b <;> simp
  unfold State.repairItems
  simp only [List.length_append]
  have := optional u.startup.configDefaulted [.configuration u.settings]
  have := optional written [.counter u.tickets.counter]
  have := optional u.startup.indexRebuilt [.indexTotals u.index]
  omega

theorem State.foldl_enqueue (items : List (List Record)) :
    ∀ s, items.foldl State.enqueue s =
      { s with store := items.foldl (fun e x => e.join { extents := x, reserved := false }) s.store } := by
  induction items with
  | nil => exact fun _ => rfl
  | cons x items ih =>
    intro s
    rw [List.foldl_cons, ih]
    rfl

theorem StoreEngine.foldl_join_fits (items : List (List Record)) :
    ∀ {e : StoreEngine}, e.fits = true → e.ordinaryFilled + items.length ≤ 16 →
      (items.foldl (fun e x => e.join { extents := x, reserved := false }) e).fits = true := by
  induction items with
  | nil => exact fun h _ => h
  | cons x items ih =>
    intro e h room
    rw [List.length_cons] at room
    refine ih (StoreEngine.join_fits h ?_) ?_
    · simp only [Bool.false_eq_true, if_false]
      omega
    · rw [StoreEngine.ordinaryFilled_join]
      simp only [Bool.false_eq_true, if_false]
      omega

/-- The repair items join the queue that start-up has left empty, and the phase is READY. -/
theorem Preserves.joinRepairs {o : State} (before : Preserves o s) (starting : o.phase ≠ .ready) (store : s.store = o.store)
    {items : List (List Record)} (few : items.length ≤ 5) : Preserves o { items.foldl State.enqueue s with phase := .ready } := by
  rw [State.foldl_enqueue]
  exact {
    pending := before.pending
    estop := before.estop
    decks := before.decks
    notices := before.notices
    quiet := fun _ => State.quietUntilReady_iff.2 (.inl rfl)
    fits := fun quiet fits => by
      obtain ⟨empty, -⟩ := (State.quietUntilReady_iff.1 quiet).resolve_left starting
      refine StoreEngine.foldl_join_fits items (before.fits quiet fits) ?_
      simp only [StoreEngine.ordinaryFilled, store, empty, List.filter_nil, List.length_nil]
      omega
    vehicles := before.vehicles
    places := before.places
    lanes := before.lanes }

/-! ### The lanes open (R89) -/

theorem State.enterHold_other {l m : Lane} (differs : m ≠ l) (r : HoldReason) : (s.enterHold l r).lane m = s.lane m := by
  obtain ⟨t, -, lanes, -, eq⟩ := s.abandon_eq l (if r = .estop then .estop else .held)
  unfold State.enterHold
  simp only [eq]
  show ((t.setLane l _).setLane l _).lane m = s.lane m
  rw [State.lane_setLane, if_neg differs, State.lane_setLane, if_neg differs]
  exact congrArg (PerLane.get · m) lanes

theorem State.hold_other {l m : Lane} (differs : m ≠ l) (r : HoldReason) : (s.hold l r).lane m = s.lane m := by
  unfold State.hold
  split
  · rfl
  · split
    · exact State.enterHold_other differs r
    · rfl
  · show (s.setLane l _).lane m = s.lane m
    rw [State.lane_setLane, if_neg differs]
  · exact State.enterHold_other differs r

theorem State.openAtStart_other {l m : Lane} (differs : m ≠ l) : (s.openAtStart l).lane m = s.lane m := by
  have entered : (s.enter l .idle false).lane m = s.lane m := by rw [State.enter_lane, if_neg differs]
  unfold State.openAtStart
  simp only
  split
  · split
    · rw [State.hold_other differs, entered]
    · split
      · rw [State.hold_other differs, entered]
      · exact entered
  · rfl

theorem Keeps.openAtStart (s : State) (l : Lane) : Keeps s (s.openAtStart l) := by
  have entered : Keeps s (s.enter l .idle false) := .enter ..
  unfold State.openAtStart
  simp only
  split
  · split
    · exact entered.trans (.hold ..)
    · split
      · exact entered.trans (.hold ..)
      · exact entered
  · exact .refl s

theorem Preserves.openAtStart {o : State} {l : Lane} (before : Preserves o s) (ready : s.phase = .ready)
    (closed : o.quietUntilReady = true → (s.lane l).state = .closed) : Preserves o (s.openAtStart l) := by
  have entered : Preserves o (s.enter l .idle false) :=
    ⟨(LaneMove.enter (st := .idle) false nofun (.inr ready) fun quiet _ stands =>
      stands.next (closed quiet) nofun rfl).upholds before.toUpholds, fun lanes =>
      State.enter_lanesCoherent false nofun nofun fun m _ => State.lanesCoherent_iff.1 (before.lanes lanes) m⟩
  unfold State.openAtStart
  simp only
  split
  · exact .hold_if _ _ entered fun _ => .hold_if _ _ (.refl _) fun _ => .refl _
  · exact before

theorem Preserves.openLanes {o : State} (lanes : List Lane) :
    ∀ {s : State}, lanes.Nodup → Preserves o s → s.phase = .ready →
      (o.quietUntilReady = true → ∀ l ∈ lanes, (s.lane l).state = .closed) → Preserves o (lanes.foldl State.openAtStart s) := by
  induction lanes with
  | nil => exact fun _ before _ _ => before
  | cons l lanes ih =>
    intro s nodup before ready closed
    rw [List.nodup_cons] at nodup
    refine ih nodup.2 (.openAtStart before ready fun quiet => closed quiet l List.mem_cons_self)
      ((Keeps.openAtStart ..).phase.trans ready) fun quiet m mem => ?_
    rw [State.openAtStart_other fun same : m = l => nodup.1 (same ▸ mem)]
    exact closed quiet m (List.mem_cons_of_mem l mem)

theorem Keeps.startupReport (rebuilt : Bool) (r : Recovery) : Keeps s (s.startupReport rebuilt r) := .raiseNotice ..

/-- READY with the repair items queued (R160, R161). -/
def State.repaired (s : State) (written : Bool) : State :=
  let b := s.recoverEntry.1.recoverSlot s.recoverEntry.2
  { (b.1.repairItems written b.2).foldl State.enqueue b.1 with phase := .ready }

/-- READY with STARTUP_REPORT raised and the journal compared, the lanes still to be opened (R155, R161). -/
def State.reported (s : State) (rebuilt written : Bool) : State :=
  { ((s.repaired written).startupReport rebuilt (s.recoverEntry.1.recoverSlot s.recoverEntry.2).2).journalLowCheck with
    startup := Startup.reset }

theorem State.recoverAndOpen_eq (s : State) (rebuilt written : Bool) :
    s.recoverAndOpen rebuilt written = Lane.all.foldl State.openAtStart (s.reported rebuilt written) := rfl

theorem Preserves.reported (rebuilt written : Bool) (starting : s.phase ≠ .ready) :
    Preserves s (s.reported rebuilt written) := by
  have recovered : Preserves s (s.recoverEntry.1.recoverSlot s.recoverEntry.2).1 :=
    .after (.recoverSlot ..) (.recoverEntry s)
  have repaired : Preserves s (s.repaired written) :=
    recovered.joinRepairs starting (SameStore.recovered s).store (State.repairItems_length _ _ _ _)
  exact .after (.startup ..) (.after (.journalLowCheck _) (repaired.trans (.raiseNotice ..)))

theorem State.reported_phase (s : State) (rebuilt written : Bool) : (s.reported rebuilt written).phase = .ready :=
  ((Keeps.raiseNotice ..).trans (Keeps.journalLowCheck _)).phase

theorem State.repaired_lanes (s : State) (written : Bool) :
    (s.repaired written).lanes = s.lanes ∧ (s.repaired written).decks = s.decks := by
  simp only [State.repaired, State.foldl_enqueue]
  exact ⟨(SameStore.recovered s).lanes, (SameStore.recovered s).decks⟩

theorem State.reported_lane (s : State) (rebuilt written : Bool) (l : Lane) :
    (s.reported rebuilt written).lane l = s.lane l := by
  have low (t : State) : t.journalLowCheck.lane l = t.lane l := (SameLanes.journalLowCheck t).lane l
  exact (low _).trans (congrArg (PerLane.get · l) (s.repaired_lanes written).1)

theorem State.reported_committed (s : State) (rebuilt written : Bool) (d : Deck) :
    ((s.reported rebuilt written).deck d).cal.committed = (s.deck d).cal.committed :=
  (((Keeps.raiseNotice ..).trans (Keeps.journalLowCheck _)).committed d).trans
    (congrArg (fun p => (PerDeck.get p d).cal.committed) (s.repaired_lanes written).2)

theorem Preserves.recoverAndOpen (rebuilt written : Bool) (starting : s.phase ≠ .ready) :
    Preserves s (s.recoverAndOpen rebuilt written) := by
  rw [State.recoverAndOpen_eq]
  refine .openLanes Lane.all (by decide) (.reported _ _ starting) (State.reported_phase ..) fun quiet l _ => ?_
  obtain ⟨-, -, -, closed⟩ := (State.quietUntilReady_iff.1 quiet).resolve_left starting
  rw [State.reported_lane]
  exact closed l

theorem Passes.recoverAndOpen (rebuilt written : Bool) (starting : s.phase ≠ .ready) :
    Passes s (s.recoverAndOpen rebuilt written) := by
  refine ⟨.recoverAndOpen rebuilt written starting, fun d => ?_⟩
  rw [State.recoverAndOpen_eq, (Keeps.foldl _ Keeps.openAtStart Lane.all _).committed, State.reported_committed]

theorem execCounterLoaded_passes (s : State) (record : List Byte) : PassesTo s (execCounterLoaded record s) := by
  refine .next ?_
  split
  next loading =>
    have starting : s.phase ≠ .ready := by rw [loading]; nofun
    simp only
    generalize max (s.counterRead record) s.largestSiteTicket = counter
    have counted : Passes s { s with phase := .recovering, tickets := { s.tickets with counter := counter } } :=
      (Passes.of_decks (.phase .recovering (.inl starting) s.startup s.index) rfl).trans
        (.of_decks (.tickets _ _ (tickets := { s.tickets with counter := counter }) rfl) rfl)
    split
    · exact .after (.recoverAndOpen _ _ nofun) (counted.trans (.of_decks (.latch _) rfl))
    · exact .after (.recoverAndOpen _ _ nofun) counted
  next => exact .refl s

/-! ### The registers that start-up loads -/

/-- What a load of a register leaves of the invariants: all but those of the registers. -/
structure Guards (s t : State) : Prop where
  pending : t.pending = s.pending
  estop : s.estopSafe = true → t.estopSafe = true
  lanes : s.lanesCoherent = true → t.lanesCoherent = true
  decks : s.decksCoherent = true → t.decksCoherent = true
  notices : s.noticesBounded = true → t.noticesBounded = true
  quiet : s.quietUntilReady = true → t.quietUntilReady = true
  fits : s.quietUntilReady = true → s.store.fits = true → t.store.fits = true

theorem Preserves.guards {s t : State} (h : Preserves s t) : Guards s t :=
  ⟨h.pending, h.estop, h.lanes, h.decks, h.notices, h.quiet, h.fits⟩

theorem Guards.loaded (vehicles : List VehicleEntry) (site : SiteRegister) (x : Startup) (p : Phase) (starting : s.phase ≠ .ready) :
    Guards s { s with vehicles := vehicles, site := site, startup := x, phase := p } :=
  have phased := Preserves.phase p (.inl starting) x s.index
  ⟨rfl, phased.estop, phased.lanes, phased.decks, phased.notices, phased.quiet, phased.fits⟩

theorem execVehicleRegisterLoaded_guards (s : State) (slots : List (List Byte)) :
    ∃ t, execVehicleRegisterLoaded slots s = .next t ∧ Guards s t ∧ t.decks = s.decks := by
  refine ⟨_, rfl, ?_⟩
  split
  next loading => exact ⟨.loaded _ s.site _ _ (by rw [loading]; nofun), rfl⟩
  next => exact ⟨(Preserves.refl s).guards, rfl⟩

theorem execSiteRegisterLoaded_guards (s : State) (slots : List (List Byte)) :
    ∃ t, execSiteRegisterLoaded slots s = .next t ∧ Guards s t ∧ t.decks = s.decks := by
  refine ⟨_, rfl, ?_⟩
  split
  next loading => exact ⟨.loaded s.vehicles _ _ _ (by rw [loading]; nofun), rfl⟩
  next => exact ⟨(Preserves.refl s).guards, rfl⟩

theorem execVehicleRegisterLoaded_preserves (s : State) {slots : List (List Byte)} (length : slots.length = 512) :
    ∃ t, execVehicleRegisterLoaded slots s = .next t ∧ Preserves s t := by
  refine ⟨_, rfl, ?_⟩
  split
  next loading =>
    exact .after (.phase _ (.inl (by rw [loading]; nofun)) _ _) (.vehicles' fun _ => VehicleLoad.loaded_keyed length)
  next => exact .refl s

theorem execSiteRegisterLoaded_preserves (s : State) {slots : List (List Byte)} (length : slots.length = 64) :
    ∃ t, execSiteRegisterLoaded slots s = .next t ∧ Preserves s t := by
  refine ⟨_, rfl, ?_⟩
  split
  next loading =>
    have sound := SiteLoad.foldl_sound slots (a := { slot := 0, entries := [], dropped := 0 })
      ⟨⟨.nil, nofun, .nil, .nil⟩, nofun, nofun⟩ (by simp [length])
    simp only
    generalize slots.foldl SiteLoad.take { slot := 0, entries := [], dropped := 0 } = a at sound ⊢
    have taken : Preserves s { s with site := { entries := a.entries, nextOrdinal := nextOrdinalOf a.entries } } := by
      refine SamePassages.preserves_of_site (by constructor <;> rfl) rfl rfl (fun _ => sound.keyed) fun _ e mem l bound => ?_
      rw [sound.unbound e mem] at bound
      exact nomatch bound
    have starting : s.phase ≠ .ready := by rw [loading]; nofun
    exact taken.trans (.phase _ (.inl (by exact starting)) { s.startup with siteDropped := a.dropped } s.index)
  next => exact .refl s

end Sys2Proof.Machine
end

section
/-! What every step keeps, part 11: the step of the machine, and the statements O3, O33 and O56 to O60. -/

namespace Sys2Proof.Machine

/-- Every command but CAL_COMMIT, the yard reset and three loads leaves the committed records and has all the invariants. -/
theorem exec_passes (c : Instr) (s : State) (commit : ∀ r b, c ≠ .calCommit r b) (reset : ∀ a b, c ≠ .yardReset a b)
    (calibration : ∀ d0 d1, c ≠ .calibrationLoaded d0 d1) (vehicles : ∀ x, c ≠ .vehicleRegisterLoaded x)
    (site : ∀ x, c ≠ .siteRegisterLoaded x) : PassesTo s (exec c s) := by
  cases c with
  | getStatus r => exact execGetStatus_passes ..
  | configRead r group => exact execConfigRead_passes ..
  | configWriteLane r lane values => exact execConfigWriteLane_passes ..
  | configWriteWindows r station values => exact execConfigWriteWindows_passes ..
  | configWriteNoticeLevels r levels => exact execConfigWriteNoticeLevels_passes ..
  | configWriteWasteCaps r caps => exact execConfigWriteWasteCaps_passes ..
  | configWriteRollSecond r value => exact execConfigWriteRollSecond_passes ..
  | configWriteVerifyOption r value => exact execConfigWriteVerifyOption_passes ..
  | configWriteSampleTimeout r d0 d1 => exact execConfigWriteSampleTimeout_passes ..
  | fetchNotice r => exact execFetchNotice_passes ..
  | noticeDone r => exact execNoticeDone_passes ..
  | setNoticeMask r levels => exact execSetNoticeMask_passes ..
  | clearCondition r condition => exact execClearCondition_passes ..
  | setConditionEnable r condition enable => exact execSetConditionEnable_passes ..
  | setClock r value => exact execSetClock_passes ..
  | storeRetry r => exact execStoreRetry_passes ..
  | readWeight r selection => exact execReadWeight_passes ..
  | readRaw r deck => exact execReadRaw_passes ..
  | readCal r deck copy => exact execReadCal_passes ..
  | zero r deck => exact execZero_passes ..
  | calOpen r deck => exact execCalOpen_passes ..
  | calWrite r deck pairs => exact execCalWrite_passes ..
  | calCommit => exact absurd rfl (commit _ _)
  | calDiscard r deck => exact execCalDiscard_passes ..
  | readLaneIo r lane => exact execReadLaneIo_passes ..
  | barrierRaise r lane barrier => exact execBarrierRaise_passes ..
  | barrierLower r lane barrier => exact execBarrierLower_passes ..
  | barrierClear r lane barrier => exact execBarrierClear_passes ..
  | openLane r lane => exact execOpenLane_passes ..
  | closeLane r lane => exact execCloseLane_passes ..
  | admitVehicle r lane fields => exact execAdmit_passes ..
  | hold r lane => exact execHold_passes ..
  | resume r lane => exact execResume_passes ..
  | sendBack r lane => exact execSendBack_passes ..
  | laneReset r lane => exact execLaneReset_passes ..
  | capture r lane mode waste => exact execCapture_passes ..
  | attend r lane => exact execAttend_passes ..
  | attendEnd r lane => exact execAttendEnd_passes ..
  | regAdd r tag fields => exact execRegAdd_passes ..
  | regUpdate r tag changes => exact execRegUpdate_passes ..
  | regRemove r tag => exact execRegRemove_passes ..
  | regRead r after count => exact execRegRead_passes ..
  | regFind r key => exact execRegFind_passes ..
  | readSite r after count => exact execReadSite_passes ..
  | readTicket r ticket => exact execReadTicket_passes ..
  | voidTicket r ticket reason => exact execVoidTicket_passes ..
  | editTicket r ticket changes => exact execEditTicket_passes ..
  | readTotals r => exact execReadTotals_passes ..
  | readJournal r seq count => exact execReadJournal_passes ..
  | archive r n => exact execArchive_passes ..
  | unknownRequest r code => exact execUnknownRequest_passes ..
  | frameError station fault => exact execFrameError_passes ..
  | stationFrameGap station => exact execStationFrameGap_passes ..
  | portReset station => exact execPortReset_passes ..
  | journalReadDone record => exact execJournalReadDone_passes ..
  | sampleArrival deck seq cells => exact execSampleArrival_passes ..
  | cellFrameRefused deck => exact .next (.discardCellFrame ..)
  | cellFrameGap deck => exact .next (.discardCellFrame ..)
  | sampleTimerExpiry deck => exact execSampleTimerExpiry_passes ..
  | tagArrival lane tag => exact execTagArrival_passes ..
  | tagFrameRefused lane => exact .next (.discardTagFrame ..)
  | tagFrameGap lane => exact .next (.discardTagFrame ..)
  | laneInputChange lane input broken => exact execLaneInputChange_passes ..
  | limitChange lane barrier limit active => exact execLimitChange_passes ..
  | safetyBeamChange lane barrier broken => exact execSafetyBeamChange_passes ..
  | clearDelayExpiry lane barrier => exact execClearDelayExpiry_passes ..
  | travelTimeout lane barrier => exact execTravelTimeout_passes ..
  | leaveLimitExpiry lane barrier => exact execLeaveLimitExpiry_passes ..
  | dwellExpiry lane => exact execDwellExpiry_passes ..
  | settleTimeout lane => exact execSettleTimeout_passes ..
  | estopInputChange asserted => exact execEstopInputChange_passes ..
  | mainsFailInputChange asserted => exact execMainsFailInputChange_passes ..
  | sealSwitchChange access => exact execSealSwitchChange_passes ..
  | clockTick => exact execClockTick_passes ..
  | yardReset => exact absurd rfl (reset _ _)
  | configAreaLoaded record pins => exact execConfigAreaLoaded_passes ..
  | calibrationLoaded => exact absurd rfl (calibration _ _)
  | vehicleRegisterLoaded => exact absurd rfl (vehicles _)
  | siteRegisterLoaded => exact absurd rfl (site _)
  | indexTotalsLoaded record => exact execIndexTotalsLoaded_passes ..
  | journalRingLoaded positions => exact execJournalRingLoaded_passes ..
  | counterLoaded record => exact execCounterLoaded_passes ..
  | attemptStart => exact execAttemptStart_passes ..
  | writeIssued => exact execWriteIssued_passes ..
  | statusPollBusy => exact execStatusPollBusy_passes ..
  | readyAnswered => exact execReadyAnswered_passes ..
  | verifyReadDone read => exact execVerifyReadDone_passes ..
  | readyTimeout => exact execReadyTimeout_passes ..
  | cellFrameBadCount deck => exact .next (.discardCellFrame ..)
  | stationFrameBadLength station => exact execStationFrameBadLength_passes ..
  | responseSent station => exact execResponseSent_passes ..

/-! ### The special commands -/

/-- Settles O56: each invariant is evaluated on the one reset state. -/
theorem invariantsHoldAtReset : Obligations.InvariantsHoldAtReset := by
  unfold Obligations.InvariantsHoldAtReset
  decide

theorem execYardReset_preserves (s : State) (a b : Bool) : ∃ t, execYardReset a b s = .next t ∧ Preserves s t := by
  obtain ⟨estop, lanes, decks, notices, fits, quiet, vehicles, site, claims, -⟩ := invariantsHoldAtReset
  exact ⟨_, rfl, ⟨rfl, fun _ => estop, fun _ => decks, fun _ => notices, fun _ => quiet, fun _ _ => fits, fun _ => vehicles,
    fun _ _ _ => ⟨site, claims⟩⟩, fun _ => lanes⟩

theorem execCalCommit_preserves (s : State) (r : Req) (b : Byte) : ∃ t, execCalCommit r b s = .next t ∧ Preserves s t := by
  refine ⟨_, rfl, rel_takeRequest Preserves.trans (fun u => (Passes.ports u _).toPreserves)
    (fun u _ => (Passes.ports u _).toPreserves) (fun u _ => (Passes.ports u _).toPreserves) fun t ready => ?_⟩
  refine rel_withDeck (.refl t) fun d => rel_needControl (.refl t) ?_
  simp only
  split
  · exact .refl t
  · split
    · exact .refl t
    next passes =>
      refine .commit ready ?_ _
      unfold State.commitRefusal at passes
      repeat' split at passes
      all_goals simp_all

/-- Every command that the part can receive has every invariant. -/
theorem exec_preserves (c : Instr) (s : State) (wf : c.wf = true) : ∃ t, exec c s = .next t ∧ Preserves s t := by
  have ordinary (passes : PassesTo s (exec c s)) : ∃ t, exec c s = .next t ∧ Preserves s t :=
    let ⟨t, next, h⟩ := passes
    ⟨t, next, h.toPreserves⟩
  cases c with
  | calCommit r b => exact execCalCommit_preserves ..
  | yardReset a b => exact execYardReset_preserves ..
  | calibrationLoaded d0 d1 => exact execCalibrationLoaded_preserves ..
  | vehicleRegisterLoaded x => exact execVehicleRegisterLoaded_preserves s (of_decide_eq_true (Bool.and_eq_true_iff.1 wf).1)
  | siteRegisterLoaded x => exact execSiteRegisterLoaded_preserves s (of_decide_eq_true (Bool.and_eq_true_iff.1 wf).1)
  | _ => exact ordinary (exec_passes _ s nofun nofun nofun nofun nofun)

/-- Every command has the invariants that are not those of the loaded registers. -/
theorem exec_guards (c : Instr) (s : State) : ∃ t, exec c s = .next t ∧ Guards s t := by
  have of_preserves (h : ∃ t, exec c s = .next t ∧ Preserves s t) : ∃ t, exec c s = .next t ∧ Guards s t :=
    let ⟨t, next, h⟩ := h
    ⟨t, next, h.guards⟩
  have ordinary (passes : PassesTo s (exec c s)) : ∃ t, exec c s = .next t ∧ Guards s t :=
    let ⟨t, next, h⟩ := passes
    ⟨t, next, h.guards⟩
  cases c with
  | calCommit r b => exact of_preserves (execCalCommit_preserves ..)
  | yardReset a b => exact of_preserves (execYardReset_preserves ..)
  | calibrationLoaded d0 d1 => exact of_preserves (execCalibrationLoaded_preserves ..)
  | vehicleRegisterLoaded x => exact let ⟨t, next, h, _⟩ := execVehicleRegisterLoaded_guards s x; ⟨t, next, h⟩
  | siteRegisterLoaded x => exact let ⟨t, next, h, _⟩ := execSiteRegisterLoaded_guards s x; ⟨t, next, h⟩
  | _ => exact ordinary (exec_passes _ s nofun nofun nofun nofun nofun)

theorem DeckUnit.tick_cal (s : State) (d : Deck) : ((s.idle).deck d).cal = (s.deck d).cal := by cases d <;> rfl

theorem Preserves.idle (s : State) : Preserves s s.idle :=
  SameYard.preserves_of_same (by constructor <;> rfl) (DeckUnit.tick_cal s) rfl rfl

/-- A command leaves the front of the queue before it is taken; no other invariant than `pendingOk` speaks of the queue. -/
theorem step_guards {s t : State} (h : step s = .next t) : ∃ rest, Guards { s with pending := rest } t := by
  unfold step at h
  split at h
  next =>
    obtain rfl := Host.Outcome.next.inj h
    exact ⟨s.pending, (Preserves.idle s).guards⟩
  next c rest _ =>
    obtain ⟨u, next, guards⟩ := exec_guards c { s with pending := rest }
    obtain rfl := Host.Outcome.next.inj (next.symm.trans h)
    exact ⟨rest, guards⟩

theorem step_preserves {s t : State} (h : step s = .next t) (wf : s.pendingOk = true) :
    ∃ rest, (∀ c ∈ rest, c.wf = true) ∧ Preserves { s with pending := rest } t := by
  rw [State.pendingOk, List.all_eq_true] at wf
  unfold step at h
  split at h
  next =>
    obtain rfl := Host.Outcome.next.inj h
    exact ⟨s.pending, wf, Preserves.idle s⟩
  next c rest pending =>
    rw [pending, List.forall_mem_cons] at wf
    obtain ⟨front, wf⟩ := wf
    obtain ⟨u, next, preserves⟩ := exec_preserves c { s with pending := rest } front
    obtain rfl := Host.Outcome.next.inj (next.symm.trans h)
    exact ⟨rest, wf, preserves⟩

/-- Settles O3: what every command keeps includes the waiting commands. -/
theorem commandsLeaveTheQueue : Obligations.CommandsLeaveTheQueue := by
  intro c s
  obtain ⟨t, next, guards⟩ := exec_guards c s
  exact ⟨t, next, guards.pending⟩

/-- Settles O57: no motor starts while ESTOP is active, and its activation stops each. -/
theorem noBarrierMovesUnderEstop : Obligations.NoBarrierMovesUnderEstop := by
  intro s t safe h
  obtain ⟨rest, guards⟩ := step_guards h
  exact guards.estop safe

/-- Settles O58, by what every command keeps of each block. -/
theorem blocksStayCoherent : Obligations.BlocksStayCoherent := by
  intro s t lanes decks notices quiet h
  obtain ⟨rest, guards⟩ := step_guards h
  exact ⟨guards.lanes lanes, guards.decks decks, guards.notices notices, guards.quiet quiet⟩

/-- Settles O59: an item joins only where it has a slot, and start-up's repair items find the queue empty. -/
theorem writeQueueFits : Obligations.WriteQueueFits := by
  intro s t fits quiet h
  obtain ⟨rest, guards⟩ := step_guards h
  exact ⟨guards.fits quiet fits, guards.quiet quiet⟩

/-- Settles O60: a lane gains a claim, a holding or a binding only with the state that allows it, and an entry its slot, tag and
lane only where no other has them. -/
theorem registersAndClaimsStayCoherent : Obligations.RegistersAndClaimsStayCoherent := by
  intro s t wf quiet lanes vehicles site claims h
  obtain ⟨rest, waiting, preserves⟩ := step_preserves h wf
  have pending : t.pendingOk = true := by
    rw [State.pendingOk, preserves.pending]
    exact List.all_eq_true.2 waiting
  exact ⟨pending, preserves.vehicles vehicles, preserves.places quiet site claims⟩

/-! ### The committed record (R30) -/

/-- What CAL_COMMIT may do to the committed record of a deck. -/
def Recommitted (d e : Deck) (s t : State) : Prop :=
  (t.deck e).cal.committed = (s.deck e).cal.committed
    ∨ (e = d ∧ (t.deck e).cal.committed.counter = (s.deck e).cal.committed.counter + 1
        ∧ (t.deck e).cal.committed.checksum = crc16 (t.deck e).cal.committed.body)

theorem State.commit_recommitted (s : State) (d e : Deck) (edit : CalRecord) : Recommitted d e s (s.commit d edit) := by
  have committed : ((s.commit d edit).deck e).cal.committed =
      if e = d then commitRecord (s.deck d).cal.committed edit else (s.deck e).cal.committed := by
    unfold State.commit
    simp only
    rw [(Keeps.examine _).committed]
    show ((State.setDeck s d _).deck e).cal.committed = _
    rw [State.deck_setDeck]
    split <;> rfl
  by_cases same : e = d
  · refine .inr ⟨same, ?_, ?_⟩
    · rw [committed, if_pos same, same]; rfl
    · rw [committed, if_pos same]; rfl
  · exact .inl (by rw [committed, if_neg same])

/-- A request changes the decks as its handler does, if at all. -/
theorem State.takeRequest_decks (s : State) (r : Req) (code : Byte) (anyPhase : Bool) (handler : Handler) :
    (s.takeRequest r code anyPhase handler).decks = s.decks
      ∨ (s.takeRequest r code anyPhase handler).decks = (handler (s.heard r.station)).1.decks := by
  obtain ⟨t, ports, taken, result⟩ := s.takeRequest_rest r code anyPhase handler
  rw [result]
  exact taken.imp (fun same => by rw [same]; rfl) fun same => by rw [same]

/-- CAL_COMMIT of a deck once the decision allows it (R28). -/
def commitHandler (d : Deck) : Handler := fun s =>
  match s.editCopy? d with
  | none => (s, .plain .wrongState)
  | some e =>
    match s.commitRefusal d e with
    | some reason => (s, .plain reason)
    | none => (s.commit d e, .plain .ok)

theorem execCalCommit_eq (s : State) (r : Req) (b : Byte) :
    execCalCommit r b s = .next (s.takeRequest r 0x16 false (deckControl r b commitHandler)) := rfl

theorem commitHandler_recommitted (s : State) (r : Req) (d e : Deck) :
    Recommitted d e s (needControl r.station .yard .deck (commitHandler d) s).1 := by
  refine rel_needControl (R := Recommitted d e) (.inl rfl) ?_
  unfold commitHandler
  split
  · exact .inl rfl
  · split
    · exact .inl rfl
    · exact State.commit_recommitted ..

theorem execCalCommit_recommitted {s t : State} {r : Req} {b : Byte} (h : execCalCommit r b s = .next t) (e : Deck) :
    (t.deck e).cal.committed = (s.deck e).cal.committed
      ∨ (b.toNat = e.toNat ∧ (t.deck e).cal.committed.counter = (s.deck e).cal.committed.counter + 1
          ∧ (t.deck e).cal.committed.checksum = crc16 (t.deck e).cal.committed.body) := by
  obtain rfl := Host.Outcome.next.inj ((execCalCommit_eq s r b).symm.trans h)
  refine (State.takeRequest_decks s r 0x16 false _).elim (fun same => .inl (by rw [State.deck, same]; rfl)) fun taken => ?_
  cases named : Deck.ofNat? b.toNat with
  | none =>
    exact .inl (by rw [State.deck, taken, deckControl, withDeck_none named]; rfl)
  | some d =>
    have number : b.toNat = d.toNat := by
      revert named
      rcases b.toNat with _ | _ | n <;> rintro ⟨⟩ <;> rfl
    refine (commitHandler_recommitted (s.heard r.station) r d e).imp (fun same => ?_) fun ⟨same, more⟩ => ⟨same ▸ number, ?_⟩
    · rw [State.deck, taken, deckControl, withDeck_some named]
      exact same
    · rw [State.deck, taken, deckControl, withDeck_some named]
      exact more

/-- Settles O33: the operations that a command is made of leave the committed records, but for the commit itself. -/
theorem calibrationChangesByCommit : Obligations.CalibrationChangesByCommit := by
  intro c s t d h calibration reset
  have unchanged (passes : PassesTo s (exec c s)) : (t.deck d).cal.committed = (s.deck d).cal.committed := by
    obtain ⟨u, next, passes⟩ := passes
    obtain rfl := Host.Outcome.next.inj (next.symm.trans h)
    exact passes.committed d
  have same (loaded : ∃ u, exec c s = .next u ∧ Guards s u ∧ u.decks = s.decks) :
      (t.deck d).cal.committed = (s.deck d).cal.committed := by
    obtain ⟨u, next, -, decks⟩ := loaded
    obtain rfl := Host.Outcome.next.inj (next.symm.trans h)
    rw [State.deck, decks]; rfl
  cases c with
  | calCommit r b => exact (execCalCommit_recommitted h d).imp_right fun ⟨number, more⟩ => ⟨r, b, rfl, number, more⟩
  | yardReset a b => exact absurd rfl (reset a b)
  | calibrationLoaded d0 d1 => exact absurd rfl (calibration d0 d1)
  | vehicleRegisterLoaded x => exact .inl (same (execVehicleRegisterLoaded_guards s x))
  | siteRegisterLoaded x => exact .inl (same (execSiteRegisterLoaded_guards s x))
  | _ => exact .inl (unchanged (exec_passes _ s nofun nofun nofun nofun nofun))

end Sys2Proof.Machine
end

section
/-! The machine and its requests: the step, the reset state, how a request of the index is taken, and what a request asks before
its block. -/

namespace Sys2Proof.Machine

/-! ### The step and the reset state -/

/-- Settles O1. -/
theorem stepTakesFrontCommand : Obligations.StepTakesFrontCommand := by
  intro s c rest pending
  rw [step, pending]

/-- Settles O2: `State.idle` ticks the two decks' intervals. -/
theorem emptyQueueIdles : Obligations.EmptyQueueIdles := by
  intro s pending
  refine ⟨s.idle, by rw [step, pending], rfl, fun d => ?_⟩
  cases d <;> rfl

/-- Settles O4: the one reset state, evaluated. -/
theorem resetState : Obligations.ResetState := by
  refine ⟨?_, rfl, rfl, ?_, ?_, rfl, rfl, rfl, rfl, rfl, rfl, rfl, rfl, rfl, rfl, rfl, ?_⟩
  · intro d; cases d <;> decide
  · have barriers (l : Lane) (i : BarrierId) : ((State.reset.lane l).barrier i).raiseOut = false
        ∧ ((State.reset.lane l).barrier i).lowerOut = false ∧ ((State.reset.lane l).barrier i).lowerPending = false := by
      cases l <;> cases i <;> decide
    intro l
    refine ⟨?_, ?_, ?_, ?_, ?_, ?_, ?_, ?_, ?_, ?_, ?_, barriers l, ?_, ?_⟩
    all_goals cases l <;> rfl
  · intro k; cases k <;> rfl
  · intro st; cases st <;> decide

/-! ### How a port takes a request (R189) -/

/-- Every request of the index comes to its port under its code; only GET_STATUS is taken in every phase. -/
theorem exec_eq_takeRequest {c : Instr} {r : Req} {code : Byte} (h : c.request? = some (r, code)) (s : State) :
    ∃ handler, exec c s = .next (s.takeRequest r code c.isGetStatus handler) := by
  cases c <;> cases h <;> exact ⟨_, rfl⟩

/-- Settles O5: each clause is a case of `takeRequest`. -/
theorem portsTakeRequests : Obligations.PortsTakeRequests := by
  intro c s r code h
  obtain ⟨handler, taken⟩ := exec_eq_takeRequest h s
  rw [taken]
  refine ⟨fun full => ?_, fun room marker => ?_, fun listens starting other => ?_, fun listens phase malformed => ?_⟩
  · rw [s.takeRequest_full r code _ handler full]
  · rw [s.takeRequest_behind r code _ handler room marker]
  · rw [other, s.takeRequest_notReady r code handler listens starting]
  · rw [s.takeRequest_malformed r code _ handler listens phase malformed]

/-! ### Frames that are no request (R186) -/

theorem Port.sent_next {p : Port} {x y : Response} {rest : List Response} (sending : p.sending = some x)
    (waiting : p.waiting = y :: rest) : p.sent = { p with sending := some y, waiting := rest } := by
  rw [Port.sent, sending, waiting]

theorem Port.sent_last {p : Port} {x : Response} (sending : p.sending = some x) (waiting : p.waiting = []) :
    p.sent = { p with sending := none } := by
  rw [Port.sent, sending, waiting]

/-- Settles O10: the two answers by the room of the port, and the end of a response by what waits behind it. -/
theorem framesWithoutARequest : Obligations.FramesWithoutARequest := by
  have answered (s : State) (st : Station) (code : Byte) (tag : Byte) (result : Result) (b : Bool) :
      (s.heard st).respond st ⟨code, tag, result, false, .none⟩ = s.refusedWith { station := st, tag := tag, bodyOk := b } code result :=
    s.heard_respond_refused { station := st, tag := tag, bodyOk := b } code result
  have full {s : State} {st : Station} (h : 4 ≤ (s.port st).waiting.length) : ((s.heard st).port st).full = true := by
    simpa [Port.full] using h
  have room {s : State} {st : Station} (h : (s.port st).waiting.length < 4) : ¬((s.heard st).port st).full = true := by
    simpa [Port.full] using h
  have error (s : State) (st : Station) (f : FrameFault) : exec (.frameError st f) s = .next (
      if ((s.heard st).port st).full then s.heard st
      else (s.heard st).respond st ⟨frameErrorCode f, 0, .frameError, false, .none⟩) := rfl
  have unknown (s : State) (r : Req) (code : Byte) : exec (.unknownRequest r code) s = .next (
      if ((s.heard r.station).port r.station).full then s.heard r.station
      else (s.heard r.station).respond r.station ⟨code, r.tag,
        if ((s.heard r.station).port r.station).marker.isSome then .busy else .unknownRequest, false, .none⟩) := rfl
  refine ⟨fun s r code h => ?_, fun s r code h => ?_, fun s st f h => ?_, fun s st h => ?_, fun s st code h => ?_,
    fun s st => ⟨rfl, rfl⟩, fun s st x y rest sending waiting => ?_, fun s st x sending waiting => ?_⟩
  · rw [unknown, if_pos (full h)]
  · rw [unknown, if_neg (room h), answered s r.station code r.tag _ r.bodyOk, State.heard_port, if_pos rfl]
  · rw [error, if_pos (full h)]
  · rw [error, if_neg (room h), answered s st _ 0 _ true]; rfl
  · rw [error, if_neg (room h), answered s st _ 0 _ true]; rfl
  · exact congrArg (fun p => Host.Outcome.next (s.setPort st p)) (Port.sent_next sending waiting)
  · exact congrArg (fun p => Host.Outcome.next (s.setPort st p)) (Port.sent_last sending waiting)

/-! ### What a request asks before its block (R165, R170) -/

/-- What the answer to a request is where its values or its station's authority do not allow it: `ok` says whether the values
lie in their sets, `need` what the request needs. -/
structure Asks (s : State) (st : Station) (ok : Bool) (need : Option (Access × Scope × Cls)) (answer : State × Answer) : Prop where
  range : ok = false → answer = (s, .plain .range)
  decision : ok = true → ∀ a scope cls, need = some (a, scope, cls) →
    (a = .control ∧ s.decision st scope cls ≠ .control) ∨ (a = .watch ∧ s.decision st scope cls = .none) →
    answer = (s, .plain .notPermitted)
  attended : ok = true → ∀ scope cls, need = some (.control, scope, cls) → (cls = .lane ∨ cls = .ticket) →
    s.decision st scope cls = .control → s.attendedByOther st scope = true → answer = (s, .plain .attended)

section Asks

variable {s : State} {st : Station} {ok : Bool} {need : Option (Access × Scope × Cls)} {k : Handler}

theorem Asks.nothing {answer : State × Answer} : Asks s st true none answer := ⟨nofun, fun _ _ _ _ => nofun, fun _ _ _ => nofun⟩

theorem Asks.refused : Asks s st false need (s, .plain .range) := ⟨fun _ => rfl, nofun, nofun⟩

theorem Asks.control (scope : Scope) (cls : Cls) : Asks s st true (some (.control, scope, cls)) (needControl st scope cls k s) where
  range := nofun
  decision _ a scope cls needed short := by
    cases needed
    obtain ⟨_, short⟩ | ⟨⟨⟩, _⟩ := short
    exact needControl_refused _ _ _ _ short
  attended _ scope cls needed lane control other := by
    cases needed
    exact needControl_attended _ _ _ _ control lane other

theorem Asks.watch (scope : Scope) (cls : Cls) : Asks s st true (some (.watch, scope, cls)) (needWatch st scope cls k s) where
  range := nofun
  decision _ a scope cls needed short := by
    cases needed
    obtain ⟨⟨⟩, _⟩ | ⟨_, short⟩ := short
    exact needWatch_refused _ _ _ _ short
  attended _ _ _ := nofun

theorem Asks.inRange (h : ok = true → Asks s st true need (k s)) : Asks s st ok need (inRange ok k s) := by
  cases ok with
  | false => exact .refused
  | true => exact h rfl

theorem Lane.lt_four_iff {n : Nat} : n < 4 ↔ (Lane.ofNat? n).isSome := by
  rcases n with _ | _ | _ | _ | n
  all_goals simp [Lane.ofNat?]

theorem Deck.lt_two_iff {n : Nat} : n < 2 ↔ (Deck.ofNat? n).isSome := by
  rcases n with _ | _ | n
  all_goals simp [Deck.ofNat?]

/-- A request with a lane byte, whose other values lie in their sets as `ok` says. -/
theorem Asks.withLane {b : Byte} {need : Lane → Access × Scope × Cls} {k : Lane → Handler}
    (h : ∀ l, Asks s st ok (some (need l)) (k l s)) :
    Asks s st (decide (b.toNat < 4) && ok) ((Lane.ofNat? b.toNat).map need) (withLane b k s) := by
  cases named : Lane.ofNat? b.toNat with
  | none =>
    rw [withLane_none named, (not_congr Lane.lt_four_iff.symm).1 (by simp [named]) |> decide_eq_false]
    exact .refused
  | some l =>
    rw [withLane_some named, decide_eq_true (Lane.lt_four_iff.2 (by simp [named]))]
    exact h l

theorem Asks.withDeck {b : Byte} {k : Deck → Handler} (h : ∀ d, Asks s st ok need (k d s)) :
    Asks s st (decide (b.toNat < 2) && ok) need (withDeck b k s) := by
  cases named : Deck.ofNat? b.toNat with
  | none =>
    rw [withDeck_none named, decide_eq_false ((not_congr Deck.lt_two_iff.symm).1 (by simp [named]))]
    exact .refused
  | some d =>
    rw [withDeck_some named, decide_eq_true (Deck.lt_two_iff.2 (by simp [named]))]
    exact h d

theorem Asks.of_eq {ok' : Bool} (h : Asks s st ok' need (k s)) (eq : ok = ok') : Asks s st ok need (k s) := eq ▸ h

theorem Asks.laneControl {r : Req} {b : Byte} {k : Lane → Handler} : Asks s r.station (decide (b.toNat < 4))
    ((Lane.ofNat? b.toNat).map fun l => (.control, .lane l, .lane)) (laneControl r b k s) :=
  Asks.of_eq (.withLane fun _ => .control ..) (Bool.and_true _).symm

theorem Asks.deckControl {r : Req} {b : Byte} {k : Deck → Handler} :
    Asks s r.station (decide (b.toNat < 2)) (some (.control, .yard, .deck)) (deckControl r b k s) :=
  Asks.of_eq (.withDeck fun _ => .control ..) (Bool.and_true _).symm

end Asks

theorem Asks.barrier {s : State} {r : Req} {b i : Byte} {k : Lane → BarrierId → Handler} :
    Asks s r.station (decide (b.toNat < 4 ∧ i.toNat < 2)) ((Lane.ofNat? b.toNat).map fun l => (.control, .lane l, .lane))
      (barrierRequest r b i k s) := by
  rw [Bool.decide_and]
  refine .withLane fun l => ?_
  rcases i.toNat with _ | _ | n
  · exact .control ..
  · exact .control ..
  · exact .refused

theorem Condition.lt_ten : ∀ n, decide (n < 10) = (Condition.ofNat? n).isSome
  | 0 | 1 | 2 | 3 | 4 | 5 | 6 | 7 | 8 | 9 => rfl
  | n + 10 => by simp [Condition.ofNat?]

theorem Condition.noticed : ∀ n, decide (n ∈ [0, 1, 2, 3, 6, 7]) = (Condition.ofNat? n).any Condition.hasNotice
  | 0 | 1 | 2 | 3 | 4 | 5 | 6 | 7 | 8 | 9 => rfl
  | n + 10 => by simp [Condition.ofNat?]

theorem enableOfNat?_isSome : ∀ n, decide (n < 2) = (enableOfNat? n).isSome
  | 0 | 1 => rfl
  | n + 2 => by simp [enableOfNat?, flagOfNat?]

theorem CaptureMode.lt_three : ∀ n, decide (n < 3) = (CaptureMode.ofNat? n).isSome
  | 0 | 1 | 2 => rfl
  | n + 3 => by simp [CaptureMode.ofNat?]

theorem decide_ne_nil {α : Type} [DecidableEq α] (l : List α) : decide (l ≠ []) = !l.isEmpty := by cases l <;> rfl

/-- The handler of each request asks for its values, its station's decision and the attendance in this order. -/
theorem exec_asks {c : Instr} {r : Req} {code : Byte} (h : c.request? = some (r, code)) (s : State) :
    ∃ handler, exec c s = .next (s.takeRequest r code c.isGetStatus handler)
      ∧ Asks (s.heard r.station) r.station (c.inSets s) (c.needs? s) (handler (s.heard r.station)) := by
  cases c <;> cases h <;> refine ⟨_, rfl, ?_⟩
  case getStatus => exact .nothing
  case configRead g =>
    change Asks _ _ (Group.ofNat? g.toNat).isSome ((Group.ofNat? g.toNat).map _) _
    cases Group.ofNat? g.toNat with
    | none => exact .refused
    | some g => exact .watch ..
  case configWriteLane l v =>
    change Asks _ _ (laneSettingsOf? v).isSome _ _
    cases laneSettingsOf? v with
    | none => exact .refused
    | some c => exact .control ..
  case configWriteWindows st v =>
    change Asks _ _ (windowsOf? v).isSome _ _
    cases windowsOf? v with
    | none => exact .refused
    | some ws => exact .control ..
  case configWriteNoticeLevels => exact .inRange fun _ => .control ..
  case configWriteWasteCaps => exact .inRange fun _ => .control ..
  case configWriteRollSecond => exact .control ..
  case configWriteVerifyOption v =>
    change Asks _ _ (decide (v.toNat < 2)) _ _
    rcases v.toNat with _ | _ | n
    · exact .control ..
    · exact .control ..
    · exact .refused
  case configWriteSampleTimeout => exact .control ..
  case fetchNotice => exact .nothing
  case noticeDone => exact .nothing
  case setNoticeMask v =>
    refine .of_eq (.inRange fun _ => .nothing) ?_
    simp [Instr.inSets, Machine.within]
  case clearCondition k =>
    rw [Instr.inSets, Condition.lt_ten]
    cases Condition.ofNat? k.toNat with
    | none => exact .refused
    | some k => exact .control ..
  case setConditionEnable k v =>
    rw [Instr.inSets, Bool.decide_and, Condition.noticed, enableOfNat?_isSome]
    cases Condition.ofNat? k.toNat with
    | none => exact .refused
    | some k =>
      cases enableOfNat? v.toNat with
      | none => exact .of_eq (k := refuse .range) .refused (by simp)
      | some e => exact .of_eq (.inRange fun _ => .control ..) (by simp)
  case setClock => exact .control ..
  case storeRetry => exact .control ..
  case readWeight d =>
    change Asks _ _ (decide (d.toNat < 3)) _ _
    rcases d.toNat with _ | _ | _ | n
    · exact .watch ..
    · exact .watch ..
    · exact .watch ..
    · exact .refused
  case readRaw d => exact Asks.of_eq (.withDeck fun _ => .watch ..) (Bool.and_true _).symm
  case readCal d v =>
    rw [Instr.inSets, Bool.decide_and]
    refine .withDeck fun d => ?_
    rcases v.toNat with _ | _ | n
    · exact .watch ..
    · exact .watch ..
    · exact .refused
  case zero => exact .deckControl
  case calOpen => exact .deckControl
  case calWrite d v =>
    refine .of_eq (.withDeck fun d => .inRange fun _ => .control ..) ?_
    rw [Instr.inSets, Bool.decide_and, decide_ne_nil, Bool.and_assoc]
  case calCommit => exact .deckControl
  case calDiscard => exact .deckControl
  case readLaneIo b => exact Asks.of_eq (.withLane fun _ => .watch ..) (Bool.and_true _).symm
  case barrierRaise => exact .barrier
  case barrierLower => exact .barrier
  case barrierClear => exact .barrier
  case openLane => exact .laneControl
  case closeLane => exact .laneControl
  case admitVehicle => exact .withLane fun _ => .inRange fun _ => .control ..
  case hold => exact .laneControl
  case resume => exact .laneControl
  case sendBack => exact .laneControl
  case laneReset => exact .laneControl
  case capture =>
    refine .of_eq (.withLane fun _ => .inRange fun _ => .control ..) ?_
    simp only [Instr.inSets, Bool.and_assoc, CaptureMode.lt_three]
  case attend => exact .laneControl
  case attendEnd => exact .laneControl
  case regAdd => exact .inRange fun _ => .control ..
  case regUpdate tag v =>
    refine .of_eq (.inRange fun _ => .control ..) ?_
    rw [Instr.inSets, Bool.decide_and, decide_ne_nil]
  case regRemove => exact .inRange fun _ => .control ..
  case regRead =>
    refine .of_eq (.inRange fun _ => .watch ..) ?_
    simp [Instr.inSets, Machine.within, Bool.decide_and]
  case regFind => exact .inRange fun _ => .watch ..
  case readSite =>
    refine .of_eq (.inRange fun _ => .watch ..) ?_
    simp [Instr.inSets, Machine.within, Bool.decide_and]
  case readTicket => exact .inRange fun _ => .watch ..
  case voidTicket => exact .inRange fun _ => .control ..
  case editTicket =>
    refine .of_eq (.inRange fun _ => .control ..) ?_
    rw [Instr.inSets, Bool.decide_and, decide_ne_nil]
  case readTotals => exact .watch ..
  case readJournal => exact .watch ..
  case archive =>
    refine .of_eq (.inRange fun _ => .control ..) ?_
    exact Bool.decide_and ..

/-- Settles O6: what each request's handler asks first answers it. -/
theorem authorityAndAttendanceHold : Obligations.AuthorityAndAttendanceHold := by
  intro c s r code h takes
  obtain ⟨handler, taken, asks⟩ := exec_asks h s
  rw [taken]
  refine ⟨fun outside => ?_, fun inside need scope cls needed => ⟨fun short => ?_, fun l other control lane kind decision attending
    differs => ?_⟩⟩
  · rw [State.takeRequest_refused takes (asks.range outside)]
  · rw [State.takeRequest_refused takes (asks.decision inside need scope cls needed short)]
  · subst control lane
    have attended : s.attendedByOther r.station (.lane l) = true := by simp [State.attendedByOther, attending, differs]
    rw [State.takeRequest_refused takes (asks.attended inside _ _ needed kind decision attended)]

end Sys2Proof.Machine
end

section
/-! The requests that read: that they change nothing of the yard (R165, R193), and what GET_STATUS answers. -/

namespace Sys2Proof.Machine

/-! ### Requests that need WATCH -/

/-- `t` differs from `s` at most in the ports and in the reads at the memory port. -/
def ReadOnly (s t : State) : Prop :=
  ∃ ports serving waiting, t = { s with ports := ports, store := { s.store with serving := serving, waiting := waiting } }

theorem ReadOnly.refl (s : State) : ReadOnly s s := ⟨s.ports, s.store.serving, s.store.waiting, rfl⟩

theorem ReadOnly.readJournalEntries (s : State) (r : Req) (code : Byte) (seqs : List Nat) (clamped : Bool) :
    ReadOnly s (readJournalEntries r code seqs clamped s).1 := by
  unfold Machine.readJournalEntries
  simp only
  split
  · exact .refl s
  · unfold StoreEngine.takeReads
    split
    · exact ⟨s.ports, _, s.store.waiting, rfl⟩
    · exact ⟨s.ports, s.store.serving, _, rfl⟩

theorem ReadOnly.needWatch {s : State} {st : Station} {scope : Scope} {cls : Cls} {k : Handler} (h : ReadOnly s (k s).1) :
    ReadOnly s (needWatch st scope cls k s).1 := rel_needWatch (.refl s) h

theorem ReadOnly.inRange {s : State} {ok : Bool} {k : Handler} (h : ReadOnly s (k s).1) :
    ReadOnly s (inRange ok k s).1 := rel_inRange (.refl s) fun _ => h

/-- The block's part of every read changes nothing but the reads at the memory port. -/
theorem exec_readOnly {c : Instr} {s : State}
    (h : (∃ scope cls, c.needs? s = some (.watch, scope, cls)) ∨ c.isGetStatus = true) :
    ∃ r code anyPhase handler, exec c s = .next (s.takeRequest r code anyPhase handler) ∧ ∀ t, ReadOnly t (handler t).1 := by
  cases c
  case getStatus r => exact ⟨r, _, _, _, rfl, .refl⟩
  case configRead r g =>
    refine ⟨r, _, _, _, rfl, fun t => ?_⟩
    cases Group.ofNat? g.toNat with
    | none => exact .refl t
    | some g => exact .needWatch (.refl t)
  case readWeight r d =>
    refine ⟨r, _, _, _, rfl, fun t => ?_⟩
    rcases DeckSel.ofNat? d.toNat with _ | _ | _ | _
    · exact .refl t
    all_goals exact .needWatch (.refl t)
  case readRaw r d => exact ⟨r, _, _, _, rfl, fun t => rel_withDeck (.refl t) fun _ => .needWatch (.refl t)⟩
  case readCal r d copy =>
    refine ⟨r, _, _, _, rfl, fun t => rel_withDeck (.refl t) fun d => ?_⟩
    cases copyOfNat? copy.toNat with
    | none => exact .refl t
    | some edit =>
      refine .needWatch ?_
      simp only
      split
      · split <;> exact .refl t
      · exact .refl t
  case readLaneIo r b => exact ⟨r, _, _, _, rfl, fun t => rel_withLane (.refl t) fun _ => .needWatch (.refl t)⟩
  case regRead r after count => exact ⟨r, _, _, _, rfl, fun t => .inRange (.needWatch (.refl t))⟩
  case regFind r key =>
    refine ⟨r, _, _, _, rfl, fun t => .inRange (.needWatch ?_)⟩
    split <;> exact .refl t
  case readSite r after count => exact ⟨r, _, _, _, rfl, fun t => .inRange (.needWatch (.refl t))⟩
  case readTotals r => exact ⟨r, _, _, _, rfl, fun t => .needWatch (.refl t)⟩
  case readTicket r n =>
    refine ⟨r, _, _, _, rfl, fun t => .inRange (.needWatch ?_)⟩
    simp only
    split
    · exact .refl t
    · split
      · exact .readJournalEntries ..
      · exact .refl t
  case readJournal r seq count =>
    refine ⟨r, _, _, _, rfl, fun t => ?_⟩
    have read (n : Nat) : ReadOnly t (readJournalEntries r 0x3D ((List.range n).map fun i => seq.toNat + i)
        (decide (n ≠ count.toNat)) t).1 := .readJournalEntries ..
    by_cases none : t.decision r.station .yard .ticket = .none
    · rw [needWatch_refused _ _ _ _ none]
      exact .refl t
    · rw [needWatch_passes _ _ _ _ none]
      split
      · exact .refl t
      · exact read _
  all_goals simp [Instr.needs?, Instr.isGetStatus] at h

/-- Settles O7: the block of a read leaves its state, and the rest of a request touches the ports alone. -/
theorem readsChangeNothing : Obligations.ReadsChangeNothing := by
  intro c s t h next
  obtain ⟨r, code, anyPhase, handler, taken, reads⟩ := exec_readOnly h
  obtain rfl := Host.Outcome.next.inj (taken.symm.trans next)
  obtain ⟨u, ports, from', result⟩ := s.takeRequest_rest r code anyPhase handler
  rw [result]
  obtain rfl | rfl := from'
  · rfl
  · obtain ⟨_, _, _, eq⟩ := reads (s.heard r.station)
    rw [eq]
    rfl

/-! ### GET_STATUS (R193) -/

theorem execGetStatus_answered {s : State} {r : Req} (listens : s.Listens r.station) (ok : r.bodyOk = true) :
    execGetStatus r s = .next (s.answered r 0x01 .ok false (.status s.statusReport)) := by
  have taken := s.takeRequest_taken r 0x01 true (fun s => (s, .okBody (.status s.statusReport))) listens (.inr rfl) ok
  exact congrArg Host.Outcome.next (taken.trans (s.heard_respond _ _))

theorem State.boundEntry?_isSome (s : State) (l : Lane) :
    (s.boundEntry? l).isSome = s.site.entries.any fun e => decide (e.boundLane = some l) := by
  rw [State.boundEntry?, Bool.eq_iff_iff, List.find?_isSome, List.any_eq_true]

theorem State.hasClaim_eq (s : State) (l : Lane) : s.hasClaim l = (s.claims.d0 ++ s.claims.d1).contains l := by
  rw [State.hasClaim, List.contains_append]

theorem State.isHolder_eq (s : State) (l : Lane) : s.isHolder l = decide (s.holders.d0 = some l ∨ s.holders.d1 = some l) :=
  (Bool.decide_or ..).symm

/-- Settles O12: the report field by field, those not yet loaded by the rank of the phase. -/
theorem getStatusReports : Obligations.GetStatusReports := by
  intro s r listens ok
  refine (execGetStatus_answered listens ok).trans ?_
  simp only [State.statusReport, State.deckStatus, State.calibrationLoaded, State.counterLoaded, State.freeCapacity,
    decide_eq_true_eq]
  have lane (l : Lane) : s.laneStatus l = {
      state := (s.lane l).state
      holdReason := (s.lane l).holdReason
      heldFrom := (s.lane l).heldFrom
      bound := s.site.entries.any fun e => decide (e.boundLane = some l)
      claim := (s.claims.d0 ++ s.claims.d1).contains l
      holding := decide (s.holders.d0 = some l ∨ s.holders.d1 = some l)
      attending := s.attending.get l
      armed := (s.lane l).armed
      capture := (s.lane l).capture } := by
    rw [State.laneStatus, State.boundEntry?_isSome, State.hasClaim_eq, State.isHolder_eq]
  rw [show s.laneStatus = _ from funext lane]
  rfl

end Sys2Proof.Machine
end

section
/-! What the requests that need WATCH answer: settings, readings, the site register, tickets and the vehicle register (R20,
R21, R60, R112, R113, R132, R133, R192). -/

namespace Sys2Proof.Machine

/-! ### A read whose station has WATCH -/

section Watched

variable {s : State} {r : Req} {code : Byte} {scope : Scope} {cls : Cls} {handler k : Handler}

/-- A read that its decision lets through, and that its block answers at once. -/
theorem State.takeRequest_watched (h : s.Takes r) (watch : s.decision r.station scope cls ≠ .none)
    {result : Result} {clamped : Bool} {body : RespBody}
    (hk : k (s.heard r.station) = (s.heard r.station, .reply result clamped body)) :
    s.takeRequest r code false (needWatch r.station scope cls k) = s.answered r code result clamped body :=
  State.takeRequest_answered h ((needWatch_passes (s := s.heard r.station) _ _ _ _ watch).trans hk)

theorem State.takeRequest_outOfRange (h : s.Takes r) :
    s.takeRequest r code false (refuse .range) = s.refusedWith r code .range :=
  State.takeRequest_refused h rfl

end Watched

/-! ### CONFIG_READ (R192) -/

theorem Group.ofNat?_lane {n : Nat} {l : Lane} (h : n = l.toNat) : Group.ofNat? n = some (.lane l) := by
  subst h
  cases l <;> rfl

theorem Group.ofNat?_windows {n : Nat} {st : Station} (h : n = 0x10 + st.toNat) :
    Group.ofNat? n = some (.windows st) := by
  subst h
  cases st <;> rfl

theorem Group.ofNat?_eq_none {n : Nat} (lane : 4 ≤ n) (windows : ¬(0x10 ≤ n ∧ n ≤ 0x12))
    (yard : ¬(0x20 ≤ n ∧ n ≤ 0x24)) : Group.ofNat? n = none := by
  unfold Group.ofNat?
  split <;> first | rfl | omega

theorem execConfigRead_group {s : State} {r : Req} {id : Byte} {g : Group} (h : s.Takes r)
    (named : Group.ofNat? id.toNat = some g) (watch : s.decision r.station g.scope g.cls ≠ .none) :
    execConfigRead r id s = .next (s.answered r 0x02 .ok false (.group (s.settings.groupBytes g))) := by
  unfold execConfigRead
  rw [named, State.takeRequest_watched h watch rfl]
  rfl

theorem execConfigRead_outOfRange {s : State} {r : Req} {id : Byte} (h : s.Takes r) (named : Group.ofNat? id.toNat = none) :
    execConfigRead r id s = .next (s.refusedWith r 0x02 .range) := by
  unfold execConfigRead
  rw [named, State.takeRequest_outOfRange h]

theorem natBytes_one_flag (b : Bool) : natBytes 1 (flagNat b) = [if b then 0x01 else 0x00] := by
  cases b <;> rfl

/-! ### READ_WEIGHT, READ_RAW and READ_LANE_IO (R20, R21, R60) -/

theorem DeckSel.ofNat?_eq_none {n : Nat} (h : 3 ≤ n) : DeckSel.ofNat? n = none := by
  match n, h with
  | _ + 3, _ => rfl

theorem execReadWeight_deck {s : State} {r : Req} {b : Byte} {d : Deck} (h : s.Takes r) (named : b.toNat = d.toNat)
    (watch : s.decision r.station .yard .deck ≠ .none) :
    execReadWeight r b s = .next (s.answered r 0x10 .ok false (.weight (s.deck d).weightReport)) := by
  unfold execReadWeight
  rw [named]
  cases d <;> exact congrArg _ (State.takeRequest_watched h watch rfl)

theorem execReadWeight_both {s : State} {r : Req} {b : Byte} (h : s.Takes r) (named : b.toNat = 2)
    (watch : s.decision r.station .yard .deck ≠ .none) :
    execReadWeight r b s =
      .next (s.answered r 0x10 .ok false (.coupled s.coupled s.decks.d0.brief s.decks.d1.brief)) := by
  unfold execReadWeight
  rw [named]
  exact congrArg _ (State.takeRequest_watched h watch rfl)

theorem execReadRaw_deck {s : State} {r : Req} {b : Byte} {d : Deck} (h : s.Takes r) (named : b.toNat = d.toNat)
    (watch : s.decision r.station .yard .deck ≠ .none) :
    execReadRaw r b s = .next (s.answered r 0x11 .ok false (.raw (s.deck d).rawReport)) := by
  unfold execReadRaw
  rw [withDeck_some (Deck.ofNat?_of_eq named), State.takeRequest_watched h watch rfl]
  rfl

theorem execReadLaneIo_lane {s : State} {r : Req} {b : Byte} {l : Lane} (h : s.Takes r)
    (named : Lane.ofNat? b.toNat = some l) (watch : s.decision r.station (.lane l) .lane ≠ .none) :
    execReadLaneIo r b s = .next (s.answered r 0x20 .ok false (.laneIo (s.laneIoReport l))) := by
  unfold execReadLaneIo
  rw [withLane_some named, State.takeRequest_watched h watch rfl]
  rfl

theorem Lane.ofNat?_eq_none {n : Nat} (h : 4 ≤ n) : Lane.ofNat? n = none := by
  match n, h with
  | _ + 4, _ => rfl

theorem LaneUnit.green_eq (u : LaneUnit) :
    u.green = decide ((u.state = .entering ∨ u.state = .positioning) ∧ u.go = true) := by
  simp [LaneUnit.green]

theorem Barrier.settled_eq (b : Barrier) : b.settled = decide (b.beamBroken = false ∧ b.clearDelay = none) := by
  rw [Barrier.settled, Bool.eq_iff_iff]
  simp

/-- Settles O13: each operand in its set names a group, a deck or a lane, and the report is the model's, field by field. -/
theorem settingsAndReadingsAnswer : Obligations.SettingsAndReadingsAnswer := by
  refine ⟨fun s r id h => ⟨?_, ?_, ?_⟩, fun s r b h => ⟨?_, ?_, ?_⟩, fun s r b h => ⟨?_, ?_⟩⟩
  · intro l named watch
    exact execConfigRead_group (g := .lane l) h (Group.ofNat?_lane named) watch
  · intro watch
    refine ⟨fun st named => execConfigRead_group (g := .windows st) h (Group.ofNat?_windows named) watch, fun named => ?_, fun named => ?_,
      fun named => ?_, fun named => ?_, fun named => ?_⟩
    · exact execConfigRead_group (g := .levels) h (by rw [named]; rfl) watch
    · exact execConfigRead_group (g := .caps) h (by rw [named]; rfl) watch
    · exact execConfigRead_group (g := .rollSecond) h (by rw [named]; rfl) watch
    · rw [← natBytes_one_flag]
      exact execConfigRead_group (g := .verify) h (by rw [named]; rfl) watch
    · exact execConfigRead_group (g := .sampleTimeout) h (by rw [named]; rfl) watch
  · intro lane windows yard
    exact execConfigRead_outOfRange h (Group.ofNat?_eq_none lane windows yard)
  · intro out
    show execReadWeight r b s = _
    unfold execReadWeight
    rw [DeckSel.ofNat?_eq_none out, State.takeRequest_outOfRange h]
  · intro out
    show execReadRaw r b s = _
    unfold execReadRaw
    rw [withDeck_none (Deck.ofNat?_of_two_le out), State.takeRequest_outOfRange h]
  · intro watch
    exact ⟨fun d named => ⟨execReadWeight_deck h named watch, execReadRaw_deck h named watch⟩,
      fun named => execReadWeight_both h named watch⟩
  · intro out
    show execReadLaneIo r b s = _
    unfold execReadLaneIo
    rw [withLane_none (Lane.ofNat?_eq_none out), State.takeRequest_outOfRange h]
  · intro l named watch
    simp only [← LaneUnit.green_eq, ← Barrier.settled_eq]
    exact execReadLaneIo_lane h named watch

/-! ### READ_SITE and READ_TICKET of an entry on site (R132, R133) -/

/-- The entries behind `after` in admission order, the first entry of that ordinal being the one that holds it. -/
theorem entriesAfter_of_ne_zero {after : Nat} (h : after ≠ 0) (es : List SiteEntry) :
    entriesAfter after es = es.filter fun e => decide (after < e.ordinal) || (decide (e.ordinal = after)
      && ((es.find? fun x => decide (x.ordinal = after)).any fun x => decide (x.slot < e.slot))) := by
  unfold entriesAfter
  rw [if_neg h]
  cases es.find? fun x => decide (x.ordinal = after) with
  | none => simp
  | some x => rfl

theorem BitVec.toNat_eq_zero_iff {w : Nat} {x : BitVec w} : x.toNat = 0 ↔ x = 0 := by
  rw [← BitVec.toNat_inj]
  simp

theorem within_eq_false {lo hi n : Nat} (h : n < lo ∨ hi < n) : within lo hi n = false := by
  unfold within
  simp
  omega

theorem within_eq_true {lo hi n : Nat} (h : lo ≤ n) (h' : n ≤ hi) : within lo hi n = true := by
  unfold within
  simp [h, h']

/-- Settles O15: the entries after the ordinal given, and the ticket of a site entry before any journal entry. -/
theorem siteReadsAnswer : Obligations.SiteReadsAnswer := by
  refine ⟨fun s r after count h => ⟨fun out => ?_, fun low high watch es entries => ?_⟩,
    fun s r n h => ⟨fun zero => ?_, fun nonzero watch => ⟨fun e held => ?_, fun absent closed => ?_⟩⟩⟩
  · show execReadSite r after count s = _
    unfold execReadSite
    rw [within_eq_false (by omega), inRange_false, State.takeRequest_outOfRange h]
  · have listed : es = entriesAfter after.toNat s.site.entries := by
      rw [entries]
      split
      · rename_i zero
        simp [zero, entriesAfter]
      · rename_i nonzero
        exact (entriesAfter_of_ne_zero (mt BitVec.toNat_eq_zero_iff.1 nonzero) _).symm
    subst listed
    show execReadSite r after count s = _
    unfold execReadSite
    rw [within_eq_true low high, inRange_true, State.takeRequest_watched h watch rfl]
    rfl
  · show execReadTicket r n s = _
    unfold execReadTicket
    rw [decide_eq_false (not_not_intro zero), inRange_false, State.takeRequest_outOfRange h]
  all_goals
    show execReadTicket r n s = _
    unfold execReadTicket
    rw [decide_eq_true nonzero, inRange_true]
    refine congrArg _ (State.takeRequest_answered h ((needWatch_passes (s := s.heard r.station) _ _ _ _ watch).trans ?_))
  · show (match s.siteByTicket? n.toNat with | some e => _ | none => _) = _
    rw [held]
    rfl
  · have notClosed : (s.tickets.recent.find? fun p => decide (p.ticket = n.toNat)) = none := by simpa using closed
    show (match s.siteByTicket? n.toNat with | some e => _ | none => _) = _
    rw [absent]
    show (match s.tickets.recent.find? _ with | some p => _ | none => _) = _
    rw [notClosed]
    rfl

/-! ### REG_READ and REG_FIND (R112, R113) -/

theorem insertByTag_perm (v : VehicleData) (vs : List VehicleData) : (insertByTag v vs).Perm (v :: vs) := by
  induction vs with
  | nil => exact .refl _
  | cons x xs ih =>
    unfold insertByTag
    split
    · exact .refl _
    · exact (ih.cons x).trans (.swap v x xs)

theorem insertByTag_sorted (v : VehicleData) {vs : List VehicleData}
    (h : vs.Pairwise fun a b => a.tag.toNat ≤ b.tag.toNat) :
    (insertByTag v vs).Pairwise fun a b => a.tag.toNat ≤ b.tag.toNat := by
  induction vs with
  | nil => exact List.pairwise_singleton ..
  | cons x xs ih =>
    obtain ⟨first, rest⟩ := List.pairwise_cons.1 h
    unfold insertByTag
    split
    · rename_i below
      have below : v.tag.toNat < x.tag.toNat := below
      refine List.pairwise_cons.2 ⟨fun y hy => ?_, h⟩
      obtain rfl | hy := List.mem_cons.1 hy
      · omega
      · have := first y hy
        omega
    · rename_i above
      have above : x.tag.toNat ≤ v.tag.toNat := Nat.le_of_not_lt above
      refine List.pairwise_cons.2 ⟨fun y hy => ?_, ih rest⟩
      obtain rfl | hy := List.mem_cons.1 ((insertByTag_perm v xs).mem_iff.1 hy)
      · exact above
      · exact first y hy

theorem State.vehiclesByTag_perm (s : State) : s.vehiclesByTag.Perm (s.vehicles.map fun v => v.data) := by
  unfold State.vehiclesByTag
  induction s.vehicles with
  | nil => exact .refl _
  | cons v vs ih => exact (insertByTag_perm v.data _).trans (ih.cons v.data)

theorem State.vehiclesByTag_sorted (s : State) : s.vehiclesByTag.Pairwise fun a b => a.tag.toNat ≤ b.tag.toNat := by
  unfold State.vehiclesByTag
  induction s.vehicles with
  | nil => exact .nil
  | cons v vs ih => exact insertByTag_sorted v.data ih

theorem State.mem_vehiclesByTag {s : State} {d : VehicleData} : d ∈ s.vehiclesByTag ↔ ∃ v ∈ s.vehicles, v.data = d := by
  rw [s.vehiclesByTag_perm.mem_iff, List.mem_map]

/-- What REG_FIND answers goes by the first entry found and the number of them. -/
theorem execRegFind_found {s : State} {r : Req} {key : FindKey} {v : VehicleData} {vs : List VehicleData} (h : s.Takes r)
    (ok : FindKey.ok key = true) (watch : s.decision r.station .yard .register ≠ .none) (found : s.findVehicles key = v :: vs) :
    execRegFind r key s = .next (s.answered r 0x34 .ok false
      (.vehicle (s.vehicleReport v) (FindKey.matches? (vs.length + 1) key))) := by
  unfold execRegFind
  rw [ok, inRange_true]
  refine congrArg _ (State.takeRequest_watched h watch ?_)
  show (match s.findVehicles key with | [] => _ | v :: vs => _) = _
  rw [found]
  rfl

theorem execRegFind_notFound {s : State} {r : Req} {key : FindKey} (h : s.Takes r) (ok : FindKey.ok key = true)
    (watch : s.decision r.station .yard .register ≠ .none) (found : s.findVehicles key = []) :
    execRegFind r key s = .next (s.refusedWith r 0x34 .notFound) := by
  unfold execRegFind
  rw [ok, inRange_true]
  refine congrArg _ (State.takeRequest_watched h watch ?_)
  show (match s.findVehicles key with | [] => _ | v :: vs => _) = _
  rw [found]
  rfl

theorem execRegFind_outOfRange {s : State} {r : Req} {key : FindKey} (h : s.Takes r) (ok : FindKey.ok key = false) :
    execRegFind r key s = .next (s.refusedWith r 0x34 .range) := by
  unfold execRegFind
  rw [ok, inRange_false, State.takeRequest_outOfRange h]

theorem FindKey.fleet_ok_iff {name : List Byte} : FindKey.ok (.fleet name) = true ↔
    name ≠ [] ∧ name.length ≤ 12 ∧ ∀ c ∈ name, 0x20 ≤ c.toNat ∧ c.toNat ≤ 0x7E := by
  simp [FindKey.ok, fleetOk, within]

theorem State.vehicle?_some {s : State} {tag : Tag} {v : VehicleEntry} (h : s.vehicle? tag = some v) :
    v ∈ s.vehicles ∧ v.data.tag = tag :=
  ⟨List.mem_of_find?_eq_some h, by simpa using List.find?_some h⟩

/-- A search finds first the matching entry of the lowest tag, and with it every other one. -/
theorem State.findVehicles_lowest {s : State} {p : VehicleData → Bool} {v : VehicleEntry} (mem : v ∈ s.vehicles)
    (found : p v.data = true)
    (lowest : ∀ u ∈ s.vehicles, p u.data = true → u ≠ v → v.data.tag.toNat < u.data.tag.toNat) :
    ∃ vs, s.vehiclesByTag.filter p = v.data :: vs
      ∧ vs.length + 1 = (s.vehicles.filter fun u => p u.data).length := by
  have here : v.data ∈ s.vehiclesByTag.filter p := List.mem_filter.2 ⟨State.mem_vehiclesByTag.2 ⟨v, mem, rfl⟩, found⟩
  have sorted := s.vehiclesByTag_sorted.filter p
  have number : (s.vehiclesByTag.filter p).length = (s.vehicles.filter fun u => p u.data).length := by
    rw [(s.vehiclesByTag_perm.filter p).length_eq, List.filter_map, List.length_map]
    rfl
  cases list : s.vehiclesByTag.filter p with
  | nil => simp [list] at here
  | cons x xs =>
    rw [list] at here sorted number
    obtain ⟨inRegister, isFound⟩ := List.mem_filter.1 (list ▸ List.mem_cons_self : x ∈ s.vehiclesByTag.filter p)
    obtain ⟨u, memU, rfl⟩ := State.mem_vehiclesByTag.1 inRegister
    by_cases same : u = v
    · exact ⟨xs, by rw [same], number⟩
    · have above := lowest u memU isFound same
      obtain eq | later := List.mem_cons.1 here
      · rw [eq] at above
        omega
      · have := (List.pairwise_cons.1 sorted).1 _ later
        omega

/-- In a keyed register no other entry holds an entry's tag. -/
theorem keyed_tag_inj {vs : List VehicleEntry} (keys : keyed vs = true) {u v : VehicleEntry} (hu : u ∈ vs) (hv : v ∈ vs)
    (tags : u.data.tag = v.data.tag) : u = v := by
  obtain ⟨_, _, nodup, _⟩ := keyed_iff.1 keys
  exact eq_of_key nodup hu hv tags

/-- Settles O18: the register sorted by tag is a permutation of itself in ascending order, and a search's first hit is its
lowest tag. -/
theorem registerReadsAnswer : Obligations.RegisterReadsAnswer := by
  refine ⟨⟨fun s r after count h => ⟨fun out => ?_, fun low high watch => ?_⟩, fun s r tag h => ⟨fun zero => ?_,
    fun nonzero watch => ⟨fun absent => ?_, fun keys v held => ?_⟩⟩, fun s r name h => ⟨fun bad => ?_,
    fun given short ascii watch => ⟨fun absent => ?_, fun v mem named lowest => ?_⟩⟩⟩, fun s v => ?_⟩
  · show execRegRead r after count s = _
    unfold execRegRead
    rw [within_eq_false (by omega), inRange_false, State.takeRequest_outOfRange h]
  · refine ⟨s.vehiclesByTag.filter fun v => decide (after < v.tag), s.vehiclesByTag_sorted.filter _,
      s.vehiclesByTag_perm.filter _, ?_⟩
    show execRegRead r after count s = _
    unfold execRegRead
    rw [within_eq_true low high, inRange_true, State.takeRequest_watched h watch rfl]
    rfl
  · exact execRegFind_outOfRange h (decide_eq_false (not_not_intro zero))
  · refine execRegFind_notFound h (decide_eq_true nonzero) watch (List.filter_eq_nil_iff.2 fun d memD => ?_)
    obtain ⟨u, memU, rfl⟩ := State.mem_vehiclesByTag.1 memD
    exact List.find?_eq_none.1 absent u memU
  · obtain ⟨mem, rfl⟩ := State.vehicle?_some held
    obtain ⟨vs, found, _⟩ := State.findVehicles_lowest (p := fun d => decide (d.tag = v.data.tag)) mem
      (decide_eq_true rfl) fun u memU tags other => absurd (keyed_tag_inj keys memU mem (of_decide_eq_true tags)) other
    exact execRegFind_found h (decide_eq_true nonzero) watch found
  · refine execRegFind_outOfRange h (Bool.eq_false_iff.2 fun ok => ?_)
    obtain ⟨given, short, ascii⟩ := FindKey.fleet_ok_iff.1 ok
    obtain none | long | ⟨c, mem, outside⟩ := bad
    · exact given none
    · omega
    · have := ascii c mem
      omega
  · refine execRegFind_notFound h (FindKey.fleet_ok_iff.2 ⟨given, short, ascii⟩) watch
      (List.filter_eq_nil_iff.2 fun d memD => ?_)
    obtain ⟨u, memU, rfl⟩ := State.mem_vehiclesByTag.1 memD
    simpa using absent u memU
  · obtain ⟨vs, found, number⟩ := State.findVehicles_lowest (p := fun d => decide (d.fleet = name)) mem
      (decide_eq_true named) fun u memU match' => lowest u memU (of_decide_eq_true match')
    rw [← number]
    exact execRegFind_found h (FindKey.fleet_ok_iff.2 ⟨given, short, ascii⟩) watch found
  · refine ⟨rfl, fun none => ?_, fun t some => ⟨?_, fun unset => ?_, fun set below => ?_, fun set past => ?_⟩,
      fun e held => ?_, fun absent => ?_⟩
    · simp [State.vehicleReport, none, tareState]
    · simp [State.vehicleReport, some, Tare.expiry]
    · simp [State.vehicleReport, some, tareState, unset]
    · simp [State.vehicleReport, some, tareState, set, Tare.validAt, Tare.expiry, below]
    · simp [State.vehicleReport, some, tareState, set, Tare.validAt, Tare.expiry, Nat.not_lt.2 past]
    · simp [State.vehicleReport, held, SiteEntry.noticeTicket]
    · simp [State.vehicleReport, absent]

end Sys2Proof.Machine
end

section
/-! READ_JOURNAL, READ_TICKET of a closed ticket, and the reads at the memory port (R133, R152, R156). -/

namespace Sys2Proof.Machine

/-! ### The answer of a read, at once or deferred -/

/-- A block that defers its answer, and whose effect is on the engine alone: the marker is set on the port. -/
theorem State.takeRequest_deferred {s : State} {r : Req} {code : Byte} {anyPhase : Bool} {handler : Handler} (h : s.Takes r)
    {e : StoreEngine} (hk : handler (s.heard r.station) = ((s.heard r.station).setStore e, .deferred)) :
    s.takeRequest r code anyPhase handler = { s with
      ports := s.ports.set r.station { s.port r.station with rx := [], marker := some ⟨code, r.tag⟩ }
      store := e } := by
  rw [s.takeRequest_takes r code anyPhase handler h, hk]
  show ({ s with
    ports := ((s.ports.set r.station _).set r.station
      { ((s.ports.set r.station { s.port r.station with rx := [] }).get r.station) with marker := some ⟨code, r.tag⟩ })
    store := e } : State) = _
  rw [PerStation.set_set, PerStation.get_set, if_pos rfl]

theorem StoreEngine.readSlot_isSome (e : StoreEngine) (seq : Nat) :
    (e.readSlot seq).got.isSome = (e.queuedEntry? seq).isSome := Option.isSome_map ..

/-- A read all of whose entries stand in the queue. -/
theorem readJournalEntries_inHand {s : State} {seqs : List Nat} {es : List JournalEntry} (r : Req) (code : Byte)
    (clamped : Bool) (queued : seqs.map s.store.queuedEntry? = es.map some) :
    readJournalEntries r code seqs clamped s = (s, .reply .ok clamped (.journal (es.map .full))) := by
  have got : (seqs.map s.store.readSlot).map (fun x => x.got) = es.map fun e => some (.full e) := by
    calc (seqs.map s.store.readSlot).map (fun x => x.got)
        = (seqs.map s.store.queuedEntry?).map (Option.map JournalReport.full) := by
          rw [List.map_map, List.map_map]
          rfl
      _ = es.map fun e => some (.full e) := by
          rw [queued, List.map_map]
          rfl
  have hand : inHand (seqs.map s.store.readSlot) = true := by
    have all : ((seqs.map s.store.readSlot).map fun x => x.got).all Option.isSome = true := by
      rw [got]
      simp
    rwa [List.all_map] at all
  have reports : reportsOf (seqs.map s.store.readSlot) = es.map .full := by
    calc reportsOf (seqs.map s.store.readSlot)
        = ((seqs.map s.store.readSlot).map fun x => x.got).filterMap id := by
          rw [List.filterMap_map]
          rfl
      _ = es.map .full := by
          rw [got, List.filterMap_map]
          exact congrFun List.filterMap_eq_map es
  unfold readJournalEntries
  simp only
  rw [if_pos hand, reports]

/-- A read one of whose entries does not stand in the queue joins the memory port. -/
theorem readJournalEntries_deferred {s : State} {seqs : List Nat} (r : Req) (code : Byte) (clamped : Bool)
    (missing : ∃ seq ∈ seqs, s.store.queuedEntry? seq = none) :
    readJournalEntries r code seqs clamped s = (s.setStore (s.store.takeReads {
      station := r.station, code := code, tag := r.tag, clamped := clamped, slots := seqs.map s.store.readSlot,
      discard := false }), .deferred) := by
  obtain ⟨seq, mem, absent⟩ := missing
  have hand : ¬inHand (seqs.map s.store.readSlot) = true := by
    intro all
    have here := List.all_eq_true.1 all _ (List.mem_map_of_mem mem)
    rw [StoreEngine.readSlot_isSome, absent] at here
    exact Bool.noConfusion here
  unfold readJournalEntries
  simp only
  rw [if_neg hand]

/-! ### READ_JOURNAL and READ_TICKET -/

theorem State.readable_iff {s : State} {seq : Nat} :
    s.readable seq = true ↔ s.index.nextSeq - 4096 ≤ seq ∧ seq < s.index.nextSeq := by
  unfold State.readable
  rw [Bool.and_eq_true, decide_eq_true_eq, decide_eq_true_eq]
  rfl

/-- The block of READ_JOURNAL, the readable range being met. -/
def readJournalHandler (r : Req) (seq count : Nat) : Handler := fun s =>
  readJournalEntries r 0x3D ((List.range (s.readCount seq count)).map fun i => seq + i)
    (decide (s.readCount seq count ≠ count)) s

theorem execReadJournal_eq (r : Req) (q : BitVec 32) (count : Byte) (s : State) :
    execReadJournal r q count s = .next (s.takeRequest r 0x3D false (needWatch r.station .yard .ticket fun s =>
      if s.readable q.toNat = false then (s, .plain .notFound) else readJournalHandler r q.toNat count.toNat s)) := rfl

theorem execReadJournal_notFound {s : State} {r : Req} {q : BitVec 32} (count : Byte) (h : s.Watches r .yard .ticket)
    (out : s.readable q.toNat = false) : execReadJournal r q count s = .next (s.refusedWith r 0x3D .notFound) := by
  obtain ⟨takes, watch⟩ := h
  rw [execReadJournal_eq]
  refine congrArg _ (State.takeRequest_watched takes watch ?_)
  exact if_pos out

theorem needWatch_readable {s : State} {r : Req} {q : BitVec 32} (count : Byte) (h : s.Watches r .yard .ticket)
    (readable : s.readable q.toNat = true) :
    needWatch r.station .yard .ticket (fun s => if s.readable q.toNat = false then (s, .plain .notFound)
      else readJournalHandler r q.toNat count.toNat s) (s.heard r.station)
      = readJournalHandler r q.toNat count.toNat (s.heard r.station) := by
  obtain ⟨_, watch⟩ := h
  rw [needWatch_passes (s := s.heard r.station) _ _ _ _ watch]
  exact if_neg (ne_false_of_eq_true readable)

theorem execReadJournal_inHand {s : State} {r : Req} {q : BitVec 32} {count : Byte} (h : s.Watches r .yard .ticket)
    (readable : s.readable q.toNat = true) {es : List JournalEntry}
    (length : es.length = s.readCount q.toNat count.toNat)
    (queued : ∀ (i : Nat) (e : JournalEntry), es[i]? = some e → s.store.queuedEntry? (q.toNat + i) = some e) :
    execReadJournal r q count s = .next (s.answered r 0x3D .ok (decide (s.readCount q.toNat count.toNat ≠ count.toNat))
      (.journal (es.map .full))) := by
  have all : ((List.range (s.readCount q.toNat count.toNat)).map fun i => q.toNat + i).map s.store.queuedEntry?
      = es.map some := by
    refine List.ext_getElem (by simp [length]) fun i _ inside => ?_
    rw [List.length_map] at inside
    simpa using queued i es[i] (List.getElem?_eq_getElem inside)
  rw [execReadJournal_eq]
  refine congrArg _ (State.takeRequest_answered h.1 ?_)
  rw [needWatch_readable count h readable]
  exact readJournalEntries_inHand (s := s.heard r.station) r _ _ all

theorem execReadJournal_deferred {s : State} {r : Req} {q : BitVec 32} {count : Byte} (h : s.Watches r .yard .ticket)
    (readable : s.readable q.toNat = true)
    (missing : ∃ i, i < s.readCount q.toNat count.toNat ∧ s.store.queuedEntry? (q.toNat + i) = none) :
    execReadJournal r q count s = .next { s with
      ports := s.ports.set r.station { s.port r.station with rx := [], marker := some ⟨0x3D, r.tag⟩ }
      store := s.store.takeReads {
        station := r.station
        code := 0x3D
        tag := r.tag
        clamped := decide (s.readCount q.toNat count.toNat ≠ count.toNat)
        slots := ((List.range (s.readCount q.toNat count.toNat)).map fun i => q.toNat + i).map s.store.readSlot
        discard := false } } := by
  obtain ⟨i, inside, absent⟩ := missing
  rw [execReadJournal_eq]
  refine congrArg _ (State.takeRequest_deferred h.1 ?_)
  rw [needWatch_readable count h readable]
  exact readJournalEntries_deferred (s := s.heard r.station) r _ _
    ⟨q.toNat + i, List.mem_map.2 ⟨i, List.mem_range.2 inside, rfl⟩, absent⟩

/-- The block of READ_TICKET once its decision is taken. -/
def readTicketHandler (r : Req) (n : Nat) : Handler := fun s =>
  match s.siteByTicket? n with
  | some e => (s, .okBody (.ticket e (sectionsOf e.kind e.weighings) (totalNet (sectionsOf e.kind e.weighings))))
  | none =>
    match s.tickets.recent.find? fun p => decide (p.ticket = n) with
    | some p => readJournalEntries r 0x39 [p.seq] false s
    | none => (s, .plain .notFound)

theorem execReadTicket_eq (r : Req) (n : BitVec 32) (s : State) :
    execReadTicket r n s = .next (s.takeRequest r 0x39 false (inRange (decide (n ≠ 0)) fun s =>
      needWatch r.station (s.ticketScope n.toNat) .ticket (readTicketHandler r n.toNat) s)) := rfl

/-- The ticket of no site entry has the scope YARD, and a recently closed one is read from the journal. -/
theorem readTicket_recent {s : State} {r : Req} {n : BitVec 32} {p : RecentTicket} (h : s.Watches r .yard .ticket)
    (given : n ≠ 0) (absent : s.siteByTicket? n.toNat = none)
    (recent : s.tickets.recent.find? (fun p => decide (p.ticket = n.toNat)) = some p) :
    inRange (decide (n ≠ 0)) (fun s =>
        needWatch r.station (s.ticketScope n.toNat) .ticket (readTicketHandler r n.toNat) s) (s.heard r.station)
      = readJournalEntries r 0x39 [p.seq] false (s.heard r.station) := by
  obtain ⟨_, watch⟩ := h
  have scope : (s.heard r.station).ticketScope n.toNat = .yard := by
    show (match s.siteByTicket? n.toNat with | some e => scopeOf e.boundLane | none => Scope.yard) = _
    rw [absent]
  rw [decide_eq_true given, inRange_true, scope, needWatch_passes (s := s.heard r.station) _ _ _ _ watch]
  show (match s.siteByTicket? n.toNat with | some e => _ | none => _) = _
  rw [absent]
  show (match s.tickets.recent.find? _ with | some p => _ | none => _) = _
  rw [recent]

/-! ### A read completes -/

theorem fillSlots_append (record : List Byte) {done : List ReadSlot} {x : ReadSlot} (rest : List ReadSlot)
    (inHand : ∀ y ∈ done, y.got.isSome = true) (missing : x.got = none) :
    fillSlots record (done ++ x :: rest) = done ++ { x with got := some (journalReport x.seq record) } :: rest := by
  induction done with
  | nil =>
    show (match x.got with | some _ => _ | none => _) = _
    rw [missing]
    rfl
  | cons y ys ih =>
    obtain ⟨report, got⟩ := Option.isSome_iff_exists.1 (inHand y List.mem_cons_self)
    show (match y.got with | some _ => _ | none => _) = _
    rw [got]
    exact congrArg (y :: ·) (ih fun z mem => inHand z (List.mem_cons_of_mem y mem))

theorem inHand_filled {done rest : List ReadSlot} {x : ReadSlot} {report : JournalReport}
    (hand : ∀ y ∈ done, y.got.isSome = true) :
    inHand (done ++ { x with got := some report } :: rest) = true ↔ ∀ y ∈ rest, y.got.isSome = true := by
  simp only [inHand, List.all_eq_true, List.forall_mem_append, List.forall_mem_cons]
  exact ⟨fun ⟨_, _, h⟩ => h, fun h => ⟨hand, rfl, h⟩⟩

theorem reportsOf_filled (done rest : List ReadSlot) (x : ReadSlot) (report : JournalReport) :
    reportsOf (done ++ { x with got := some report } :: rest)
      = (done.filterMap fun y => y.got) ++ report :: rest.filterMap fun y => y.got := by
  simp [reportsOf]

theorem StoreEngine.awaitsPort_iff {e : StoreEngine} : e.awaitsPort = true ↔
    (e.state = .idle ∧ e.current ≠ none) ∨ (e.state = .fault ∧ ∃ c, e.current = some c ∧ c.attempt = 1) := by
  unfold StoreEngine.awaitsPort
  cases e.current <;> simp

/-- JOURNAL_READ_DONE with a group being served, its slots filled. -/
theorem execJournalReadDone_cons {s : State} {record : List Byte} {g filled : ReadGroup} {gs : List ReadGroup}
    (serving : s.store.serving = g :: gs) (fill : { g with slots := fillSlots record g.slots } = filled) :
    execJournalReadDone record s = .next (if inHand filled.slots then (s.setStore (s.store.readsLeft gs)).answerReads filled
      else s.setStore { s.store with serving := filled :: gs }) := by
  subst fill
  unfold execJournalReadDone
  rw [serving]

/-- A group whose port has not been reset is answered on that port, and its marker cleared. -/
theorem State.answerReads_kept {s : State} {g : ReadGroup} (kept : g.discard = false) : s.answerReads g = { s with
    ports := s.ports.set g.station
      { (s.port g.station).form ⟨g.code, g.tag, .ok, g.clamped, .journal (reportsOf g.slots)⟩ with marker := none } } := by
  unfold State.answerReads
  rw [if_neg (Bool.eq_false_iff.1 kept)]
  show ({ s with
    ports := (s.ports.set g.station _).set g.station
      ({ (s.ports.set g.station ((s.port g.station).form _)).get g.station with marker := none } : Port) } : State) = _
  rw [PerStation.set_set, PerStation.get_set, if_pos rfl]

/-- Settles O17: the reads taken, those of a recent ticket, and the completions, the slots before the first one not in hand
staying as they are. -/
theorem journalReadsAnswer : Obligations.JournalReadsAnswer := by
  refine ⟨⟨fun s r q count h => ⟨fun out => ?_, fun low high => ?_⟩, fun s r n p h given absent recent => ⟨?_, ?_⟩⟩,
    fun s record g gs done x rest serving slots hand missing report reported => ?_, fun s record none => ?_⟩
  · exact execReadJournal_notFound count h (Bool.eq_false_iff.2 (mt State.readable_iff.1 out))
  · have readable := State.readable_iff.2 ⟨low, high⟩
    exact ⟨fun es length queued => execReadJournal_inHand h readable length queued, fun missing =>
      ⟨_, rfl, rfl, rfl, rfl, rfl, List.map_map .., execReadJournal_deferred h readable missing⟩⟩
  · intro e queued
    show execReadTicket r n s = _
    rw [execReadTicket_eq]
    refine congrArg _ (State.takeRequest_answered h.1 ?_)
    rw [readTicket_recent h given absent recent]
    exact readJournalEntries_inHand (s := s.heard r.station) (es := [e]) r _ _ (congrArg (fun x => [x]) queued)
  · intro unqueued
    show execReadTicket r n s = _
    rw [execReadTicket_eq]
    refine congrArg _ ((State.takeRequest_deferred (e := s.store.takeReads {
      station := r.station, code := 0x39, tag := r.tag, clamped := false, slots := [{ seq := p.seq, got := none }],
      discard := false }) h.1 ?_).trans rfl)
    rw [readTicket_recent h given absent recent]
    refine (readJournalEntries_deferred (s := s.heard r.station) r _ _ ⟨p.seq, List.mem_cons_self, unqueued⟩).trans ?_
    have slot : (s.heard r.station).store.readSlot p.seq = { seq := p.seq, got := none } := by
      show ({ seq := p.seq, got := (s.store.queuedEntry? p.seq).map _ } : ReadSlot) = _
      rw [unqueued]
      rfl
    rw [List.map_singleton, slot]
    rfl
  · have report_eq : report = journalReport x.seq record := reported
    have fill : ({ g with slots := fillSlots record g.slots } : ReadGroup)
        = { g with slots := done ++ { x with got := some report } :: rest } := by
      rw [slots, fillSlots_append record rest hand missing, report_eq]
    have completes := execJournalReadDone_cons serving fill
    have all := inHand_filled (rest := rest) (x := x) (report := report) hand
    have left : s.store.readsLeft gs = { s.store with
        serving := gs
        state := if gs = [] ∧ ((s.store.state = .idle ∧ s.store.current ≠ none)
          ∨ (s.store.state = .fault ∧ ∃ c, s.store.current = some c ∧ c.attempt = 1)) then .writing
          else s.store.state } := by
      rw [StoreEngine.readsLeft_eq]
      exact congrArg (fun x => ({ s.store with serving := gs, state := x } : StoreEngine))
        (ite_of_iff ((and_congr_left' StoreEngine.awaitsPort_iff).trans and_comm) rfl rfl)
    refine ⟨fun ⟨y, mem, more⟩ => ?_, fun done discard => ?_, fun done kept => ?_⟩
    · refine completes.trans (congrArg _ (if_neg fun h => ?_))
      have := all.1 h y mem
      rw [more] at this
      exact Bool.noConfusion this
    · refine completes.trans (congrArg _ ((if_pos (all.2 done)).trans ?_))
      rw [left]
      exact if_pos discard
    · refine completes.trans (congrArg _ ((if_pos (all.2 done)).trans ?_))
      rw [left, ← reportsOf_filled _ rest x report]
      exact State.answerReads_kept (g := { g with slots := _ }) kept
  · show execJournalReadDone record s = _
    unfold execJournalReadDone
    rw [none]

end Sys2Proof.Machine
end

section
/-! The notice dispatcher and the condition monitor (10): how a notice joins a queue, FETCH_NOTICE, NOTICE_DONE,
SET_NOTICE_MASK, CLEAR_CONDITION and SET_CONDITION_ENABLE. -/

namespace Sys2Proof.Machine

/-! ### A request whose station has CONTROL -/

section Controlled

variable {s t : State} {r : Req} {code : Byte} {scope : Scope} {cls : Cls} {k : Handler}

/-- A request that passes its decision and its attendance comes to its block. -/
theorem needControl_controls (h : s.Controls r scope cls) :
    needControl r.station scope cls k (s.heard r.station) = k (s.heard r.station) :=
  needControl_passes (s := s.heard r.station) _ _ _ _ h.2.1 h.2.2

theorem State.takeRequest_controlled (h : s.Controls r scope cls) {result : Result} {clamped : Bool} {body : RespBody}
    (hk : k (s.heard r.station) = (t, .reply result clamped body)) (hp : t.ports = (s.heard r.station).ports) :
    s.takeRequest r code false (needControl r.station scope cls k) =
      { t with ports := s.reply r code result clamped body } :=
  s.takeRequest_replied r code false _ h.1 ((needControl_controls h).trans hk) hp

theorem State.takeRequest_controlRefused (h : s.Controls r scope cls) {result : Result}
    (hk : k (s.heard r.station) = (s.heard r.station, .plain result)) :
    s.takeRequest r code false (needControl r.station scope cls k) = s.refusedWith r code result :=
  State.takeRequest_controlled (t := s.heard r.station) h hk rfl

/-- No attendance stands in the way of a YARD class request. -/
theorem State.controls_yard (h : s.Takes r) (control : s.decision r.station .yard .yard = .control) :
    s.Controls r .yard .yard := ⟨h, control, fun cls => by simp at cls⟩

end Controlled

/-! ### The extreme levels of a queue -/

theorem lowestPriority_eq {q : List Notice} {m : Notice} (mem : m ∈ q) (bound : ∀ x ∈ q, x.level ≤ m.level) :
    lowestPriority q = m.level :=
  Nat.le_antisymm ((lowestPriority_le_iff q _).2 bound) ((lowestPriority_le_iff q _).1 (Nat.le_refl _) m mem)

theorem le_mostUrgent_iff (q : List Notice) (v : Nat) : v ≤ mostUrgent q ↔ v ≤ 7 ∧ ∀ n ∈ q, v ≤ n.level := by
  have general : ∀ start, v ≤ q.foldl (fun m n => min m n.level) start ↔ v ≤ start ∧ ∀ n ∈ q, v ≤ n.level := by
    induction q with
    | nil => simp
    | cons first others ih => simp [ih, Nat.le_min, and_assoc]
  exact general 7

theorem mostUrgent_eq {q : List Notice} {m : Notice} (mem : m ∈ q) (bound : ∀ x ∈ q, m.level ≤ x.level)
    (level : m.level ≤ 7) : mostUrgent q = m.level :=
  Nat.le_antisymm (((le_mostUrgent_iff q _).1 (Nat.le_refl _)).2 m mem) ((le_mostUrgent_iff q _).2 ⟨level, bound⟩)

/-! ### Joining a queue (R176, R177) -/

/-- The element that stands behind others that fail a predicate is the one erased. -/
theorem eraseP_append_cons {α : Type} {p : α → Bool} {before : List α} {x : α} (after : List α)
    (others : ∀ y ∈ before, p y = false) (here : p x = true) : (before ++ x :: after).eraseP p = before ++ after := by
  rw [List.eraseP_append_right _ fun y mem => Bool.eq_false_iff.1 (others y mem), List.eraseP_cons_of_pos here]

/-- Settles O22: the lowest priority present is the level of the oldest notice that nothing exceeds. -/
theorem noticesJoinTheQueues : Obligations.NoticesJoinTheQueues := by
  refine ⟨fun q n => ⟨fun room => if_pos room, fun before after m full queue first last urgent => ?_, fun full none => ?_⟩,
    fun s kind l d ticket detail values => ⟨State.raiseNotice_eq rfl rfl rfl rfl .., fun st => PerStation.get_ofFn ..⟩⟩
  · have lowest : lowestPriority q.queue = m.level := by
      refine lowestPriority_eq (queue ▸ List.mem_append_right _ List.mem_cons_self) fun x mem => ?_
      rw [queue] at mem
      obtain mem | mem := List.mem_append.1 mem
      · exact Nat.le_of_lt (first x mem)
      · obtain rfl | mem := List.mem_cons.1 mem
        · exact Nat.le_refl _
        · exact last x mem
    unfold NoticeState.join
    rw [if_neg (Nat.not_lt.2 full), if_pos (lowest ▸ urgent), lowest, queue,
      eraseP_append_cons after (fun y mem => decide_eq_false (Nat.ne_of_lt (first y mem))) (decide_eq_true rfl)]
  · unfold NoticeState.join
    rw [if_neg (Nat.not_lt.2 full), if_neg (Nat.not_lt.2 ((lowestPriority_le_iff q.queue _).2 none))]

/-! ### FETCH_NOTICE, NOTICE_DONE and SET_NOTICE_MASK (R178 to R180) -/

/-- A request on a station's own notices, answered at once. -/
theorem State.takeRequest_notices {s : State} {r : Req} {code : Byte} {handler : Handler} (h : s.Takes r)
    {n : NoticeState} {body : RespBody}
    (hk : handler (s.heard r.station) = ((s.heard r.station).setNotices r.station n, .okBody body)) :
    s.takeRequest r code false handler =
      { s with notices := s.notices.set r.station n, ports := s.reply r code .ok false body } :=
  s.takeRequest_replied r code false handler h hk rfl

theorem NoticeState.next?_eq {q : NoticeState} {before after : List Notice} {n : Notice}
    (queue : q.queue = before ++ n :: after) (first : ∀ x ∈ before, n.level < x.level)
    (last : ∀ x ∈ after, n.level ≤ x.level) (level : n.level ≤ 7) :
    q.next? = some n ∧ (q.fetched n).queue = before ++ after := by
  have urgent : mostUrgent q.queue = n.level := by
    refine mostUrgent_eq (queue ▸ List.mem_append_right _ List.mem_cons_self) (fun x mem => ?_) level
    rw [queue] at mem
    obtain mem | mem := List.mem_append.1 mem
    · exact Nat.le_of_lt (first x mem)
    · obtain rfl | mem := List.mem_cons.1 mem
      · exact Nat.le_refl _
      · exact last x mem
  have others : ∀ y ∈ before, decide (y.level = n.level) = false := fun y mem =>
    decide_eq_false (Nat.ne_of_gt (first y mem))
  constructor
  · unfold NoticeState.next?
    rw [urgent, queue, List.find?_append, List.find?_eq_none.2 fun y mem => Bool.eq_false_iff.1 (others y mem)]
    simp
  · show q.queue.eraseP (fun x => decide (x.level = mostUrgent q.queue)) = _
    rw [urgent, queue, eraseP_append_cons after others (decide_eq_true rfl)]

theorem NoticeState.next?_eq_none {q : NoticeState} (queue : q.queue = []) : q.next? = none := by
  unfold NoticeState.next?
  rw [queue]
  rfl

/-- A set of levels is in ascending order, so its least member stands first, once. -/
theorem isLevelSet_least {set : List Nat} {v : Nat} (h : isLevelSet set = true) (mem : v ∈ set) (least : ∀ x ∈ set, v ≤ x) :
    set = v :: set.filter fun x => decide (x ≠ v) := by
  have ascending : set.Pairwise (· < ·) := .sublist (isLevelSet_iff.1 h) (by decide)
  cases set with
  | nil => cases mem
  | cons x rest =>
    obtain ⟨above, _⟩ := List.pairwise_cons.1 ascending
    have same : v = x := by
      obtain eq | later := List.mem_cons.1 mem
      · exact eq
      · have := above v later
        have := least x List.mem_cons_self
        omega
    subst same
    rw [List.filter_cons_of_neg (by simp), List.filter_eq_self.2 fun x later =>
      decide_eq_true (Nat.ne_of_gt (above x later))]

/-- Settles O21: the fetch takes the first notice of the smallest level number, and the set in progress is ascending. -/
theorem noticesAreFetchedAndDone : Obligations.NoticesAreFetchedAndDone := by
  refine ⟨fun s r h => ⟨fun queue => ?_, fun before after n queue first last level => ?_, fun levels => ⟨fun bad => ?_,
    fun ok => ?_⟩⟩, fun s r h => ⟨fun none => ?_, fun v bounded mem least => ?_⟩⟩
  · refine congrArg _ (State.takeRequest_refused h ?_)
    show (match (s.notices.get r.station).next? with | none => _ | some q => _) = _
    rw [NoticeState.next?_eq_none queue]
  · obtain ⟨next, rest⟩ := NoticeState.next?_eq queue first last level
    refine congrArg _ ((State.takeRequest_notices (n := (s.notices.get r.station).fetched n)
      (body := .notice n (s.notices.get r.station).overrun) h ?_).trans ?_)
    · show (match (s.notices.get r.station).next? with | none => _ | some q => _) = _
      rw [next]
      rfl
    · have set : ((s.notices.get r.station).fetched n).inProgress
          = [1, 2, 3, 4, 5, 6, 7].filter fun v => decide (v ∈ (s.notices.get r.station).inProgress ∨ v = n.level) :=
        List.filter_congr fun v _ => by simp
      rw [← rest, ← set]
      rfl
  · obtain ⟨v, mem, out⟩ := bad
    have out : (levels.all fun v => within 1 7 v.toNat) = false :=
      List.all_eq_false.2 ⟨v, mem, Bool.eq_false_iff.1 (within_eq_false out)⟩
    show execSetNoticeMask r levels s = _
    unfold execSetNoticeMask
    rw [out, inRange_false, State.takeRequest_outOfRange h]
  · have ok : (levels.all fun v => within 1 7 v.toNat) = true :=
      List.all_eq_true.2 fun v mem => within_eq_true (ok v mem).1 (ok v mem).2
    show execSetNoticeMask r levels s = _
    unfold execSetNoticeMask
    rw [ok, inRange_true]
    exact congrArg _ (State.takeRequest_notices h rfl)
  · refine congrArg _ (State.takeRequest_refused h ?_)
    show (match (s.notices.get r.station).inProgress with | [] => _ | v :: rest => _) = _
    rw [none]
  · have set := isLevelSet_least (NoticeState.bounded_iff.1 bounded).2.1 mem least
    refine ⟨_, ?_, rfl, ?_⟩
    · refine congrArg _ (State.takeRequest_notices (body := .level v) h ?_)
      show (match (s.notices.get r.station).inProgress with | [] => _ | v :: rest => _) = _
      rw [set]
      exact congrArg (fun x : List Nat => (State.setNotices _ _ { s.notices.get r.station with inProgress := x }, _))
        (by simp)
    · unfold State.attention NoticeState.calls
      rw [PerStation.get_set, if_pos rfl, decide_eq_true (show s.phase = .ready from h.2.1), Bool.true_and]
      refine congrArg (List.any _) (funext fun q => congrArg (!(s.notices.get r.station).mask.contains q.level && ·) ?_)
      rw [List.all_filter]
      exact List.all_congr rfl fun x => by by_cases x = v <;> simp [*]

/-! ### CLEAR_CONDITION and SET_CONDITION_ENABLE (R182, R184, R185) -/

/-- A condition that was not active becomes active, and its latch is set. -/
theorem State.activate_inactive {s : State} {k : Condition} (inactive : (s.condition k).active = false) :
    s.activate k = { s with conditions := s.conditions.set k { s.condition k with active := true, latched := true } } := by
  unfold State.activate
  rw [inactive, Bool.not_false, Bool.or_true]
  rfl

theorem State.activateWith_inactive {s : State} {k : Condition} (f : State → State)
    (inactive : (s.condition k).active = false) : s.activateWith k f =
      let t : State := { s with conditions := s.conditions.set k { s.condition k with active := true, latched := true } }
      if (s.condition k).enable then f t else t := by
  unfold State.activateWith
  rw [if_neg (Bool.eq_false_iff.1 inactive), State.activate_inactive inactive]

/-- Settles O23: what the two requests of a condition do, and the activation of a condition that was not active. -/
theorem conditionsAreHeld : Obligations.ConditionsAreHeld := by
  refine ⟨fun s r b h => ⟨fun out => ?_, fun e out => ?_, fun k named control => ⟨fun active => ?_, fun inactive => ?_,
    fun e noticed low => ?_⟩⟩, fun s k f => ⟨fun active => if_pos active, fun inactive => ?_⟩⟩
  · have unnamed : Condition.ofNat? b.toNat = none := by
      rw [← Option.not_isSome_iff_eq_none, ← Condition.lt_ten, decide_eq_true_eq]
      omega
    show execClearCondition r b s = _
    unfold execClearCondition
    rw [unnamed, State.takeRequest_outOfRange h]
  · show execSetConditionEnable r b e s = _
    unfold execSetConditionEnable
    cases named : Condition.ofNat? b.toNat with
    | none => exact congrArg _ (State.takeRequest_outOfRange h)
    | some k =>
      cases option : enableOfNat? e.toNat with
      | none => exact congrArg _ (State.takeRequest_outOfRange h)
      | some v =>
        have ten := Condition.lt_ten b.toNat
        have two := enableOfNat?_isSome e.toNat
        have silent := Condition.noticed b.toNat
        rw [named, Option.isSome_some, decide_eq_true_eq] at ten
        rw [option, Option.isSome_some, decide_eq_true_eq] at two
        rw [named, Option.any_some, decide_eq_false (by simp; omega)] at silent
        simp only
        rw [← silent, inRange_false, State.takeRequest_outOfRange h]
  · show execClearCondition r b s = _
    unfold execClearCondition
    rw [named]
    exact congrArg _ (State.takeRequest_controlRefused (State.controls_yard h control) (if_pos active))
  · show execClearCondition r b s = _
    unfold execClearCondition
    rw [named, show ({ active := false, latched := false, enable := (s.condition k).enable } : CondState)
      = { s.condition k with latched := false } by rw [← inactive]]
    exact congrArg _ (State.takeRequest_controlled
      (t := (s.heard r.station).setCondition k { s.condition k with latched := false }) (State.controls_yard h control)
      (if_neg (Bool.eq_false_iff.1 inactive)) rfl)
  · have noticed := Condition.noticed b.toNat ▸ decide_eq_true noticed
    rw [named, Option.any_some] at noticed
    have option : enableOfNat? e.toNat = some (decide (e.toNat = 1)) := by
      match e.toNat, low with
      | 0, _ | 1, _ => rfl
    show execSetConditionEnable r b e s = _
    unfold execSetConditionEnable
    rw [named, option]
    simp only
    rw [noticed, inRange_true]
    exact congrArg _ (State.takeRequest_controlled
      (t := (s.heard r.station).setCondition k { s.condition k with enable := decide (e.toNat = 1) })
      (State.controls_yard h control) rfl rfl)
  · exact State.activateWith_inactive f inactive

end Sys2Proof.Machine
end

section
/-! The configuration groups written (R192), the clock and the day roll (R139 to R142), and the attendances that a write of
windows or a port reset ends (R167, R171, R190). -/

namespace Sys2Proof.Machine

/-! ### The end of a station's attendances (R171) -/

/-- `t` with the attendance of a lane ended where `ends` says so. -/
def endAttendanceIf (ends : Lane → Prop) [DecidablePred ends] (t : State) (l : Lane) : State :=
  if ends l then t.endAttendance l else t

section Attendances

variable {u : State} {st : Station} {which : State → Lane → Bool} {ends : Lane → Prop} [DecidablePred ends]

theorem Keeps.endAttendance_rest (t : State) (l : Lane) :
    (t.endAttendance l).settings = t.settings ∧ (t.endAttendance l).clock = t.clock ∧ (t.endAttendance l).ports = t.ports
      ∧ (t.endAttendance l).attending = t.attending.set l none := by
  have keeps : Keeps { t with attending := t.attending.set l none } (t.endAttendance l) := .autoCapture _ l
  exact ⟨keeps.settings, keeps.clock, keeps.ports, keeps.attending⟩

/-- Whose attendance ends can be told before any of them does: an attendance that ends leaves the settings and the other
attendances alone. -/
theorem State.endAttendances_eq
    (same : ∀ t l, t.settings = u.settings → (u.attending.get l = some st ∧ which t l = true ↔ ends l)) :
    u.endAttendances st which = Lane.all.foldl (endAttendanceIf ends) u := by
  have general : ∀ (ls : List Lane) (t : State), ls.Nodup → t.settings = u.settings →
      (∀ l ∈ ls, t.attending.get l = u.attending.get l) →
      ls.foldl (fun t l => if t.attending.get l = some st ∧ which t l = true then t.endAttendance l else t) t
        = ls.foldl (endAttendanceIf ends) t := by
    intro ls
    induction ls with
    | nil => intro t _ _ _; rfl
    | cons l ls ih =>
      intro t nodup settings attending
      obtain ⟨fresh, nodup⟩ := List.nodup_cons.1 nodup
      have cond : t.attending.get l = some st ∧ which t l = true ↔ ends l := by
        rw [attending l List.mem_cons_self]
        exact same t l settings
      have step : (if t.attending.get l = some st ∧ which t l = true then t.endAttendance l else t) = endAttendanceIf ends t l :=
        ite_of_iff cond rfl rfl
      rw [List.foldl_cons, List.foldl_cons, step]
      have rest (m : Lane) (mem : m ∈ ls) : (endAttendanceIf ends t l).attending.get m = u.attending.get m := by
        unfold endAttendanceIf
        split
        · have other : m ≠ l := fun eq => fresh (eq ▸ mem)
          rw [(Keeps.endAttendance_rest t l).2.2.2, PerLane.get_set, if_neg other]
          exact attending m (List.mem_cons_of_mem l mem)
        · exact attending m (List.mem_cons_of_mem l mem)
      refine ih _ nodup ?_ rest
      unfold endAttendanceIf
      split
      · exact (Keeps.endAttendance_rest t l).1.trans settings
      · exact settings
  exact general Lane.all u (by decide) rfl fun _ _ => rfl

/-- What the ends of attendances leave of the lanes' attendances, whatever the lanes do then. -/
theorem State.foldl_endAttendanceIf_rest (u : State) :
    let t := Lane.all.foldl (endAttendanceIf ends) u
    t.settings = u.settings ∧ t.clock = u.clock ∧ t.ports = u.ports
      ∧ ∀ l, t.attending.get l = if ends l then none else u.attending.get l := by
  have step (t : State) (l : Lane) : (endAttendanceIf ends t l).settings = t.settings
      ∧ (endAttendanceIf ends t l).clock = t.clock ∧ (endAttendanceIf ends t l).ports = t.ports
      ∧ ∀ m, (endAttendanceIf ends t l).attending.get m = if ends l ∧ m = l then none else t.attending.get m := by
    obtain ⟨settings, clock, ports, attending⟩ := Keeps.endAttendance_rest t l
    unfold endAttendanceIf
    split
    next ended => exact ⟨settings, clock, ports, fun m => by rw [attending, PerLane.get_set]; simp [ended]⟩
    next stays => exact ⟨rfl, rfl, rfl, fun m => by simp [stays]⟩
  simp only [Lane.all, List.foldl_cons, List.foldl_nil]
  refine ⟨by simp only [(step _ _).1], by simp only [(step _ _).2.1], by simp only [(step _ _).2.2.1], fun l => ?_⟩
  simp only [(step _ _).2.2.2]
  cases l <;> simp

/-- Where no lane whose attendance ends waits in ON_DECK, auto-capture is not due and nothing but the attendances changes. -/
theorem State.foldl_endAttendanceIf_idle (idle : ∀ l, ends l → (u.lane l).state ≠ .onDeck) :
    Lane.all.foldl (endAttendanceIf ends) u =
      { u with attending := PerLane.ofFn fun l => if ends l then none else u.attending.get l } := by
  have general (ls : List Lane) : ∀ a : PerLane (Option Station),
      ls.foldl (endAttendanceIf ends) { u with attending := a }
        = { u with attending := ls.foldl (fun a l => if ends l then a.set l none else a) a } := by
    induction ls with
    | nil => intro a; rfl
    | cons l ls ih =>
      intro a
      have step : endAttendanceIf ends { u with attending := a } l
          = { u with attending := if ends l then a.set l none else a } := by
        unfold endAttendanceIf
        by_cases ended : ends l
        · rw [if_pos ended, if_pos ended]
          have due : ({ u with attending := a.set l none } : State).autoDue l = false := by
            show (decide ((u.lane l).state = .onDeck) && _ && _ && _ && _) = false
            rw [decide_eq_false (idle l ended)]
            rfl
          exact if_neg (Bool.eq_false_iff.1 due)
        · rw [if_neg ended, if_neg ended]
      rw [List.foldl_cons, List.foldl_cons, step, ih]
  refine (general Lane.all u.attending).trans (congrArg (fun a => ({ u with attending := a } : State)) ?_)
  simp only [Lane.all, List.foldl_cons, List.foldl_nil, PerLane.ofFn, PerLane.get]
  repeat' split
  all_goals rfl

end Attendances

/-! ### A port reset (R190) -/

/-- `s` with a port broken, its station's notice state reset and its reads to be discarded. -/
def State.broken (s : State) (st : Station) : State := { s with
  ports := s.ports.set st { rx := [], marker := none, sending := (s.port st).sending, waiting := [] }
  notices := s.notices.set st { queue := [], inProgress := [], mask := [], overrun := false }
  store := { s.store with
    serving := s.store.serving.map fun g => { g with discard := g.discard || decide (g.station = st) }
    waiting := s.store.waiting.map fun g => { g with discard := g.discard || decide (g.station = st) } } }

theorem execPortReset_eq (st : Station) (s : State) : execPortReset st s =
    .next (Lane.all.foldl (endAttendanceIf fun l => s.attending.get l = some st) (s.broken st)) :=
  congrArg Host.Outcome.next (State.endAttendances_eq (u := s.broken st) fun _ _ _ => and_iff_left rfl)

/-- Settles O11: the port, the notices and the reads first, then the attendances, L0 first. -/
theorem portResetClearsThePort : Obligations.PortResetClearsThePort := by
  intro s st
  refine ⟨?_, execPortReset_eq st s, fun idle => ?_⟩
  · obtain ⟨settings, clock, ports, attending⟩ :=
      (s.broken st).foldl_endAttendanceIf_rest (ends := fun l => s.attending.get l = some st)
    refine ⟨_, execPortReset_eq st s, ports, fun l => ?_, settings, clock⟩
    rw [attending]
    split
    next => exact nofun
    next other => exact other
  · refine (execPortReset_eq st s).trans (congrArg _ ((State.foldl_endAttendanceIf_idle (u := s.broken st) idle).trans ?_))
    rfl

/-- OK answered by a block that has left the ports alone. -/
theorem State.acked_eq {s t : State} {r : Req} {code : Byte} (ports : t.ports = (s.heard r.station).ports) :
    t.acked r code = { t with ports := s.reply r code .ok false .none } := by
  have answer := congrArg State.ports (s.heard_respond ⟨code, r.tag, .ok, false, .none⟩ r.station)
  show ({ t with ports := t.ports.set r.station ((t.ports.get r.station).form _) } : State) = _
  rw [ports]
  exact congrArg (fun p => ({ t with ports := p } : State)) answer

/-! ### A group written (R192) -/

section Written

variable {s : State} {r : Req} {scope : Scope} {cls : Cls} {k : Handler}

/-- A write whose block finds no free slot. -/
theorem State.takeRequest_storeBusy {code : Byte} (h : s.Controls r scope cls) (full : s.slotFree = false) :
    s.takeRequest r code false (needControl r.station scope cls (needSlot k)) = s.refusedWith r code .storeBusy :=
  State.takeRequest_controlRefused h (needSlot_refused (s := s.heard r.station) k full)

/-- A write whose block finds a free slot and makes `t` of the state. -/
theorem State.takeRequest_slot {code : Byte} (h : s.Controls r scope cls) (free : s.slotFree = true) {t : State}
    {clamped : Bool} (hk : k (s.heard r.station) = (t, .reply .ok clamped .none)) (hp : t.ports = (s.heard r.station).ports) :
    s.takeRequest r code false (needControl r.station scope cls (needSlot k)) =
      { t with ports := s.reply r code .ok clamped .none } :=
  State.takeRequest_controlled h ((needSlot_passes (s := s.heard r.station) k free).trans hk) hp

/-- A write that replaces the working configuration. -/
theorem State.takeRequest_wrote (h : s.Controls r scope cls) (free : s.slotFree = true) {c : Settings} {clamped : Bool}
    (hk : k (s.heard r.station) = ((s.heard r.station).writeSettings c, .reply .ok clamped .none)) :
    s.takeRequest r 0x03 false (needControl r.station scope cls (needSlot k)) = s.wrote r c clamped :=
  State.takeRequest_slot h free hk rfl

end Written

theorem clampNat_eq {lo hi : Nat} (h : lo ≤ hi) (v : Nat) : clampNat lo hi v = max lo (min hi v) := by
  unfold clampNat
  split
  · omega
  · split <;> omega

theorem LaneSettings.clamp_eq (c : LaneSettings) : c.clamp = { c with
    debounce := max 20 (min 500 c.debounce)
    travel := max 1 (min 15 c.travel)
    clear := min 5 c.clear
    dwell := {
      admitting := max 1 (min 3600 c.dwell.admitting)
      entering := max 1 (min 600 c.dwell.entering)
      positioning := max 1 (min 600 c.dwell.positioning)
      onDeck := max 1 (min 3600 c.dwell.onDeck)
      weighing := max 1 (min 30 c.dwell.weighing)
      leaving := max 1 (min 600 c.dwell.leaving)
      retreating := max 1 (min 600 c.dwell.retreating)
      clearing := max 1 (min 600 c.dwell.clearing) } } := by
  simp [LaneSettings.clamp, clampNat_eq]

/-! ### CONFIG_WRITE of the yard's groups -/

theorem configWriteNoticeLevels_eq {s : State} {r : Req} (h : s.Controls r .yard .yard) {levels : List Byte}
    (length : levels.length = 24) :
    let given := levels.map fun v => v.toNat
    let stored := given.map fun v => max 1 (min 7 v)
    (s.slotFree = false → execConfigWriteNoticeLevels r levels s = .next (s.refusedWith r 0x03 .storeBusy))
      ∧ (s.slotFree = true → execConfigWriteNoticeLevels r levels s =
          .next (s.wrote r { s.settings with levels := stored } (decide (stored ≠ given)))) := by
  have clamp : clampLevel = fun v => max 1 (min 7 v) := funext fun v => clampNat_eq (by decide) v
  unfold execConfigWriteNoticeLevels
  rw [decide_eq_true length, inRange_true, clamp]
  exact ⟨fun full => congrArg _ (State.takeRequest_storeBusy h full),
    fun free => congrArg _ (State.takeRequest_wrote h free rfl)⟩

theorem configWriteVerifyOption_eq {s : State} {r : Req} (h : s.Controls r .yard .yard) (v : Byte) :
    (2 ≤ v.toNat → execConfigWriteVerifyOption r v s = .next (s.refusedWith r 0x03 .range))
      ∧ (v.toNat < 2 → s.slotFree = false →
          execConfigWriteVerifyOption r v s = .next (s.refusedWith r 0x03 .storeBusy))
      ∧ (v.toNat < 2 → s.slotFree = true → execConfigWriteVerifyOption r v s =
          .next (s.wrote r { s.settings with verify := decide (v.toNat = 1) } false)) := by
  have out (n : Nat) (high : 2 ≤ n) : flagOfNat? n = none := by
    match n, high with
    | _ + 2, _ => rfl
  have set (n : Nat) (low : n < 2) : flagOfNat? n = some (decide (n = 1)) := by
    match n, low with
    | 0, _ | 1, _ => rfl
  unfold execConfigWriteVerifyOption
  refine ⟨fun high => ?_, fun low full => ?_, fun low free => ?_⟩
  · rw [out _ high, State.takeRequest_outOfRange h.1]
  · rw [set _ low]
    exact congrArg _ (State.takeRequest_storeBusy h full)
  · rw [set _ low]
    exact congrArg _ (State.takeRequest_wrote h free rfl)

theorem configWriteSampleTimeout_eq {s : State} {r : Req} (h : s.Controls r .yard .yard) (d0 d1 : BitVec 16) :
    let stored := fun (v : BitVec 16) => max 20 (min 2000 v.toNat)
    (s.slotFree = false → execConfigWriteSampleTimeout r d0 d1 s = .next (s.refusedWith r 0x03 .storeBusy))
      ∧ (s.slotFree = true → execConfigWriteSampleTimeout r d0 d1 s =
          .next (s.wrote r { s.settings with sampleTimeout := { d0 := stored d0, d1 := stored d1 } }
            (decide (stored d0 ≠ d0.toNat ∨ stored d1 ≠ d1.toNat)))) := by
  have clamp (v : Nat) : clampTimeout v = max 20 (min 2000 v) := clampNat_eq (by decide) v
  unfold execConfigWriteSampleTimeout
  simp only [clamp, ← Bool.decide_or]
  exact ⟨fun full => congrArg _ (State.takeRequest_storeBusy h full),
    fun free => congrArg _ (State.takeRequest_wrote h free rfl)⟩

/-- The flags of a write of the caps, code by code. -/
theorem clearedFlags_getElem? {old new : List Nat} {flags : List Bool} (given : flags.length = 32) (before : old.length = 32)
    (after : new.length = 32) : (clearedFlags old new flags).length = 32
      ∧ ∀ i < 32, (clearedFlags old new flags)[i]? = flags[i]?.map fun f => f && decide (old[i]? = new[i]?) := by
  refine ⟨by simp [clearedFlags, given, before, after], fun i inside => ?_⟩
  simp [clearedFlags, given, before, after, inside]

theorem configWriteWasteCaps_eq {s : State} {r : Req} (h : s.Controls r .yard .yard) {caps : List (BitVec 32)}
    (length : caps.length = 32) :
    let values := caps.map fun v => v.toNat
    (s.slotFree = false → execConfigWriteWasteCaps r caps s = .next (s.refusedWith r 0x03 .storeBusy))
      ∧ (s.slotFree = true → s.settings.caps.length = 32 → s.tickets.capNotice.length = 32 →
          ∃ flags : List Bool, flags.length = 32
            ∧ (∀ i < 32, flags[i]? = s.tickets.capNotice[i]?.map fun f => f && decide (s.settings.caps[i]? = values[i]?))
            ∧ execConfigWriteWasteCaps r caps s =
              .next { s.wrote r { s.settings with caps := values } false with
                tickets := { s.tickets with capNotice := flags } }) := by
  unfold execConfigWriteWasteCaps
  rw [decide_eq_true length, inRange_true]
  refine ⟨fun full => congrArg _ (State.takeRequest_storeBusy h full), fun free before flags => ?_⟩
  obtain ⟨number, each⟩ := clearedFlags_getElem? (new := caps.map fun v => v.toNat) flags before (by simp [length])
  exact ⟨_, number, each, congrArg _ (State.takeRequest_slot
    (t := (s.heard r.station).writeCaps (caps.map fun v => v.toNat)) h free rfl rfl)⟩

/-! ### CONFIG_WRITE of a lane's group and of a station's windows -/

theorem configWriteLane_eq {s : State} {r : Req} {l : Lane} {g : LaneGroup} {c : LaneSettings}
    (read : laneSettingsOf? g = some c) (h : s.Controls r (.lane l) .lane) :
    ((s.lane l).state ≠ .closed → execConfigWriteLane r l g s = .next (s.refusedWith r 0x03 .wrongState))
      ∧ ((s.lane l).state = .closed → s.slotFree = false →
          execConfigWriteLane r l g s = .next (s.refusedWith r 0x03 .storeBusy))
      ∧ ((s.lane l).state = .closed → s.slotFree = true →
          execConfigWriteLane r l g s = .next (s.wrote r
            { s.settings with
              lanes := s.settings.lanes.set l { c.clamp with openAtStart := (s.laneSettings l).openAtStart } }
            (decide (c.clamp ≠ c)))) := by
  unfold execConfigWriteLane
  rw [read]
  refine ⟨fun used => ?_, fun closed full => ?_, fun closed free => ?_⟩
  · exact congrArg _ (State.takeRequest_controlRefused h (if_pos used))
  · exact congrArg _ (State.takeRequest_controlRefused h ((if_neg (not_not_intro closed)).trans
      (needSlot_refused (s := s.heard r.station) _ full)))
  · exact congrArg _ (State.takeRequest_controlled (t := (s.heard r.station).writeLane l c) h
      ((if_neg (not_not_intro closed)).trans (needSlot_passes (s := s.heard r.station) _ free)) rfl)

theorem someYardControl_iff {ws : PerStation (List Window)} :
    someYardControl ws = true ↔ ∃ a, windowAccess (ws.get a) .yard .yard = .control := by
  unfold someYardControl
  rw [List.any_eq_true]
  refine ⟨fun ⟨a, _, control⟩ => ⟨a, of_decide_eq_true control⟩, fun ⟨a, control⟩ => ⟨a, ?_, decide_eq_true control⟩⟩
  cases a <;> decide

/-- An attendance over a lane goes by the windows of its station, whatever the seal. -/
theorem State.decision_lane (s : State) (st : Station) (l : Lane) (cls : Cls) :
    s.decision st (.lane l) cls = windowAccess (s.settings.windows.get st) (.lane l) cls :=
  if_neg fun override => nomatch override.1

/-- The write of a station's windows ends the attendances that they do not allow. -/
theorem State.writeWindows_eq (s : State) (st : Station) (ws : List Window) :
    s.writeWindows st ws = Lane.all.foldl
      (endAttendanceIf fun l => s.attending.get l = some st ∧ windowAccess ws (.lane l) .lane ≠ .control)
      (s.writeSettings { s.settings with windows := s.settings.windows.set st ws }) := by
  refine State.endAttendances_eq fun t l settings => and_congr Iff.rfl ?_
  rw [decide_eq_true_eq, State.decision_lane, settings]
  show windowAccess ((s.settings.windows.set st ws).get st) _ _ ≠ _ ↔ _
  rw [PerStation.get_set, if_pos rfl]

theorem configWriteWindows_lastControl {s : State} {r : Req} {st : Station} {bytes : List WindowBytes} {ws : List Window}
    (read : windowsOf? bytes = some ws) (h : s.Controls r .yard .yard)
    (last : ∀ a, windowAccess ((s.settings.windows.set st ws).get a) .yard .yard ≠ .control) :
    execConfigWriteWindows r st bytes s = .next (s.refusedWith r 0x03 .lastControl) := by
  unfold execConfigWriteWindows
  rw [read]
  refine congrArg _ (State.takeRequest_controlRefused h (if_pos ?_))
  exact Bool.eq_false_iff.2 fun some => (someYardControl_iff.1 some).elim last

theorem configWriteWindows_eq {s : State} {r : Req} {st : Station} {bytes : List WindowBytes} {ws : List Window}
    (read : windowsOf? bytes = some ws) (h : s.Controls r .yard .yard)
    (some : ∃ a, windowAccess ((s.settings.windows.set st ws).get a) .yard .yard = .control) :
    (s.slotFree = false → execConfigWriteWindows r st bytes s = .next (s.refusedWith r 0x03 .storeBusy))
      ∧ (s.slotFree = true → execConfigWriteWindows r st bytes s =
        .next (((s.heard r.station).writeWindows st ws).acked r 0x03)) := by
  have control : ¬someYardControl ((s.heard r.station).windowsWith st ws) = false :=
    ne_false_of_eq_true (someYardControl_iff.2 some)
  unfold execConfigWriteWindows
  rw [read]
  refine ⟨fun full => ?_, fun free => ?_⟩
  · exact congrArg _ (State.takeRequest_controlRefused h ((if_neg control).trans
      (needSlot_refused (s := s.heard r.station) _ full)))
  · exact congrArg _ (State.takeRequest_acked h.1 ((needControl_controls h).trans ((if_neg control).trans
      (needSlot_passes (s := s.heard r.station) _ free))))

/-- Settles O19: each group by its own lemma. -/
theorem groupsAreWritten : Obligations.GroupsAreWritten := by
  refine ⟨fun s r h => ⟨fun levels length => configWriteNoticeLevels_eq h length,
    fun caps length => configWriteWasteCaps_eq h length, configWriteVerifyOption_eq h, configWriteSampleTimeout_eq h⟩,
    fun s r l g => ⟨fun bad takes => ?_, fun c read h => ?_⟩, fun s r st bytes => ⟨fun bad takes => ?_, fun ws read h =>
    ⟨configWriteWindows_lastControl read h, fun some => ⟨(configWriteWindows_eq read h some).1, fun free next eq => ?_,
    fun free idle => ?_⟩⟩⟩⟩
  · show execConfigWriteLane r l g s = _
    unfold execConfigWriteLane
    rw [bad, State.takeRequest_outOfRange takes]
  · rw [← LaneSettings.clamp_eq]
    exact configWriteLane_eq read h
  · show execConfigWriteWindows r st bytes s = _
    unfold execConfigWriteWindows
    rw [bad, State.takeRequest_outOfRange takes]
  · subst eq
    refine ((configWriteWindows_eq read h some).2 free).trans ?_
    rw [State.writeWindows_eq]
    rfl
  · refine ((configWriteWindows_eq read h some).2 free).trans ?_
    rw [State.writeWindows_eq, State.foldl_endAttendanceIf_idle fun l ⟨attended, lost⟩ onDeck => lost (idle l attended onDeck)]
    exact congrArg _ (State.acked_eq rfl)

end Sys2Proof.Machine
end

section
/-! The clock and the day roll (R139 to R142), and the record store engine's attempts (R145 to R150). -/

namespace Sys2Proof.Machine

/-! ### The day roll leaves the ports alone -/

theorem State.enqueueRoll_ports (s : State) (p : PerStation Port) :
    ({ s with ports := p } : State).enqueueRoll = { s.enqueueRoll with ports := p } := by
  unfold State.enqueueRoll
  show (if s.tickets.rollPending = true then _ else if s.store.reservedFilled = false then _
    else if s.slotFree = true then _ else _) = _
  repeat' split
  all_goals rfl

theorem State.rollDay_ports (s : State) (stored : Int) (p : PerStation Port) :
    ({ s with ports := p } : State).rollDay stored = { s.rollDay stored with ports := p } :=
  State.enqueueRoll_ports (({ s with
    index := { s.index with
      storedDay := some s.currentDay, totals := rollTotals (s.currentDay - stored) s.index.totals }
    tickets := { s.tickets with capNotice := s.tickets.capNotice.map fun _ => false } } : State).raiseNotice
      .dayRolled none none 0 0 [s.currentDay, s.currentDay - stored]) p

/-- The examination of the day index reads and changes no port. -/
theorem State.examineDay_ports (s : State) (p : PerStation Port) :
    ({ s with ports := p } : State).examineDay = { s.examineDay with ports := p } := by
  unfold State.examineDay
  show (if s.clock.set = true then (match s.index.storedDay with
    | none => _ | some d => if d < s.currentDay then _ else _) else _) = _
  split
  · cases s.index.storedDay with
    | none => exact State.enqueueRoll_ports { s with index := { s.index with storedDay := some s.currentDay } } p
    | some d =>
      show (if d < s.currentDay then _ else _) = ({ (if d < s.currentDay then _ else _ : State) with ports := p } : State)
      split
      · exact s.rollDay_ports d p
      · rfl
  · rfl

theorem State.examineDay_keepsPorts (s : State) : s.examineDay.ports = s.ports :=
  (congrArg State.ports (s.examineDay_ports s.ports)).trans rfl

theorem StoreEngine.reservedFilled_iff {e : StoreEngine} : e.reservedFilled = true ↔ 1 ≤ e.reservedCount := by
  rw [← Bool.not_eq_false, StoreEngine.reservedFilled_eq_false_iff]
  omega

/-- The day index of a count is the day whose 86,400 s it lies in. -/
theorem dayIndex_eq {count rollSecond : Nat} {day : Int} (from' : day * 86400 ≤ (count : Int) - rollSecond)
    (below : (count : Int) - rollSecond < (day + 1) * 86400) : dayIndex count rollSecond = day := by
  unfold dayIndex
  omega

theorem State.examineDay_unknown {s : State} (set : s.clock.set = true) (stored : s.index.storedDay = none) :
    s.examineDay = ({ s with index := { s.index with storedDay := some s.currentDay } } : State).enqueueRoll := by
  unfold State.examineDay
  rw [if_pos set, stored]

theorem State.examineDay_known {s : State} {old : Int} (set : s.clock.set = true) (stored : s.index.storedDay = some old) :
    s.examineDay = if old < s.currentDay then s.rollDay old else s := by
  unfold State.examineDay
  rw [if_pos set, stored]

/-- Settles O20: the requests and the tick examine the day index of the state they make, and the index is the day given. -/
theorem clockAndDayRoll : Obligations.ClockAndDayRoll := by
  intro s
  refine ⟨fun r v h => ?_, rfl, fun r v h => ⟨fun full => congrArg _ (State.takeRequest_storeBusy h full), fun free => ?_⟩,
    fun unset => if_neg (Bool.eq_false_iff.1 unset), fun day set from' below => ?_⟩
  · refine congrArg _ ((State.takeRequest_controlled
      (t := ({ s.heard r.station with clock := { count := v.toNat, set := true } } : State).examineDay) h rfl
      (State.examineDay_keepsPorts _)).trans ?_)
    rw [show ({ s.heard r.station with clock := { count := v.toNat, set := true } } : State)
      = { ({ s with clock := { count := v.toNat, set := true } } : State) with ports := (s.heard r.station).ports } from rfl,
      State.examineDay_ports]
    unfold State.okayed State.answered State.reply State.port
    rw [State.examineDay_keepsPorts]
  · have clamp : clampRoll v.toNat = min 86399 v.toNat := (clampNat_eq (by decide) _).trans (by omega)
    have clamped : decide (clampRoll v.toNat ≠ v.toNat) = decide (86399 < v.toNat) := by
      rw [clamp]
      exact decide_eq_decide.2 (by omega)
    refine congrArg _ ((State.takeRequest_slot
      (t := ((s.heard r.station).writeSettings { s.settings with rollSecond := clampRoll v.toNat }).examineDay) h free rfl
      (State.examineDay_keepsPorts _)).trans ?_)
    rw [← State.examineDay_ports, clamped, clamp]
    rfl
  · have index : s.currentDay = day := dayIndex_eq from' below
    subst index
    refine ⟨fun unknown => State.examineDay_unknown set unknown,
      fun old stored before => (State.examineDay_known set stored).trans (if_neg (Int.not_lt.2 before)),
      fun old stored after => ((State.examineDay_known set stored).trans (if_pos after)).trans ?_, fun clear empty => ?_,
      fun clear filled room => ?_, fun clear filled full => ?_, fun pending => if_pos pending⟩
    · have days : rollTotals (s.currentDay - old) s.index.totals
          = s.index.totals.map fun t => { today := 0, previous := if s.currentDay = old + 1 then t.today else 0 } :=
        List.map_congr_left fun t _ => by simp only [show s.currentDay - old = 1 ↔ s.currentDay = old + 1 by omega]
      have flags : (s.tickets.capNotice.map fun _ => false) = List.replicate s.tickets.capNotice.length false := List.map_const' ..
      unfold State.rollDay
      simp only [days, flags]
      refine congrArg State.enqueueRoll ?_
      apply State.raiseNotice_eq (s := s) <;> rfl
    · exact (if_neg (Bool.eq_false_iff.1 clear)).trans (if_pos (StoreEngine.reservedFilled_eq_false_iff.2 empty))
    · exact (if_neg (Bool.eq_false_iff.1 clear)).trans ((if_neg
        (ne_false_of_eq_true (StoreEngine.reservedFilled_iff.2 filled))).trans (if_pos (State.slotFree_iff.2 room)))
    · exact (if_neg (Bool.eq_false_iff.1 clear)).trans ((if_neg
        (ne_false_of_eq_true (StoreEngine.reservedFilled_iff.2 filled))).trans (if_neg (mt State.slotFree_iff.1 (Nat.not_lt.2 full))))

/-! ### An attempt, up to the read-back (R145 to R148, R150) -/

theorem StoreEngine.mayBegin_iff {e : StoreEngine} : e.mayBegin = true ↔
    e.state = .writing ∧ e.attemptOn = false ∧ e.serving = [] ∧ e.current ≠ none := by
  simp [StoreEngine.mayBegin, and_assoc, Option.ne_none_iff_isSome]

theorem StoreEngine.polling_iff {e : StoreEngine} :
    e.polling = true ↔ e.state = .waitReady ∧ e.attemptOn = true ∧ e.verifying = false := by
  simp [StoreEngine.polling, and_assoc]

/-- STORE_RETRY in FAULT. -/
theorem State.storeRetried {s : State} {c : CurrentExtent} (fault : s.store.state = .fault)
    (current : s.store.current = some c) :
    (s.setStore ({ s.store with current := s.store.current.map fun c => { c with attempt := 1 } } :
        StoreEngine).enterWriting).deactivate .storeFault
      = { s with
          store := { s.store with
            state := if s.store.serving = [] then .writing else .fault
            current := some { c with attempt := 1 } }
          conditions := s.conditions.set .storeFault { s.condition .storeFault with active := false } } := by
  rw [StoreEngine.enterWriting_eq, current, ← fault]
  rfl

/-- Settles O24: each event in the state that allows it, and nothing in the others. -/
theorem attemptsProgress : Obligations.AttemptsProgress := by
  refine ⟨fun s => ⟨fun writing off free current => ?_, fun other => ?_, fun writing on => congrArg _ (if_pos ⟨writing, on⟩),
    fun other => ?_, rfl, fun waits on unread verify => ?_, fun other => ?_, fun read idle => ?_⟩,
    fun s r h => ⟨fun other => ?_, fun c fault current => ?_⟩, fun s => State.slotFree_iff,
    fun e i => ⟨e.join_idle i, e.join_busy i⟩⟩
  · exact congrArg _ (if_pos (StoreEngine.mayBegin_iff.2 ⟨writing, off, free, current⟩))
  · refine congrArg _ (if_neg fun may => ?_)
    obtain ⟨writing, off, free, _⟩ := StoreEngine.mayBegin_iff.1 may
    obtain differs | on | served := other
    · exact differs writing
    · exact Bool.noConfusion (on.symm.trans off)
    · exact served free
  · refine congrArg _ (if_neg fun ⟨writing, on⟩ => ?_)
    obtain differs | off := other
    · exact differs writing
    · exact Bool.noConfusion (on.symm.trans off)
  · exact congrArg _ ((if_pos (StoreEngine.polling_iff.2 ⟨waits, on, unread⟩)).trans (if_pos verify))
  · have idle : ¬s.store.polling = true := fun polls => by
      obtain ⟨waits, on, unread⟩ := StoreEngine.polling_iff.1 polls
      obtain differs | off | read := other
      · exact differs waits
      · exact Bool.noConfusion (on.symm.trans off)
      · exact Bool.noConfusion (read.symm.trans unread)
    exact ⟨congrArg _ (if_neg idle), congrArg _ (if_neg idle)⟩
  · exact congrArg _ (if_neg (Bool.eq_false_iff.1 idle))
  · exact congrArg _ (State.takeRequest_controlRefused h (if_neg other))
  · refine congrArg _ ((State.takeRequest_controlled (t := (((s.heard r.station).setStore _).deactivate .storeFault)) h
      (if_pos fault) rfl).trans ?_)
    rw [State.storeRetried (s := s.heard r.station) fault current]
    rfl

/-! ### The end of an attempt (R148, R149) -/

section Attempt

variable {s : State} {i : WriteItem} {rest : List WriteItem} {c : CurrentExtent}

theorem StoreEngine.extent?_eq {e : StoreEngine} (queue : e.queue = i :: rest) (current : e.current = some c) :
    e.extent? = i.extents[c.index]? := by
  unfold StoreEngine.extent?
  rw [queue, current]

theorem State.attemptSucceeds_next (queue : s.store.queue = i :: rest) (current : s.store.current = some c)
    (more : c.index + 1 < i.extents.length) : s.attemptSucceeds = { s with
      store := { s.store.freePort with state := .writing, current := some { index := c.index + 1, attempt := 1 } } } := by
  unfold State.attemptSucceeds
  show (match s.store.queue, s.store.current with | i :: _, some c => _ | _, _ => _) = _
  rw [queue, current]
  exact if_pos more

theorem State.takeFreedSlot_clear {e : StoreEngine} {reserved : Bool} (clear : s.tickets.rollPending = false) :
    (s.setStore e).takeFreedSlot reserved = s.setStore e := if_neg (Bool.eq_false_iff.1 clear)

theorem State.takeFreedSlot_pending {e : StoreEngine} {reserved : Bool} (pending : s.tickets.rollPending = true) :
    (s.setStore e).takeFreedSlot reserved = { s with
      tickets := { s.tickets with rollPending := false }
      store := { e with queue := e.queue ++ [{ extents := [.indexTotals s.index], reserved := reserved }] } } :=
  if_pos pending

/-- The last extent of the item: the item leaves, and a roll record that waits takes the slot it frees. -/
theorem State.attemptSucceeds_last (queue : s.store.queue = i :: rest) (current : s.store.current = some c)
    (last : c.index + 1 = i.extents.length) : s.attemptSucceeds =
      let t := (s.setStore { s.store.freePort with queue := rest }).takeFreedSlot i.reserved
      t.setStore t.store.nextItem := by
  unfold State.attemptSucceeds
  show (match s.store.queue, s.store.current with | i :: _, some c => _ | _, _ => _) = _
  rw [queue, current]
  refine (if_neg (by omega)).trans ?_
  unfold State.itemWritten
  show (match s.store.queue with | [] => _ | i :: rest => _) = _
  rw [queue]
  rfl

theorem State.attemptFails_again (cause : FailCause) (current : s.store.current = some c) (again : c.attempt < 3) :
    s.attemptFails cause = { s with store := { s.store.freePort with
      lastFailure := some cause, state := .writing, current := some { c with attempt := c.attempt + 1 } } } := by
  unfold State.attemptFails
  show (match s.store.current with | none => _ | some c => _) = _
  rw [current]
  exact if_pos again

/-- STORE_FAULT names the area of the current extent, and the cause. -/
theorem State.storeFaultNotice_eq {t : State} {x : Record} (cause : FailCause) (queue : t.store.queue = i :: rest)
    (current : t.store.current = some c) (extent : i.extents[c.index]? = some x) : State.storeFaultNotice cause t =
      t.raiseNotice .storeFault none none 0 (2 * x.area.toNat + if cause = .readyTimeout then 0 else 1) [] := by
  unfold State.storeFaultNotice StoreEngine.areaNat
  rw [StoreEngine.extent?_eq queue current, extent]
  cases cause <;> rfl

theorem State.attemptFails_third {x : Record} (cause : FailCause) (queue : s.store.queue = i :: rest)
    (current : s.store.current = some c) (extent : i.extents[c.index]? = some x) (third : 3 ≤ c.attempt)
    (inactive : (s.condition .storeFault).active = false) : s.attemptFails cause = { s with
      store := { s.store.freePort with lastFailure := some cause, state := .fault }
      conditions := s.conditions.set .storeFault { s.condition .storeFault with active := true, latched := true }
      notices :=
        if (s.condition .storeFault).enable then
          s.announced [s.notice .storeFault none none 0 (2 * x.area.toNat + if cause = .readyTimeout then 0 else 1) []]
        else s.notices } := by
  unfold State.attemptFails
  show (match s.store.current with | none => _ | some c => _) = _
  rw [current]
  refine (if_neg (Nat.not_lt.2 third)).trans ((State.activateWith_inactive
    (s := s.setStore { s.store.freePort with lastFailure := some cause, state := .fault }) _ inactive).trans ?_)
  by_cases told : (s.condition .storeFault).enable = true
  · rw [if_pos told]
    refine (if_pos told).trans ((State.storeFaultNotice_eq (i := i) (rest := rest) (c := c) (x := x) cause
      (by exact queue) (by exact current) extent).trans ?_)
    apply State.raiseNotice_eq (s := s) <;> rfl
  · rw [if_neg told]
    exact if_neg told

end Attempt

/-- Settles O25: the two events of a success lead to the same end, and so do the two of a failure. -/
theorem attemptsEnd : Obligations.AttemptsEnd := by
  refine ⟨fun s i rest c x event queue current extent happens => ?_, fun s i rest c x event cause queue current extent happens => ?_⟩
  · have read : s.store.extent? = some x := (StoreEngine.extent?_eq queue current).trans extent
    have ends : exec event s = .next s.attemptSucceeds := by
      obtain ⟨rfl, waits, on, unread, off⟩ | ⟨rfl, verifying⟩ := happens
      · exact congrArg _ ((if_pos (StoreEngine.polling_iff.2 ⟨waits, on, unread⟩)).trans (if_neg (Bool.eq_false_iff.1 off)))
      · exact congrArg _ ((if_pos verifying).trans (if_pos (by rw [read]; rfl)))
    refine ⟨fun more => ?_, fun last clear empty => ?_, fun last clear others => ?_, fun last pending => ?_⟩
    · exact ends.trans (congrArg _ (State.attemptSucceeds_next queue current more))
    all_goals
      refine ends.trans (congrArg _ ((State.attemptSucceeds_last queue current last).trans ?_))
    · subst empty
      rw [State.takeFreedSlot_clear clear]
      rfl
    · rw [State.takeFreedSlot_clear clear]
      cases rest with
      | nil => exact absurd rfl others
      | cons => rfl
    · rw [State.takeFreedSlot_pending pending]
      cases rest <;> rfl
  · have read : s.store.extent? = some x := (StoreEngine.extent?_eq queue current).trans extent
    have ends : exec event s = .next (s.attemptFails cause) := by
      obtain ⟨rfl, rfl, waits, on, unread⟩ | ⟨bytes, rfl, rfl, differs, verifying⟩ := happens
      · exact congrArg _ (if_pos (StoreEngine.polling_iff.2 ⟨waits, on, unread⟩))
      · refine congrArg _ ((if_pos verifying).trans (if_neg ?_))
        rw [read]
        exact fun same => differs (Option.some.inj same).symm
    exact ⟨fun again => ends.trans (congrArg _ (State.attemptFails_again cause current again)), fun third inactive =>
      ends.trans (congrArg _ (State.attemptFails_third cause queue current extent third inactive))⟩

end Sys2Proof.Machine
end

section
/-! Decks (chapter 1): the roundings, a sample arrival, silence, discarded frames and the coupled reading. -/

namespace Sys2Proof.Machine

/-! ### Rounding (R7, R8, R11) -/

/-- The quotient of a doubled numerator, rounded half up, lies within half a unit. -/
theorem halfUp_bounds (num : Int) {den : Nat} (h : 0 < den) :
    2 * ((2 * num + den) / (2 * (den : Int)) * den) ≤ 2 * num + den
      ∧ 2 * num - den < 2 * ((2 * num + den) / (2 * (den : Int)) * den) := by
  have whole := Int.mul_ediv_add_emod (2 * num + den) (2 * (den : Int))
  have low := Int.emod_nonneg (2 * num + den) (b := 2 * (den : Int)) (by omega)
  have high := Int.emod_lt_of_pos (2 * num + den) (b := 2 * (den : Int)) (by omega)
  have product : 2 * (den : Int) * ((2 * num + den) / (2 * (den : Int)))
      = 2 * ((2 * num + den) / (2 * (den : Int)) * den) := by
    rw [Int.mul_assoc, Int.mul_comm (den : Int)]
  omega

theorem roundAway_nearest (num : Int) {den : Nat} (h : 0 < den) :
    (2 * (roundAway num den * den - num)).natAbs ≤ den
      ∧ ((2 * (roundAway num den * den - num)).natAbs = den → num.natAbs < (roundAway num den * den).natAbs) := by
  unfold roundAway
  split
  · have := halfUp_bounds num h
    omega
  · have := halfUp_bounds (-num) h
    rw [show -(2 * num) + (den : Int) = 2 * -num + den by omega, Int.neg_mul]
    omega

theorem roundDivision_bounds (grams : Int) {d : Nat} (h : 0 < d) :
    1000 * d * roundDivision grams d - 500 * d ≤ grams ∧ grams < 1000 * d * roundDivision grams d + 500 * d := by
  unfold roundDivision
  have whole := Int.mul_ediv_add_emod (grams + 500 * d) (1000 * (d : Int))
  have low := Int.emod_nonneg (grams + 500 * d) (b := 1000 * (d : Int)) (by omega)
  have high := Int.emod_lt_of_pos (grams + 500 * d) (b := 1000 * (d : Int)) (by omega)
  omega

/-- Settles O26: a numerator below 0 is rounded as its opposite is, and the opposite taken. -/
theorem roundingsAreNearest : Obligations.RoundingsAreNearest :=
  ⟨fun num _ h => roundAway_nearest num h, fun grams _ h => roundDivision_bounds grams h⟩

/-! ### A sample through the weight unit (R3, R4, R7 to R15) -/

theorem WeightUnit.sequence_eq (u : WeightUnit) (seq : Nat) : u.sequence seq = { u with
    lastSeq := some seq
    filter := if seqGap u.lastSeq seq then [] else u.filter
    stability := if seqGap u.lastSeq seq then [] else u.stability } := by
  unfold WeightUnit.sequence
  repeat' split
  all_goals rfl

theorem WeightUnit.refilled_eq (u : WeightUnit) : (if u.refill then u.empty else u) = { u with
    filter := if u.refill then [] else u.filter
    stability := if u.refill then [] else u.stability } := by
  repeat' split
  all_goals rfl

theorem ite_nil_ite_nil {α : Type} (a b : Bool) (l : List α) :
    (if a then [] else if b then [] else l) = if b || a then [] else l := by
  cases a <;> cases b <;> rfl

theorem sampleSum_eq (r : CalRecord) (cells : List CellSample) : sampleSum r cells =
    ((cells.zip (r.zeros.zip r.spans)).map fun c => (c.1.raw.toInt - c.2.1) * (c.2.2 : Int)).sum :=
  List.sum_eq_foldl.symm

theorem filteredWeight_eq (wRaw : Int) (history : List Int) : filteredWeight wRaw history =
    if history = [] then Config.meanOfNone wRaw else roundAway history.sum history.length := by
  unfold filteredWeight mean
  rw [List.sum_eq_foldl]
  simp only [List.isEmpty_iff]

theorem foldl_max_attained (e : StabEntry) (es : List StabEntry) : ∃ a ∈ e :: es,
    es.foldl (fun m x => max m x.wAvg) e.wAvg = a.wAvg ∧ ∀ x ∈ e :: es, x.wAvg ≤ a.wAvg := by
  induction es using appendInduction with
  | nil => exact ⟨e, List.mem_cons_self, rfl, by simp⟩
  | append es f ih =>
    obtain ⟨a, mem, eq, bound⟩ := ih
    rw [List.foldl_append, eq]
    obtain above | below := Int.le_total f.wAvg a.wAvg
    · exact ⟨a, by grind, Int.max_eq_left above, by grind⟩
    · exact ⟨f, by simp, Int.max_eq_right below, by grind⟩

theorem foldl_min_attained (e : StabEntry) (es : List StabEntry) : ∃ a ∈ e :: es,
    es.foldl (fun m x => min m x.wAvg) e.wAvg = a.wAvg ∧ ∀ x ∈ e :: es, a.wAvg ≤ x.wAvg := by
  induction es using appendInduction with
  | nil => exact ⟨e, List.mem_cons_self, rfl, by simp⟩
  | append es f ih =>
    obtain ⟨a, mem, eq, bound⟩ := ih
    rw [List.foldl_append, eq]
    obtain below | above := Int.le_total a.wAvg f.wAvg
    · exact ⟨a, by grind, Int.min_eq_left below, by grind⟩
    · exact ⟨f, by simp, Int.min_eq_right above, by grind⟩

/-- The spread is the greatest difference of two entries of a history. -/
theorem spread_le_iff (wAvg : Int) (es : List StabEntry) (v : Int) : spread wAvg es ≤ v ↔
    (es = [] → Config.spreadOfNone wAvg ≤ v) ∧ ∀ a ∈ es, ∀ b ∈ es, a.wAvg - b.wAvg ≤ v := by
  cases es with
  | nil => simp [spread]
  | cons e es =>
    obtain ⟨high, memHigh, eqHigh, boundHigh⟩ := foldl_max_attained e es
    obtain ⟨low, memLow, eqLow, boundLow⟩ := foldl_min_attained e es
    rw [spread, eqHigh, eqLow]
    refine ⟨fun small => ⟨nofun, fun a memA b memB => ?_⟩, fun ⟨_, small⟩ => small high memHigh low memLow⟩
    have := boundHigh a memA
    have := boundLow b memB
    omega

theorem isStable_eq (r : CalRecord) (status : WeightStatus) (wAvg : Int) (history : List StabEntry) :
    isStable r status wAvg history = decide (status = .valid ∧ history.length = r.stabilityCount
      ∧ (∀ e ∈ history, e.valid = true)
      ∧ (history = [] → Config.spreadOfNone wAvg ≤ r.motionBand * r.division * 1000)
      ∧ ∀ a ∈ history, ∀ b ∈ history, a.wAvg - b.wAvg ≤ r.motionBand * r.division * 1000) := by
  rw [Bool.eq_iff_iff]
  simp only [isStable, Bool.and_eq_true, decide_eq_true_eq, List.all_eq_true, spread_le_iff, and_assoc]

theorem faultSample_iff {c : DeckCal} {cells : List CellSample} : faultSample c cells = true ↔
    cells.length ≠ c.committed.cellCount ∨ (∃ c ∈ cells, c.status ≠ 0) ∨ c.state = .outOfService := by
  simp [faultSample, or_assoc]

/-! ### A new reading (R2, R5, R17) -/

/-- A new reading formed in `t`, which differs from `s` in nothing that a notice depends on. -/
theorem State.newReading_eq {s t : State} (settings : t.settings = s.settings) (position : t.sealOpen = s.sealOpen)
    (notices : t.notices = s.notices) (clock : t.clock = s.clock) (d : Deck) (u : DeckUnit) :
    t.newReading d u = ({ t with
      decks := t.decks.set d u
      notices := if u.weight.reading.status = (t.deck d).weight.reading.status then t.notices
        else s.announced [s.notice .deckStatus none (some d) 0 u.weight.reading.status.toNat []] } : State).recouple := by
  unfold State.newReading
  refine congrArg State.recouple ?_
  split
  · rfl
  · exact State.raiseNotice_eq (s := s) (t := t.setDeck d u) settings position notices clock ..

theorem sealAccess_ne_cellLink (d : Deck) : Condition.sealAccess ≠ cellLinkCondition d := by cases d <;> decide

theorem State.sealOpen_setCondition (s : State) {k : Condition} (v : CondState) (h : Condition.sealAccess ≠ k) :
    (s.setCondition k v).sealOpen = s.sealOpen := by
  show ((s.conditions.set k v).get .sealAccess).active = (s.conditions.get .sealAccess).active
  rw [Conditions.get_set, if_neg h]

theorem State.takeSample_eq (s : State) (d : Deck) (seq : Nat) (cells : List CellSample) {w : WeightUnit}
    (sampled : (s.deck d).weight.sample (s.deck d).cal seq cells s.clock.count = w) :
    s.takeSample d seq cells = ({ s with
      decks := s.decks.set d { s.deck d with
        link := { (s.deck d).link with
          rx := []
          latest := some { seq := seq, cells := cells, time := s.clock.count }
          timer := .running (s.settings.sampleTimeout.get d) }
        weight := w }
      conditions := s.conditions.set (cellLinkCondition d) { s.condition (cellLinkCondition d) with active := false }
      notices :=
        if w.reading.status = (s.deck d).weight.reading.status then s.notices
        else s.announced [s.notice .deckStatus none (some d) 0 w.reading.status.toNat []] } : State).recouple := by
  subst sampled
  exact State.newReading_eq (s := s) (t := s.deactivate (cellLinkCondition d)) rfl (s.sealOpen_setCondition _ (sealAccess_ne_cellLink d)) rfl rfl d _

theorem WeightUnit.sample_fault {u : WeightUnit} {c : DeckCal} {seq : Nat} {cells : List CellSample} {time : Nat}
    (fault : faultSample c cells = true) : u.sample c seq cells time = { u with
      lastSeq := some seq
      filter := if seqGap u.lastSeq seq then [] else u.filter
      stability := if seqGap u.lastSeq seq then [] else u.stability
      refill := true
      reading := { u.reading with status := .cellFault, stable := false, centreZero := false, time := some time } } := by
  unfold WeightUnit.sample
  rw [if_pos fault, WeightUnit.sequence_eq]
  rfl

/-- The histories that a good sample finds: emptied by a gap, or by a refill that was pending. -/
def WeightUnit.found (u : WeightUnit) (seq : Nat) : WeightUnit := { u with
  lastSeq := some seq
  filter := if seqGap u.lastSeq seq || u.refill then [] else u.filter
  stability := if seqGap u.lastSeq seq || u.refill then [] else u.stability }

theorem WeightUnit.sample_good {u : WeightUnit} {c : DeckCal} {seq : Nat} {cells : List CellSample} {time : Nat}
    (good : ¬faultSample c cells = true) :
    u.sample c seq cells time = ({ u.found seq with refill := false }).goodReading c.committed cells time := by
  have found : (if (u.sequence seq).refill then (u.sequence seq).empty else u.sequence seq) = u.found seq := by
    rw [WeightUnit.refilled_eq, WeightUnit.sequence_eq]
    simp only [ite_nil_ite_nil]
    rfl
  unfold WeightUnit.sample WeightUnit.goodReading
  rw [if_neg good, found]
  rfl

/-- Settles O27: a good sample's reading stage by stage, then what the yard makes of it. -/
theorem samplesFormReadings : Obligations.SamplesFormReadings := by
  intro s d seq cells
  refine ⟨fun early => congrArg _ (if_neg ?_), fun loaded => ?_⟩
  · unfold State.calibrationLoaded
    rw [decide_eq_true_eq]
    omega
  · refine ⟨(s.deck d).weight.sample (s.deck d).cal seq.toNat cells s.clock.count, fun fault => ?_, fun good => ?_, ?_⟩
    · exact WeightUnit.sample_fault (faultSample_iff.2 fault)
    · rw [WeightUnit.sample_good (mt faultSample_iff.1 good)]
      unfold WeightUnit.goodReading
      simp only [isStable_eq, filteredWeight_eq, rawWeight, sampleSum_eq, atCentreZero, ← Bool.decide_and]
      rfl
    · refine (congrArg _ (if_pos (decide_eq_true loaded))).trans ?_
      rw [State.takeSample_eq s d seq.toNat cells rfl]

/-! ### Silence and discarded frames (R1, R2, R5, R43) -/

theorem State.takeExpiry_eq (s : State) (d : Deck) : s.takeExpiry d = ({ s with
    decks := s.decks.set d { s.deck d with
      link := { (s.deck d).link with timer := .expired }
      weight := { (s.deck d).weight with
        refill := true
        reading := { (s.deck d).weight.reading with status := .stale, stable := false, centreZero := false } } }
    conditions := s.conditions.set (cellLinkCondition d) {
      active := true
      latched := (s.condition (cellLinkCondition d)).latched || !(s.condition (cellLinkCondition d)).active
      enable := (s.condition (cellLinkCondition d)).enable }
    notices :=
      if (s.deck d).weight.reading.status = .stale then s.notices
      else s.announced [s.notice .deckStatus none (some d) 0 3 []] } : State).recouple := by
  refine (State.newReading_eq (s := s) (t := s.activate (cellLinkCondition d)) rfl
    (s.sealOpen_setCondition _ (sealAccess_ne_cellLink d)) rfl rfl d _).trans (congrArg State.recouple ?_)
  exact congrArg (fun n : PerStation NoticeState => ({ s with
    decks := s.decks.set d _, conditions := s.conditions.set (cellLinkCondition d) _, notices := n } : State))
    (ite_of_iff eq_comm rfl rfl)

/-- Settles O28: the timer that runs expires once, and a discarded frame counts where its area is loaded. -/
theorem silenceAndDiscardedFrames : Obligations.SilenceAndDiscardedFrames := by
  refine ⟨fun s d => ⟨fun silent => ?_, fun n running => ?_⟩, fun s d event kind => ⟨fun early => ?_, fun loaded => ?_⟩,
    fun s l event kind => ⟨fun early => ?_, fun loaded => ?_⟩⟩
  · show execSampleTimerExpiry d s = _
    unfold execSampleTimerExpiry
    obtain none | expired := silent
    · rw [none]
    · rw [expired]
  · show execSampleTimerExpiry d s = _
    unfold execSampleTimerExpiry
    rw [running, ← State.takeExpiry_eq]
  · have counts : exec event s = .next (s.discardCellFrame d) := by obtain rfl | rfl | rfl := kind <;> rfl
    exact counts.trans (congrArg _ (if_neg (mt of_decide_eq_true (Nat.not_le.2 early))))
  · have counts : exec event s = .next (s.discardCellFrame d) := by obtain rfl | rfl | rfl := kind <;> rfl
    exact counts.trans (congrArg _ (if_pos (decide_eq_true loaded)))
  · have counts : exec event s = .next (s.discardTagFrame l) := by obtain rfl | rfl := kind <;> rfl
    exact counts.trans (congrArg _ (if_neg (mt of_decide_eq_true (Nat.not_le.2 early))))
  · have counts : exec event s = .next (s.discardTagFrame l) := by obtain rfl | rfl := kind <;> rfl
    exact counts.trans (congrArg _ (if_pos (decide_eq_true loaded)))

/-! ### The coupled reading (R18, R19) -/

/-- While a deck's status is not VALID the coupled status is the first of STALE, CELL_FAULT, OVER and UNDER that a deck has. -/
theorem coupledStatus_of_deck {a b st : WeightStatus} {wG : Option Int} {d capacity : Nat}
    (bad : st = .stale ∨ st = .cellFault ∨ st = .over ∨ st = .under) (here : a = st ∨ b = st)
    (first : ∀ earlier, earlier ∈ [WeightStatus.stale, .cellFault, .over, .under].takeWhile (fun x => decide (x ≠ st)) →
      a ≠ earlier ∧ b ≠ earlier) : coupledStatus a b wG d capacity = st := by
  unfold coupledStatus
  obtain rfl | rfl | rfl | rfl := bad <;> simp_all

theorem coupledStatus_of_valid {wG : Int} {d capacity : Nat} : coupledStatus .valid .valid (some wG) d capacity =
    if ((capacity : Int) + 9 * d) * 1000 < wG then .over else .valid := by
  simp [coupledStatus]

theorem formCoupled_w (old : CoupledReading) (a b : DeckUnit) : (formCoupled old a b).w =
    if (formCoupled old a b).status = .valid then
      ((formCoupled old a b).wG.map fun g => roundedWeight g (formCoupled old a b).division).getD old.w
    else old.w := rfl

/-- Settles O29: the coupled status by its cases, and the weight that goes with it. -/
theorem coupledReadingIsFormed : Obligations.CoupledReadingIsFormed := by
  refine ⟨rfl, fun s => ⟨rfl, rfl, rfl, rfl, rfl, Bool.and_eq_true _ _ ▸ Iff.rfl, fun x y left right => ?_,
    fun missing => ?_, fun st bad here first => ?_, fun g left right formed => ?_⟩⟩
  · show coupledGrams _ _ = _
    rw [left, right]
    rfl
  · show coupledGrams _ _ = _
    unfold coupledGrams
    obtain none | none := missing
    · rw [none]
    · rw [none]
      cases s.decks.d0.weight.reading.wG <;> rfl
  · have status : s.recouple.coupled.status = st := coupledStatus_of_deck bad here first
    refine ⟨status, (formCoupled_w ..).trans (if_neg ?_)⟩
    rw [show (formCoupled _ _ _).status = st from status]
    rintro rfl
    simp at bad
  · have status : s.recouple.coupled.status
        = if ((s.recouple.coupled.capacity : Int) + 9 * s.recouple.coupled.division) * 1000 < g then .over else .valid := by
      show coupledStatus s.decks.d0.weight.reading.status s.decks.d1.weight.reading.status s.recouple.coupled.wG _ _ = _
      rw [left, right, formed, coupledStatus_of_valid]
      rfl
    refine ⟨fun high => ?_, fun low => ?_⟩
    · rw [if_pos high] at status
      exact ⟨status, (formCoupled_w ..).trans (if_neg (by rw [show (formCoupled _ _ _).status = _ from status]; decide))⟩
    · rw [if_neg (Int.not_lt.2 low)] at status
      refine ⟨status, (formCoupled_w ..).trans ((if_pos status).trans ?_)⟩
      rw [show (formCoupled s.coupled s.decks.d0 s.decks.d1).wG = some g from formed]
      rfl

end Sys2Proof.Machine
end

section
/-! The zero of a deck (R37 to R39), and the staged edit of its record (R26, R27, R31). -/

namespace Sys2Proof.Machine

/-! ### Zero tracking (R38, R39) -/

theorem State.trackingDue_iff {s : State} {d : Deck} : s.trackingDue d = true ↔
    (s.deck d).cal.committed.zeroTracking = 1 ∧ (s.deck d).cal.state = .inService ∧ s.holders.get d = none
      ∧ s.claims.get d = [] ∧ (s.deck d).weight.reading.status = .valid ∧ (s.deck d).weight.reading.stable = true
      ∧ (∃ g, (s.deck d).weight.reading.wG = some g ∧ (g.natAbs : Int) ≤ 500 * (s.deck d).cal.committed.division)
      ∧ ∀ ms, (s.deck d).weight.trackMs = some ms → 1000 ≤ ms := by
  simp [State.trackingDue, and_assoc, Option.any_eq_true, Option.all_eq_true]

theorem limitZero_eq {limit : Int} (h : 0 ≤ limit) (v : Int) : limitZero limit v = max (-limit) (min limit v) := by
  unfold limitZero
  split
  · omega
  · split <;> omega

/-- A step of zero tracking is cut exactly where Z + W_g lies beyond the limits. -/
theorem limitZero_ne_iff {limit : Int} (_ : 0 ≤ limit) (v : Int) : limitZero limit v ≠ v ↔ v < -limit ∨ limit < v := by
  unfold limitZero
  split
  · omega
  · split <;> omega

theorem zeroLimitOf_nonneg (capacity : Nat) : 0 ≤ zeroLimitOf capacity := by
  unfold zeroLimitOf
  omega

theorem State.trackingStep_eq (s : State) (d : Deck) {g : Int} (wG : (s.deck d).weight.reading.wG = some g) :
    let u := s.deck d
    let limit := zeroLimitOf u.cal.committed.capacity
    let target := u.weight.zero + g
    s.trackingStep d = { s with
      decks := s.decks.set d { u with
        weight := { u.weight with
          zero := max (-limit) (min limit target)
          zeroLimit := u.weight.zeroLimit || decide (target < -limit ∨ limit < target)
          trackMs := some 0 } }
      notices :=
        if (target < -limit ∨ limit < target) ∧ u.weight.zeroLimit = false then
          s.announced [s.notice .zeroLimit none (some d) 0 0 []]
        else s.notices } := by
  have limit := zeroLimitOf_nonneg (s.deck d).cal.committed.capacity
  unfold State.trackingStep
  simp only [wG, Option.getD_some, limitZero_ne_iff limit, Bool.and_eq_true, Bool.not_eq_true', decide_eq_true_eq]
  rw [limitZero_eq limit]
  split
  · apply State.raiseNotice_eq (s := s) <;> rfl
  · rfl

/-! ### A DECK class request that reaches its block -/

section DeckRequest

variable {s t : State} {r : Req} {b code : Byte} {d : Deck} {k : Deck → Handler}

theorem State.takeRequest_deckOut (out : 2 ≤ b.toNat) (h : s.Takes r) :
    s.takeRequest r code false (deckControl r b k) = s.refusedWith r code .range := by
  rw [deckControl_out out, State.takeRequest_outOfRange h]

theorem State.takeRequest_deckRefused (hb : b.toNat = d.toNat) (h : s.Controls r .yard .deck) {result : Result}
    (hk : k d (s.heard r.station) = (s.heard r.station, .plain result)) :
    s.takeRequest r code false (deckControl r b k) = s.refusedWith r code result :=
  State.takeRequest_refused h.1 ((deckControl_passes hb h k).trans hk)

theorem State.takeRequest_deckTaken (hb : b.toNat = d.toNat) (h : s.Controls r .yard .deck)
    (hk : k d (s.heard r.station) = (t, .plain .ok)) :
    s.takeRequest r code false (deckControl r b k) = t.acked r code :=
  State.takeRequest_acked h.1 ((deckControl_passes hb h k).trans hk)

end DeckRequest

/-- ZERO with its first failing check, or taken. -/
theorem execZero_eq {s : State} {r : Req} {b : Byte} {d : Deck} (hb : b.toNat = d.toNat) (h : s.Controls r .yard .deck) :
    execZero r b s = .next (match s.zeroRefusal d with
      | some reason => s.refusedWith r 0x13 reason
      | none => ((s.heard r.station).zeroDeck d).acked r 0x13) := by
  refine congrArg Host.Outcome.next ?_
  cases refusal : s.zeroRefusal d with
  | some reason =>
    refine State.takeRequest_deckRefused hb h ?_
    show (match s.zeroRefusal d with | some reason => _ | none => _) = _
    rw [refusal]
  | none =>
    refine State.takeRequest_deckTaken hb h ?_
    show (match s.zeroRefusal d with | some reason => _ | none => _) = _
    rw [refusal]

/-- The checks of ZERO, the last of them over natural numbers. -/
theorem State.zeroRefusal_eq (s : State) (d : Deck) : s.zeroRefusal d =
    if (s.deck d).cal.state ≠ .inService then some .wrongState
    else if s.holders.get d ≠ none then some .deckClaimed
    else if (s.deck d).weight.reading.status ≠ .valid then some .status
    else if (s.deck d).weight.reading.stable = false then some .motion
    else if (s.deck d).cal.committed.capacity * 1000 / 50 < ((s.deck d).weight.reading.wAvg.getD 0).natAbs then some .range
    else none := by
  have far : zeroLimitOf (s.deck d).cal.committed.capacity < (((s.deck d).weight.reading.wAvg.getD 0).natAbs : Int)
      ↔ (s.deck d).cal.committed.capacity * 1000 / 50 < ((s.deck d).weight.reading.wAvg.getD 0).natAbs := by
    unfold zeroLimitOf
    omega
  unfold State.zeroRefusal
  simp only [far, Option.ne_none_iff_isSome]

/-- Settles O30: the conditions of a tracking step, and the checks of ZERO in their order. -/
theorem deckZeroIsSet : Obligations.DeckZeroIsSet := by
  refine ⟨fun s d => ⟨fun early => if_neg (mt State.trackingDue_iff.1 early), fun due g limit wG eq => ?_⟩,
    fun s r b => ⟨fun out h => congrArg _ (State.takeRequest_deckOut out h), fun d hb h => ?_⟩⟩
  · subst eq
    exact (if_pos (State.trackingDue_iff.2 due)).trans (s.trackingStep_eq d wG)
  · have zero := execZero_eq (b := b) hb h
    rw [State.zeroRefusal_eq] at zero
    refine ⟨fun state => ?_, fun state => ⟨fun held => ?_, fun free => ⟨fun status => ?_, fun status => ⟨fun moves => ?_,
      fun stable => ⟨fun far => ?_, fun avg near wAvg => ?_⟩⟩⟩⟩⟩
    · rw [if_pos state] at zero
      exact zero
    · rw [if_neg (not_not_intro state), if_pos held] at zero
      exact zero
    · rw [if_neg (not_not_intro state), if_neg (not_not_intro free), if_pos status] at zero
      exact zero
    · rw [if_neg (not_not_intro state), if_neg (not_not_intro free), if_neg (not_not_intro status), if_pos moves] at zero
      exact zero
    · rw [if_neg (not_not_intro state), if_neg (not_not_intro free), if_neg (not_not_intro status),
        if_neg (ne_false_of_eq_true stable), if_pos far] at zero
      exact zero
    · rw [if_neg (not_not_intro state), if_neg (not_not_intro free), if_neg (not_not_intro status),
        if_neg (ne_false_of_eq_true stable), if_neg near] at zero
      refine zero.trans (congrArg _ ((State.acked_eq (s := s) (t := (s.heard r.station).zeroDeck d) rfl).trans ?_))
      unfold State.zeroDeck
      simp only [State.heard_deck, wAvg, Option.getD_some]
      rfl

/-! ### The staged edit (R26, R27, R31) -/

theorem CalPair.list_ok_iff {pairs : List CalPair} :
    (!pairs.isEmpty && pairs.all CalPair.ok) = true ↔ pairs ≠ [] ∧ ∀ p ∈ pairs, CalPair.ok p = true := by
  simp

/-- The block of CAL_WRITE once the deck and the pairs are found in their sets. -/
theorem execCalWrite_taken {s t : State} {r : Req} {b : Byte} {d : Deck} {pairs : List CalPair} {result : Result}
    (hb : b.toNat = d.toNat) (h : s.Controls r .yard .deck) (ok : (!pairs.isEmpty && pairs.all CalPair.ok) = true)
    (ports : t.ports = (s.heard r.station).ports)
    (hk : (match (s.heard r.station).editCopy? d with
      | none => (s.heard r.station, Answer.plain .wrongState)
      | some e => ((s.heard r.station).setDeck d { s.deck d with
          cal := { (s.deck d).cal with edit := some (pairs.foldl (fun r p => CalPair.write p r) e) } }, .plain .ok))
        = (t, .plain result)) :
    execCalWrite r b pairs s = .next { t with ports := s.reply r 0x15 result false .none } := by
  unfold execCalWrite
  rw [withDeck_some (Deck.ofNat?_of_eq hb), ok, inRange_true]
  exact congrArg _ (State.takeRequest_controlled h hk ports)

/-- Settles O31: each request's checks in their order, and what it makes of the deck. -/
theorem editsAreStaged : Obligations.EditsAreStaged := by
  refine ⟨fun s r b pairs out h => ⟨congrArg _ (State.takeRequest_deckOut out h), ?_,
    congrArg _ (State.takeRequest_deckOut out h)⟩, fun s r b d hb h => ⟨fun sealed => ?_, fun open_ state => ?_,
    fun open_ state => ⟨fun held => ?_, fun free => ?_⟩, fun pairs => ⟨fun bad => ?_, fun given ok => ⟨fun state => ?_,
    fun e state edit => ?_⟩⟩, fun state => ?_, fun old state preEdit => ?_⟩⟩
  · show execCalWrite r b pairs s = _
    unfold execCalWrite
    rw [withDeck_none (Deck.ofNat?_of_two_le out), State.takeRequest_outOfRange h]
  · exact congrArg _ (State.takeRequest_deckRefused hb h (if_pos sealed))
  · exact congrArg _ (State.takeRequest_deckRefused hb h
      ((if_neg (ne_false_of_eq_true open_)).trans (if_pos state)))
  · exact congrArg _ (State.takeRequest_deckRefused hb h ((if_neg (ne_false_of_eq_true open_)).trans
      ((if_neg state).trans (if_pos (Option.ne_none_iff_isSome.1 held)))))
  · refine congrArg _ ((State.takeRequest_deckTaken (t := (s.heard r.station).openEdit d) hb h
      ((if_neg (ne_false_of_eq_true open_)).trans ((if_neg state).trans (if_neg ?_)))).trans
      (State.acked_eq rfl))
    exact fun held => absurd free (Option.ne_none_iff_isSome.2 held)
  · show execCalWrite r b pairs s = _
    have refused : (!pairs.isEmpty && pairs.all CalPair.ok) = false := by
      refine Bool.eq_false_iff.2 fun ok => ?_
      obtain ⟨given, all⟩ := CalPair.list_ok_iff.1 ok
      obtain none | ⟨p, mem, out⟩ := bad
      · exact given none
      · exact Bool.noConfusion ((all p mem).symm.trans out)
    unfold execCalWrite
    rw [withDeck_some (Deck.ofNat?_of_eq hb), refused, inRange_false, State.takeRequest_outOfRange h.1]
  · refine execCalWrite_taken (t := s.heard r.station) hb h (CalPair.list_ok_iff.2 ⟨given, ok⟩) rfl ?_
    rw [show (s.heard r.station).editCopy? d = none from if_neg state]
  · refine (execCalWrite_taken (t := (s.heard r.station).setDeck d { s.deck d with
      cal := { (s.deck d).cal with edit := some (pairs.foldl (fun r p => CalPair.write p r) e) } })
      hb h (CalPair.list_ok_iff.2 ⟨given, ok⟩) rfl ?_)
    rw [show (s.heard r.station).editCopy? d = some e from (if_pos state).trans edit]
  · exact congrArg _ (State.takeRequest_deckRefused hb h (if_neg state))
  · refine congrArg _ ((State.takeRequest_deckTaken hb h (if_pos state)).trans ?_)
    have discarded : (s.deck d).discardEdit = { s.deck d with
        cal := { state := old, preEdit := none, committed := (s.deck d).cal.committed, edit := none } } := by
      unfold DeckUnit.discardEdit
      rw [if_pos state, preEdit]
      rfl
    rw [State.heard_deck, discarded]
    rfl

end Sys2Proof.Machine
end

section
/-! Barriers (3.3 to 3.5): what a barrier answers to a request, a limit, a beam and a timer, and what reaches its lane. -/

namespace Sys2Proof.Machine

/-! ### A barrier put back on its lane -/

section PutBarrier

variable (s : State) (l : Lane) (i : BarrierId) (b : Barrier)

theorem State.putBarrier_withBarrier (r : BarrierStep) : s.putBarrier l i r = s.withBarrier l i r.fell r.barrier := by
  rw [State.putBarrier_eq]
  cases i <;> rfl

theorem State.withBarrier_same : s.withBarrier l i false ((s.lane l).barrier i) = s := by
  have unit : ({ (s.lane l).setBarrier i ((s.lane l).barrier i) with go := (s.lane l).go && !false } : LaneUnit) = s.lane l := by
    rw [Bool.not_false, Bool.and_true]
    cases i <;> rfl
  have lanes : s.lanes.set l (s.lane l) = s.lanes := PerLane.set_get ..
  unfold State.withBarrier
  cases i <;> exact (congrArg (fun u => ({ s with lanes := s.lanes.set l u } : State)) unit).trans
    (congrArg (fun p => ({ s with lanes := p } : State)) lanes)

theorem State.putBarrier_quiet_same (r : BarrierStep) (same : r.barrier = (s.lane l).barrier i) (still : r.fell = false) :
    s.putBarrier l i r = s := by
  rw [State.putBarrier_withBarrier, same, still, State.withBarrier_same]

end PutBarrier

/-! ### Requests (R46, R47, R50, R51) -/

section Requests

variable {t : BarrierTimes} {b : Barrier}

theorem Barrier.raiseRequest_none {estop : Bool} (h : b.state = .fault ∨ estop = true) :
    (b.raiseRequest t estop).barrier = b ∧ (b.raiseRequest t estop).fell = false := by
  unfold Barrier.raiseRequest
  obtain fault | rfl := h
  · rw [if_pos fault]
    exact ⟨rfl, rfl⟩
  · split <;> exact ⟨rfl, rfl⟩

theorem Barrier.lowerRequest_none {estop : Bool} (h : b.state = .fault ∨ estop = true) :
    (b.lowerRequest t estop).barrier = b ∧ (b.lowerRequest t estop).fell = false := by
  unfold Barrier.lowerRequest
  obtain fault | rfl := h
  · rw [if_pos fault]
    exact ⟨rfl, rfl⟩
  · split <;> exact ⟨rfl, rfl⟩

/-- A raise that begins a movement, or that finds its limit active. -/
theorem Barrier.raiseRequest_moves (h : b.state = .down ∨ b.state = .stopped ∨ b.state = .falling) :
    b.raiseRequest t false = ({ b with lowerPending := false } : Barrier).enterRising t (decide (b.state = .down)) := by
  obtain h | h | h := h <;> simp [Barrier.raiseRequest, h]

theorem Barrier.raiseRequest_stands (h : b.state = .rising ∨ b.state = .up) :
    b.raiseRequest t false = ({ b with lowerPending := false } : Barrier).quiet := by
  obtain h | h := h <;> simp [Barrier.raiseRequest, h]

theorem Barrier.enterRising_free (fromDown : Bool) (up : b.upLimit = false) : b.enterRising t fromDown =
    ({ b with state := .rising, travel := some t.travel, leaveLimit := fromDown } : Barrier).quiet :=
  if_neg (Bool.eq_false_iff.1 up)

/-- A rise whose limit is active ends at once; with no lowering pending, in UP. -/
theorem Barrier.enterRising_there (fromDown : Bool) (up : b.upLimit = true)
    (still : b.lowerPending = false ∨ b.settled = false) : b.enterRising t fromDown =
      ({ b with state := .up, travel := none, leaveLimit := false } : Barrier).quiet := by
  refine (if_pos up).trans (if_neg fun falls => ?_)
  obtain ⟨pending, settled⟩ := Bool.and_eq_true_iff.1 falls
  obtain clear | unsettled := still
  · exact Bool.noConfusion (clear.symm.trans pending)
  · exact Bool.noConfusion (unsettled.symm.trans settled)

theorem Barrier.enterFalling_free (fromUp : Bool) (down : b.downLimit = false) : b.enterFalling t fromUp =
    { b with state := .falling, lowerPending := false, travel := some t.travel, leaveLimit := fromUp } :=
  if_neg (Bool.eq_false_iff.1 down)

theorem Barrier.enterFalling_there (fromUp : Bool) (down : b.downLimit = true) : b.enterFalling t fromUp =
    { b with state := .down, travel := none, leaveLimit := false, reversals := 0, lowerPending := false } :=
  if_pos down

theorem Barrier.lowerRequest_new (h : b.state = .up ∨ b.state = .stopped) (clear : b.lowerPending = false) :
    b.lowerRequest t false = b.newLower t := by
  obtain h | h := h <;> simp [Barrier.lowerRequest, h, clear]

theorem Barrier.newLower_falls (settled : b.settled = true) (clear : b.lowerPending = false) (free : b.downLimit = false) :
    b.newLower t = ({ b with
      state := .falling, reversals := 0, travel := some t.travel, leaveLimit := decide (b.state = .up) } : Barrier).fallen := by
  refine (if_pos settled).trans (congrArg Barrier.fallen ((Barrier.enterFalling_free (b := { b with reversals := 0 }) _ free).trans ?_))
  simp only [clear]

/-- A lowering whose limit is active ends at once in DOWN. -/
theorem Barrier.newLower_there (settled : b.settled = true) (clear : b.lowerPending = false) (there : b.downLimit = true) :
    b.newLower t = ({ b with state := .down, reversals := 0, travel := none, leaveLimit := false } : Barrier).fallen := by
  refine (if_pos settled).trans (congrArg Barrier.fallen ((Barrier.enterFalling_there (b := { b with reversals := 0 }) _ there).trans ?_))
  simp only [clear]

theorem Barrier.newLower_waits (unsettled : b.settled = false) : b.newLower t =
    ({ b with reversals := 0, lowerPending := true } : Barrier).quiet := if_neg (Bool.eq_false_iff.1 unsettled)

theorem Barrier.lowerRequest_rising (h : b.state = .rising) (clear : b.lowerPending = false) :
    b.lowerRequest t false = ({ b with reversals := 0, lowerPending := true } : Barrier).quiet := by
  simp [Barrier.lowerRequest, h, clear]

theorem Barrier.lowerRequest_stands (h : b.state = .falling ∨ b.state = .down ∨ b.lowerPending = true) :
    (b.lowerRequest t false).barrier = b ∧ (b.lowerRequest t false).fell = false := by
  unfold Barrier.lowerRequest
  obtain h | h | h := h
  · simp [h, Barrier.quiet]
  · simp [h, Barrier.quiet]
  · cases state : b.state <;> simp [h, Barrier.quiet]

theorem Barrier.settled_iff {b : Barrier} : b.settled = true ↔ b.beamBroken = false ∧ b.clearDelay = none := by
  rw [Barrier.settled_eq, decide_eq_true_eq]

end Requests

/-- What the requests of a lane to one of its barriers do. -/
theorem State.askRaise_askLower (s : State) (l : Lane) (i : BarrierId) :
    let b := (s.lane l).barrier i
    let time := (s.laneSettings l).travel
    let settled := b.beamBroken = false ∧ b.clearDelay = none
    (b.state = .fault ∨ s.estop = true → s.askRaise l i = s ∧ s.askLower l i = s)
    ∧ (s.estop = false →
      (b.state = .down → b.upLimit = false →
        s.askRaise l i = s.withBarrier l i false
          { b with state := .rising, lowerPending := false, travel := some time, leaveLimit := true })
      ∧ (b.state = .stopped ∨ b.state = .falling → b.upLimit = false →
        s.askRaise l i = s.withBarrier l i false
          { b with state := .rising, lowerPending := false, travel := some time, leaveLimit := false })
      ∧ (b.state = .down ∨ b.state = .stopped ∨ b.state = .falling → b.upLimit = true →
        s.askRaise l i = s.withBarrier l i false
          { b with state := .up, lowerPending := false, travel := none, leaveLimit := false })
      ∧ (b.state = .rising ∨ b.state = .up →
        s.askRaise l i = s.withBarrier l i false { b with lowerPending := false })
      ∧ (b.state = .up ∨ b.state = .stopped → b.lowerPending = false → settled → b.downLimit = false →
        s.askLower l i = s.withBarrier l i true
          { b with state := .falling, reversals := 0, travel := some time, leaveLimit := decide (b.state = .up) })
      ∧ (b.state = .up ∨ b.state = .stopped → b.lowerPending = false → settled → b.downLimit = true →
        s.askLower l i = s.withBarrier l i true
          { b with state := .down, reversals := 0, travel := none, leaveLimit := false })
      ∧ ((b.state = .up ∨ b.state = .stopped) ∧ ¬settled ∨ b.state = .rising → b.lowerPending = false →
        s.askLower l i = s.withBarrier l i false { b with reversals := 0, lowerPending := true })
      ∧ (b.state = .falling ∨ b.state = .down ∨ b.lowerPending = true → s.askLower l i = s)) := by
  have raise (x : Barrier) (answers : s.raiseStep l i = x.quiet) : s.askRaise l i = s.withBarrier l i false x := by
    unfold State.askRaise
    rw [State.putBarrier_withBarrier, answers]
    rfl
  have lower (fell : Bool) (x : Barrier) (answers : s.lowerStep l i = { x.quiet with fell := fell }) :
      s.askLower l i = s.withBarrier l i fell x := by
    unfold State.askLower
    rw [State.putBarrier_withBarrier, answers]
    rfl
  refine ⟨fun none => ?_, fun estop => ?_⟩
  · obtain ⟨up, _⟩ := Barrier.raiseRequest_none (t := (s.laneSettings l).times) none
    obtain ⟨down, _⟩ := Barrier.lowerRequest_none (t := (s.laneSettings l).times) none
    exact ⟨s.putBarrier_quiet_same l i _ up ‹_›, s.putBarrier_quiet_same l i _ down ‹_›⟩
  · have raiseStep : s.raiseStep l i = ((s.lane l).barrier i).raiseRequest (s.laneSettings l).times false := by
      rw [State.raiseStep, estop]
    have lowerStep : s.lowerStep l i = ((s.lane l).barrier i).lowerRequest (s.laneSettings l).times false := by
      rw [State.lowerStep, estop]
    refine ⟨fun down free => ?_, fun rests free => ?_, fun moves there => ?_, fun stands => ?_,
      fun rests clear settled free => ?_, fun rests clear settled there => ?_, fun waits clear => ?_, fun stands => ?_⟩
    · refine raise _ (raiseStep.trans ((Barrier.raiseRequest_moves (.inl down)).trans ?_))
      rw [decide_eq_true down]
      exact Barrier.enterRising_free true free
    · refine raise _ (raiseStep.trans ((Barrier.raiseRequest_moves (.inr rests)).trans ?_))
      rw [decide_eq_false (by obtain h | h := rests <;> rw [h] <;> decide)]
      exact Barrier.enterRising_free false free
    · exact raise _ (raiseStep.trans ((Barrier.raiseRequest_moves moves).trans (Barrier.enterRising_there _ there (.inl rfl))))
    · exact raise _ (raiseStep.trans (Barrier.raiseRequest_stands stands))
    · exact lower true _ (lowerStep.trans ((Barrier.lowerRequest_new rests clear).trans
        (Barrier.newLower_falls (Barrier.settled_iff.2 settled) clear free)))
    · exact lower true _ (lowerStep.trans ((Barrier.lowerRequest_new rests clear).trans
        (Barrier.newLower_there (Barrier.settled_iff.2 settled) clear there)))
    · obtain ⟨rests, unsettled⟩ | rising := waits
      · exact lower false _ (lowerStep.trans ((Barrier.lowerRequest_new rests clear).trans
          (Barrier.newLower_waits (Bool.eq_false_iff.2 (mt Barrier.settled_iff.1 unsettled)))))
      · exact lower false _ (lowerStep.trans (Barrier.lowerRequest_rising rising clear))
    · obtain ⟨same, still⟩ := Barrier.lowerRequest_stands (t := (s.laneSettings l).times) stands
      refine s.putBarrier_quiet_same l i _ ?_ ?_
      · rw [lowerStep, same]
      · rw [lowerStep, still]

/-! ### The manual request (R57) -/

theorem State.setBarrier_eq (s : State) (l : Lane) (i : BarrierId) (b : Barrier) :
    s.setBarrier l i b = s.withBarrier l i false b := by
  unfold State.withBarrier
  simp only [Bool.false_and, Bool.not_false, Bool.and_true]
  cases i <;> rfl

theorem BarrierId.ofNat?_of_eq {n : Nat} {i : BarrierId} (h : n = i.toNat) : BarrierId.ofNat? n = some i := by
  subst h
  cases i <;> rfl

theorem BarrierId.ofNat?_eq_none {n : Nat} (h : 2 ≤ n) : BarrierId.ofNat? n = none := by
  match n, h with
  | _ + 2, _ => rfl

theorem barrierRequest_out {r : Req} {x y : Byte} (out : 4 ≤ x.toNat ∨ 2 ≤ y.toNat) (k : Lane → BarrierId → Handler) :
    barrierRequest r x y k = refuse .range := by
  unfold barrierRequest
  cases named : Lane.ofNat? x.toNat with
  | none => rw [withLane_none named]
  | some l =>
    obtain out | out := out
    · rw [Lane.ofNat?_eq_none out] at named
      exact nomatch named
    · rw [withLane_some named, BarrierId.ofNat?_eq_none out]

section Manual

variable {s t : State} {r : Req} {x y : Byte} {l : Lane} {i : BarrierId} {k : Lane → BarrierId → Handler}

theorem barrierRequest_eq (hx : x.toNat = l.toNat) (hy : y.toNat = i.toNat) (h : s.Controls r (.lane l) .lane) :
    barrierRequest r x y k (s.heard r.station) =
      if (s.lane l).state ≠ .hold ∨ s.estop = true then (s.heard r.station, .plain .wrongState)
      else k l i (s.heard r.station) := by
  unfold barrierRequest
  rw [withLane_some (Lane.ofNat?_of_eq hx), BarrierId.ofNat?_of_eq hy]
  simp only
  rw [needControl_controls h]
  show (if (s.lane l).state ≠ .hold then _ else if s.estop = true then _ else _) = _
  by_cases held : (s.lane l).state = .hold
  · rw [if_neg (not_not_intro held)]
    exact ite_of_iff (or_iff_right (not_not_intro held)).symm rfl rfl
  · rw [if_pos held, if_pos (.inl held)]

/-- A manual request to a lane in HOLD, ESTOP not being active, comes to its block. -/
theorem State.takeRequest_barrier (hx : x.toNat = l.toNat) (hy : y.toNat = i.toNat) (h : s.Controls r (.lane l) .lane)
    (held : (s.lane l).state = .hold) (free : s.estop = false) {result : Result}
    (hk : k l i (s.heard r.station) = (t, .plain result)) (ports : t.ports = (s.heard r.station).ports) :
    s.takeRequest r 0x21 false (barrierRequest r x y k) = { t with ports := s.reply r 0x21 result false .none } := by
  refine s.takeRequest_replied r 0x21 false _ h.1 ?_ ports
  rw [barrierRequest_eq hx hy h, if_neg (by simp [held, free])]
  exact hk

end Manual

/-- Settles O34: the requests by the barrier's state, and the manual request by the lane's and the barrier's. -/
theorem barriersTakeRequests : Obligations.BarriersTakeRequests := by
  refine ⟨State.askRaise_askLower, fun s r x y out h => ?_, fun s r x y l i hx hy h => ⟨fun other => ?_, fun held free =>
    ⟨fun fault => ?_, fun works => ?_, fun fault apart => ?_, fun fault up down => ?_⟩⟩⟩
  · refine ⟨congrArg Host.Outcome.next ?_, congrArg Host.Outcome.next ?_, congrArg Host.Outcome.next ?_⟩ <;>
      rw [barrierRequest_out out, State.takeRequest_outOfRange h]
  · refine ⟨congrArg Host.Outcome.next ?_, congrArg Host.Outcome.next ?_, congrArg Host.Outcome.next ?_⟩ <;>
      exact State.takeRequest_refused h.1 ((barrierRequest_eq hx hy h).trans (if_pos other))
  · have faulted : s.faulted l i = true := decide_eq_true fault
    exact ⟨congrArg _ (State.takeRequest_barrier hx hy h held free (if_pos faulted) rfl),
      congrArg _ (State.takeRequest_barrier hx hy h held free (if_pos faulted) rfl)⟩
  · have sound : s.faulted l i = false := decide_eq_false works
    refine ⟨congrArg Host.Outcome.next ?_, congrArg Host.Outcome.next ?_,
      congrArg _ (State.takeRequest_barrier hx hy h held free (if_pos sound) rfl)⟩
    · exact (State.takeRequest_barrier (t := (s.heard r.station).askRaise l i) hx hy h held free
        (if_neg (Bool.eq_false_iff.1 sound)) rfl).trans (State.acked_eq (t := (s.heard r.station).askRaise l i) rfl).symm
    · exact (State.takeRequest_barrier (t := (s.heard r.station).askLower l i) hx hy h held free
        (if_neg (Bool.eq_false_iff.1 sound)) rfl).trans (State.acked_eq (t := (s.heard r.station).askLower l i) rfl).symm
  · have faulted : ¬s.faulted l i = false := ne_false_of_eq_true (decide_eq_true fault)
    have room : ¬(((s.lane l).barrier i).upLimit && ((s.lane l).barrier i).downLimit) = true :=
      fun both => apart (Bool.and_eq_true_iff.1 both)
    refine congrArg _ ((State.takeRequest_barrier
      (t := (s.heard r.station).setBarrier l i ((s.lane l).barrier i).cleared) hx hy h held free
      ((if_neg faulted).trans (if_neg room)) rfl).trans ?_)
    rw [State.setBarrier_eq]
    rfl
  · have faulted : ¬s.faulted l i = false := ne_false_of_eq_true (decide_eq_true fault)
    have both : (((s.lane l).barrier i).upLimit && ((s.lane l).barrier i).downLimit) = true :=
      Bool.and_eq_true_iff.2 ⟨up, down⟩
    refine congrArg _ ((State.takeRequest_barrier
      (t := (s.heard r.station).setBarrier l i { (s.lane l).barrier i with cause := some .limits }) hx hy h held free
      ((if_neg faulted).trans (if_pos both)) rfl).trans ?_)
    rw [State.setBarrier_eq]
    rfl

end Sys2Proof.Machine
end

section
/-! Limits, beams and timers of barriers (R48 to R55), and the yard's inputs (R24, R31, R56, R87, R182, R183). -/

namespace Sys2Proof.Machine

/-! ### What a barrier's event makes of its lane -/

/-- A lane that has been held stands in CLOSED, IDLE or HOLD. -/
theorem State.hold_state (s : State) (l : Lane) (reason : HoldReason) :
    ((s.hold l reason).lane l).state = .closed ∨ ((s.hold l reason).lane l).state = .idle
      ∨ ((s.hold l reason).lane l).state = .hold := by
  have entered : ((s.enterHold l reason).lane l).state = .hold := by
    rw [State.enterHold_lane]
    rfl
  unfold State.hold
  split
  next closed => exact .inl closed
  next idle =>
    split
    · exact .inr (.inr entered)
    · exact .inr (.inl idle)
  next held => exact .inr (.inr ((congrArg LaneUnit.state ((State.lane_setLane ..).trans (if_pos rfl))).trans held))
  next => exact .inr (.inr entered)

/-- The condition of a state waits for nothing in CLOSED, IDLE and HOLD. -/
theorem State.evalPassage_hold (s : State) (l : Lane) (reason : HoldReason) :
    (s.hold l reason).evalPassage l = s.hold l reason := by
  unfold State.evalPassage
  obtain h | h | h := s.hold_state l reason <;> rw [h]

section BarrierEvent

variable (s : State) (l : Lane) (i : BarrierId) (b : Barrier)

theorem State.barrierEvent_moves (fell : Bool) :
    s.barrierEvent l i { b.quiet with fell := fell } = (s.withBarrier l i fell b).evalPassage l := by
  unfold State.barrierEvent State.takeBarrier
  rw [State.putBarrier_withBarrier]
  rfl

theorem State.barrierEvent_fault (cause : FaultCause) : s.barrierEvent l i (b.enterFault cause) =
    ({ (s.withBarrier l i false { b with
        state := .fault, cause := some cause, travel := none, leaveLimit := false, lowerPending := false }) with
      notices := s.announced [s.notice .barrierFault (some l) none 0 (3 * i.toNat + cause.toNat) []] } : State).hold l
        .barrierFault := by
  unfold State.barrierEvent State.takeBarrier
  rw [State.putBarrier_withBarrier]
  show (((s.withBarrier l i false _).raiseNotice _ _ _ _ _ _).hold l .barrierFault).evalPassage l = _
  rw [State.evalPassage_hold]
  refine congrArg (fun t : State => t.hold l .barrierFault) ?_
  apply State.raiseNotice_eq (s := s) <;> rfl

theorem State.barrierEvent_obstructed : s.barrierEvent l i { b.quiet with obstructed := true } =
    ({ (s.withBarrier l i false b) with
      notices := s.announced [s.notice .obstructed (some l) none 0 i.toNat []] } : State).hold l .obstructed := by
  unfold State.barrierEvent State.takeBarrier
  rw [State.putBarrier_withBarrier]
  show (((s.withBarrier l i false _).raiseNotice _ _ _ _ _ _).hold l .obstructed).evalPassage l = _
  rw [State.evalPassage_hold]
  refine congrArg (fun t : State => t.hold l .obstructed) ?_
  apply State.raiseNotice_eq (s := s) <;> rfl

end BarrierEvent

/-! ### A limit changes (R49, R50, R52, R54) -/

theorem Barrier.setLimit_eq_iff {b : Barrier} {limit : Limit} {active : Bool} :
    b.setLimit limit active = b ↔ b.limit limit = active := by
  obtain ⟨⟩ := b
  cases limit <;> simp [Barrier.setLimit, Barrier.limit, eq_comm]

section LimitMove

variable {t : BarrierTimes} {b : Barrier} {limit : Limit} {active : Bool}

theorem Barrier.limitMove_falls (h : b.state = .rising ∨ b.state = .stopped) (pending : b.lowerPending = true)
    (settled : b.settled = true) (free : b.downLimit = false) : b.limitMove t .up true =
      ({ b with state := .falling, lowerPending := false, travel := some t.travel, leaveLimit := true } : Barrier).fallen := by
  obtain ⟨broken, delay⟩ := Barrier.settled_iff.1 settled
  obtain h | h := h <;>
    simp [Barrier.limitMove, h, Barrier.arriveUp, Barrier.resumeFall, Barrier.settled, pending, broken, delay,
      Barrier.enterFalling, free]

theorem Barrier.limitMove_arrivesUp (h : b.state = .rising) (stays : ¬(b.lowerPending = true ∧ b.settled = true)) :
    b.limitMove t .up true = ({ b with state := .up, travel := none, leaveLimit := false } : Barrier).quiet := by
  simp only [Barrier.limitMove, h]
  exact if_neg fun falls => stays (Bool.and_eq_true_iff.1 falls)

theorem Barrier.limitMove_standsUp (h : b.state = .stopped) (stays : ¬(b.lowerPending = true ∧ b.settled = true)) :
    b.limitMove t .up true = ({ b with state := .up } : Barrier).quiet := by
  simp only [Barrier.limitMove, h]
  exact if_neg fun falls => stays (Bool.and_eq_true_iff.1 falls)

theorem Barrier.limitMove_arrivesDown (h : b.state = .falling ∨ b.state = .stopped) :
    b.limitMove t .down true = b.arriveDown.quiet := by
  obtain h | h := h <;> simp [Barrier.limitMove, h]

theorem Barrier.limitMove_leaves (h : b.state = .rising ∧ limit = .down ∨ b.state = .falling ∧ limit = .up) :
    b.limitMove t limit false = ({ b with leaveLimit := false } : Barrier).quiet := by
  obtain ⟨h, rfl⟩ | ⟨h, rfl⟩ := h <;> simp [Barrier.limitMove, h]

theorem Barrier.limitMove_movedAtRest (h : b.state = .down ∧ limit = .down ∨ b.state = .up ∧ limit = .up) :
    b.limitMove t limit false = ({ b with state := .stopped } : Barrier).quiet := by
  obtain ⟨h, rfl⟩ | ⟨h, rfl⟩ := h <;> simp [Barrier.limitMove, h]

/-- The changes that touch neither a movement nor a rest. -/
theorem Barrier.limitMove_none
    (h : (b.state = .rising ∧ limit = .up ∨ b.state = .falling ∧ limit = .down ∨ b.state = .stopped) ∧ active = false
      ∨ (b.state = .rising ∧ limit = .down ∨ b.state = .falling ∧ limit = .up) ∧ active = true
      ∨ b.state = .down ∧ (limit = .up ∨ active = true) ∨ b.state = .up ∧ (limit = .down ∨ active = true)) :
    b.limitMove t limit active = b.quiet := by
  cases state : b.state <;> cases limit <;> cases active <;> simp_all [Barrier.limitMove]

end LimitMove

/-- A limit changes, the level that results standing in `m`. -/
theorem State.limitChange_eq (s : State) (l : Lane) (i : BarrierId) (limit : Limit) (active : Bool) :
    let b := (s.lane l).barrier i
    let m := b.setLimit limit active
    let time := (s.laneSettings l).travel
    let settled := b.beamBroken = false ∧ b.clearDelay = none
    let becomes := fun (fell : Bool) (x : Barrier) =>
      execLimitChange l i limit active s = .next ((s.withBarrier l i fell x).evalPassage l)
    (s.phase.rank < 1 ∨ m = b → execLimitChange l i limit active s = .next s)
    ∧ (1 ≤ s.phase.rank → m ≠ b →
      (b.state = .fault → becomes false m)
      ∧ (b.state ≠ .fault → m.upLimit = true → m.downLimit = true →
        execLimitChange l i limit active s =
          .next (({ (s.withBarrier l i false { m with
            state := .fault
            cause := some .limits
            travel := none
            leaveLimit := false
            lowerPending := false }) with
            notices := s.announced [s.notice .barrierFault (some l) none 0 (3 * i.toNat + 2) []] } : State).hold l
              .barrierFault))
      ∧ (¬(m.upLimit = true ∧ m.downLimit = true) →
        (b.state = .rising ∨ b.state = .stopped → limit = .up → active = true → b.lowerPending = true → settled →
          becomes true { m with state := .falling, lowerPending := false, travel := some time, leaveLimit := true })
        ∧ (b.state = .rising → limit = .up → active = true → ¬(b.lowerPending = true ∧ settled) →
          becomes false { m with state := .up, travel := none, leaveLimit := false })
        ∧ (b.state = .stopped → limit = .up → active = true → ¬(b.lowerPending = true ∧ settled) →
          becomes false { m with state := .up })
        ∧ (b.state = .falling ∨ b.state = .stopped → limit = .down → active = true →
          becomes false { m with
            state := .down, travel := none, leaveLimit := false, reversals := 0, lowerPending := false })
        ∧ (b.state = .rising ∧ limit = .down ∨ b.state = .falling ∧ limit = .up → active = false →
          becomes false { m with leaveLimit := false })
        ∧ (b.state = .down ∧ limit = .down ∨ b.state = .up ∧ limit = .up → active = false →
          becomes false { m with state := .stopped })
        ∧ (b.state = .rising ∧ limit = .up ∨ b.state = .falling ∧ limit = .down ∨ b.state = .stopped → active = false →
          becomes false m)
        ∧ (b.state = .rising ∧ limit = .down ∨ b.state = .falling ∧ limit = .up → active = true → becomes false m)
        ∧ (b.state = .down ∧ (limit = .up ∨ active = true) ∨ b.state = .up ∧ (limit = .down ∨ active = true) →
          becomes false m))) := by
  intro b m time settled becomes
  have state : m.state = b.state := by cases limit <;> rfl
  have pending : m.lowerPending = b.lowerPending := by cases limit <;> rfl
  have rest : m.settled = true ↔ settled := by cases limit <;> exact Barrier.settled_iff
  refine ⟨fun unchanged => ?_, fun loaded changed => ?_⟩
  · refine congrArg _ (if_pos ?_)
    obtain early | same := unchanged
    · exact .inl (decide_eq_false (Nat.not_le.2 early))
    · exact .inr (Barrier.setLimit_eq_iff.1 same)
  · have event : execLimitChange l i limit active s =
        .next (s.barrierEvent l i (b.limitChange (s.laneSettings l).times limit active)) := by
      refine congrArg _ (if_neg ?_)
      rintro (early | same)
      · exact absurd loaded (of_decide_eq_false early)
      · exact changed (Barrier.setLimit_eq_iff.2 same)
    have moves (fell : Bool) (x : Barrier)
        (h : b.limitChange (s.laneSettings l).times limit active = { x.quiet with fell := fell }) : becomes fell x := by
      refine event.trans (congrArg _ ?_)
      rw [h, State.barrierEvent_moves]
    refine ⟨fun fault => moves false m (if_pos (state.trans fault)), fun sound up down => ?_, fun apart => ?_⟩
    · refine event.trans (congrArg _ ?_)
      have faults : b.limitChange (s.laneSettings l).times limit active = m.enterFault .limits :=
        (if_neg fun fault => sound (state.symm.trans fault)).trans (if_pos (Bool.and_eq_true_iff.2 ⟨up, down⟩))
      rw [faults, State.barrierEvent_fault]
      rfl
    · have room : ¬(m.upLimit && m.downLimit) = true := fun both => apart (Bool.and_eq_true_iff.1 both)
      have moved (fell : Bool) (x : Barrier) (sound : b.state ≠ .fault)
          (h : m.limitMove (s.laneSettings l).times limit active = { x.quiet with fell := fell }) : becomes fell x :=
        moves fell x ((if_neg fun fault => sound (state.symm.trans fault)).trans ((if_neg room).trans h))
      have other {st : BarrierState} (at' : b.state = st) (sound : st ≠ .fault) : b.state ≠ .fault := at' ▸ sound
      refine ⟨fun stands up on waits clear => ?_, fun rises up on stays => ?_, fun rests up on stays => ?_,
        fun stands down on => ?_, fun leaves off => ?_, fun rests off => ?_, fun none off => ?_, fun none on => ?_,
        fun none => ?_⟩
      · subst up on
        have free : m.downLimit = false := Bool.eq_false_iff.2 fun down => apart ⟨rfl, down⟩
        refine moved true _ (by obtain h | h := stands <;> exact other h (by decide)) ?_
        exact Barrier.limitMove_falls (b := m) stands waits (rest.2 clear) free
      · subst up on
        exact moved false _ (other rises (by decide))
          (Barrier.limitMove_arrivesUp (b := m) rises fun ⟨waits, clear⟩ => stays ⟨waits, rest.1 clear⟩)
      · subst up on
        exact moved false _ (other rests (by decide))
          (Barrier.limitMove_standsUp (b := m) rests fun ⟨waits, clear⟩ => stays ⟨waits, rest.1 clear⟩)
      · subst down on
        exact moved false _ (by obtain h | h := stands <;> exact other h (by decide))
          (Barrier.limitMove_arrivesDown (b := m) stands)
      · subst off
        refine moved false _ (by obtain ⟨h, _⟩ | ⟨h, _⟩ := leaves <;> exact other h (by decide))
          (Barrier.limitMove_leaves (b := m) ?_)
        rwa [state]
      · subst off
        refine moved false _ (by obtain ⟨h, _⟩ | ⟨h, _⟩ := rests <;> exact other h (by decide))
          (Barrier.limitMove_movedAtRest (b := m) ?_)
        rwa [state]
      · refine moved false _ (by obtain ⟨h, _⟩ | ⟨h, _⟩ | h := none <;> exact other h (by decide))
          (Barrier.limitMove_none (b := m) (.inl ⟨?_, off⟩))
        rwa [state]
      · refine moved false _ (by obtain ⟨h, _⟩ | ⟨h, _⟩ := none <;> exact other h (by decide))
          (Barrier.limitMove_none (b := m) (.inr (.inl ⟨?_, on⟩)))
        rwa [state]
      · refine moved false _ (by obtain ⟨h, _⟩ | ⟨h, _⟩ := none <;> exact other h (by decide))
          (Barrier.limitMove_none (b := m) (.inr (.inr ?_)))
        rwa [state]

/-- Settles O35: the barrier with the level taken is the model's, limit by limit. -/
theorem limitsMoveBarriers : Obligations.LimitsMoveBarriers := by
  intro s l i limit active
  cases limit with
  | up => exact s.limitChange_eq l i .up active
  | down => exact s.limitChange_eq l i .down active

/-! ### The safety beam and the timers (R48, R50 to R53) -/

section Beam

variable {t : BarrierTimes} {b : Barrier}

theorem Barrier.beamChange_broken {held : Bool} (h : b.state ≠ .falling) :
    b.beamChange t held true = ({ b with beamBroken := true, clearDelay := none } : Barrier).quiet := if_neg h

/-- A safety reversal ends in UP where the up limit is active, the beam being broken. -/
theorem Barrier.beamChange_reverses {held : Bool} (h : b.state = .falling) :
    b.beamChange t held true = { ({ b with
      beamBroken := true
      clearDelay := none
      reversals := b.reversals + 1
      lowerPending := decide (b.reversals + 1 < 3) && !held
      state := if b.upLimit then .up else .rising
      travel := if b.upLimit then none else some t.travel
      leaveLimit := false } : Barrier).quiet with obstructed := decide (b.reversals + 1 = 3) } := by
  refine (if_pos h).trans (congrArg
    (fun r : BarrierStep => ({ r with obstructed := decide (b.reversals + 1 = 3) } : BarrierStep)) ?_)
  by_cases up : b.upLimit = true
  · simp only [if_pos up]
    exact Barrier.enterRising_there false up (.inr rfl)
  · simp only [if_neg up]
    exact Barrier.enterRising_free false (Bool.eq_false_iff.2 up)

theorem Barrier.beamChange_clears {held : Bool} (delay : t.clear ≠ 0) : b.beamChange t held false =
    ({ b with beamBroken := false, clearDelay := some t.clear } : Barrier).quiet := if_neg delay

/-- A clear delay of 0 s expires as it starts. -/
theorem Barrier.beamChange_expires {held : Bool} (delay : t.clear = 0) :
    b.beamChange t held false = ({ b with beamBroken := false } : Barrier).clearExpired t := if_pos delay

theorem Barrier.clearExpired_falls (pending : b.lowerPending = true) (rests : b.state = .up ∨ b.state = .stopped)
    (free : b.downLimit = false) : b.clearExpired t = ({ b with
      clearDelay := none
      state := .falling
      lowerPending := false
      travel := some t.travel
      leaveLimit := decide (b.state = .up) } : Barrier).fallen := by
  have waits : (b.lowerPending && (decide (b.state = .up) || decide (b.state = .stopped))) = true := by
    rw [pending, Bool.true_and, ← Bool.decide_or]
    exact decide_eq_true rests
  exact (if_pos waits).trans (congrArg Barrier.fallen (Barrier.enterFalling_free (b := { b with clearDelay := none }) _ free))

theorem Barrier.clearExpired_stays (stays : b.lowerPending = false ∨ b.state ≠ .up ∧ b.state ≠ .stopped) :
    b.clearExpired t = ({ b with clearDelay := none } : Barrier).quiet := by
  refine if_neg fun waits => ?_
  obtain ⟨pending, rests⟩ := Bool.and_eq_true_iff.1 waits
  rw [← Bool.decide_or, decide_eq_true_eq] at rests
  obtain clear | ⟨up, stopped⟩ := stays
  · exact Bool.noConfusion (clear.symm.trans pending)
  · exact rests.elim up stopped

end Beam

/-- The safety beam of a barrier. -/
theorem State.safetyBeamChange_eq (s : State) (l : Lane) (i : BarrierId) :
    let b := (s.lane l).barrier i
    let c := s.laneSettings l
    let becomes := fun (broken fell : Bool) (x : Barrier) =>
      execSafetyBeamChange l i broken s = .next ((s.withBarrier l i fell x).evalPassage l)
    (∀ broken, s.phase.rank < 1 ∨ b.beamBroken = broken → execSafetyBeamChange l i broken s = .next s)
    ∧ (1 ≤ s.phase.rank → b.beamBroken = false →
      (b.state ≠ .falling → becomes true false { b with beamBroken := true, clearDelay := none })
      ∧ (b.state = .falling → b.reversals ≠ 2 →
        becomes true false { b with
          beamBroken := true
          clearDelay := none
          reversals := b.reversals + 1
          lowerPending := decide (b.reversals < 2 ∧ (s.lane l).state ≠ .hold)
          state := if b.upLimit then .up else .rising
          travel := if b.upLimit then none else some c.travel
          leaveLimit := false })
      ∧ (b.state = .falling → b.reversals = 2 →
        execSafetyBeamChange l i true s =
          .next (({ (s.withBarrier l i false { b with
              beamBroken := true
              clearDelay := none
              reversals := 3
              lowerPending := false
              state := if b.upLimit then .up else .rising
              travel := if b.upLimit then none else some c.travel
              leaveLimit := false }) with
            notices := s.announced [s.notice .obstructed (some l) none 0 i.toNat []] } : State).hold l .obstructed)))
    ∧ (1 ≤ s.phase.rank → b.beamBroken = true →
      (0 < c.clear → becomes false false { b with beamBroken := false, clearDelay := some c.clear })
      ∧ (c.clear = 0 → b.lowerPending = true → b.state = .up ∨ b.state = .stopped → b.downLimit = false →
        becomes false true { b with
          beamBroken := false
          clearDelay := none
          state := .falling
          lowerPending := false
          travel := some c.travel
          leaveLimit := decide (b.state = .up) })
      ∧ (c.clear = 0 → b.lowerPending = false ∨ b.state ≠ .up ∧ b.state ≠ .stopped →
        becomes false false { b with beamBroken := false, clearDelay := none })) := by
  intro b c becomes
  have event (broken : Bool) (loaded : 1 ≤ s.phase.rank) (changed : b.beamBroken ≠ broken) :
      execSafetyBeamChange l i broken s =
        .next (s.barrierEvent l i (b.beamChange c.times (decide ((s.lane l).state = .hold)) broken)) := by
    refine congrArg _ (if_neg ?_)
    rintro (early | same)
    · exact absurd loaded (of_decide_eq_false early)
    · exact changed same
  have moves {broken fell : Bool} {x : Barrier} (loaded : 1 ≤ s.phase.rank) (changed : b.beamBroken ≠ broken)
      (h : b.beamChange c.times (decide ((s.lane l).state = .hold)) broken = { x.quiet with fell := fell }) :
      becomes broken fell x := by
    refine (event broken loaded changed).trans (congrArg _ ?_)
    rw [h, State.barrierEvent_moves]
  refine ⟨fun broken unchanged => congrArg _ (if_pos ?_), fun loaded clear => ?_, fun loaded broken => ?_⟩
  · obtain early | same := unchanged
    · exact .inl (decide_eq_false (Nat.not_le.2 early))
    · exact .inr same
  · have changed : b.beamBroken ≠ true := Bool.eq_false_iff.1 clear
    refine ⟨fun other => moves loaded changed (Barrier.beamChange_broken other), fun falls low => ?_, fun falls third => ?_⟩
    · refine moves loaded changed ((Barrier.beamChange_reverses falls).trans ?_)
      have pending : (decide (b.reversals + 1 < 3) && !decide ((s.lane l).state = .hold))
          = decide (b.reversals < 2 ∧ (s.lane l).state ≠ .hold) := by
        rw [← decide_not, ← Bool.decide_and]
        exact decide_eq_decide.2 (and_congr_left' (by omega))
      rw [pending, decide_eq_false (show ¬b.reversals + 1 = 3 by omega)]
      rfl
    · refine (event true loaded changed).trans (congrArg _ ?_)
      rw [Barrier.beamChange_reverses falls, third, decide_eq_true (show 2 + 1 = 3 from rfl)]
      exact State.barrierEvent_obstructed ..
  · have changed : b.beamBroken ≠ false := ne_false_of_eq_true broken
    refine ⟨fun delay => moves loaded changed (Barrier.beamChange_clears (Nat.ne_of_gt delay)),
      fun delay pending rests free => moves loaded changed ((Barrier.beamChange_expires delay).trans
        (Barrier.clearExpired_falls (b := { b with beamBroken := false }) pending rests free)),
      fun delay stays => moves loaded changed ((Barrier.beamChange_expires delay).trans
        (Barrier.clearExpired_stays (b := { b with beamBroken := false }) stays))⟩

/-- Settles O36: the beam by its own lemma, and the three timers. -/
theorem beamsAndTimersOfBarriers : Obligations.BeamsAndTimersOfBarriers := by
  refine ⟨State.safetyBeamChange_eq, fun s l i => ?_⟩
  intro b faults
  have expires (loaded : b.clearDelay ≠ none) : exec (.clearDelayExpiry l i) s =
      .next (s.barrierEvent l i (b.clearExpired (s.laneSettings l).times)) :=
    congrArg _ (if_pos (Option.ne_none_iff_isSome.1 loaded))
  refine ⟨fun none => congrArg _ (if_neg ?_), fun runs pending rests free => ?_, fun runs stays => ?_,
    fun none => congrArg _ (if_neg ?_), fun runs => ?_, fun none => congrArg _ (if_neg (Bool.eq_false_iff.1 none)), fun runs => ?_⟩
  · exact fun runs => Option.ne_none_iff_isSome.2 runs none
  · refine (expires runs).trans (congrArg _ ?_)
    rw [Barrier.clearExpired_falls pending rests free]
    exact s.barrierEvent_moves l i _ true
  · refine (expires runs).trans (congrArg _ ?_)
    rw [Barrier.clearExpired_stays stays]
    exact s.barrierEvent_moves l i _ false
  · exact fun runs => Option.ne_none_iff_isSome.2 runs none
  · exact congrArg _ ((if_pos (Option.ne_none_iff_isSome.1 runs)).trans (s.barrierEvent_fault l i b .travel))
  · exact congrArg _ ((if_pos runs).trans (s.barrierEvent_fault l i b .limitStuck))

end Sys2Proof.Machine
end

section
/-! The yard's inputs: emergency stop, mains fail and seal switch (R24, R31, R56, R87, R164, R182, R183). -/

namespace Sys2Proof.Machine

/-! ### A condition whose notice shows the new state -/

/-- `s` with a condition in a new state. -/
def State.turned (s : State) (k : Condition) (v : CondState) : State := { s with conditions := s.conditions.set k v }

/-- The notices of `t` once a notice of the whole yard has been raised where the condition's enable is set. -/
def State.told (s t : State) (k : Condition) (kind : NoticeKind) (n : Nat) : PerStation NoticeState :=
  if (s.condition k).enable then t.announced [t.notice kind none none 0 n []] else t.notices

theorem State.yardNotice_told (s t : State) (k : Condition) (kind : NoticeKind) (n : Nat) :
    (if (s.condition k).enable then State.yardNotice kind n t else t) = { t with notices := s.told t k kind n } := by
  unfold State.told
  split
  · exact State.raiseNotice_eq rfl rfl rfl rfl ..
  · rfl

theorem State.activateWith_told {s : State} {k : Condition} (kind : NoticeKind) (n : Nat)
    (inactive : (s.condition k).active = false) : s.activateWith k (State.yardNotice kind n) =
      let t := s.turned k { s.condition k with active := true, latched := true }
      { t with notices := s.told t k kind n } :=
  (State.activateWith_inactive _ inactive).trans (s.yardNotice_told (s.turned k _) k kind n)

theorem State.deactivateWith_told {s : State} {k : Condition} (kind : NoticeKind) (n : Nat)
    (active : (s.condition k).active = true) : s.deactivateWith k (State.yardNotice kind n) =
      let t := s.turned k { s.condition k with active := false }
      { t with notices := s.told t k kind n } :=
  (if_pos active).trans (s.yardNotice_told (s.turned k _) k kind n)

/-- A condition that is not the seal's takes no part in the decisions. -/
theorem State.told_turned {s : State} {j k : Condition} (v : CondState) (kind : NoticeKind) (n : Nat)
    (h : Condition.sealAccess ≠ j) : s.told (s.turned j v) k kind n = s.told s k kind n := by
  unfold State.told
  rw [State.announced_congr (s := s) (t := s.turned j v) rfl (s.sealOpen_setCondition v h) rfl]
  rfl

theorem State.activateWith_toldAlike {s : State} {k : Condition} (kind : NoticeKind) (n : Nat)
    (h : Condition.sealAccess ≠ k) (inactive : (s.condition k).active = false) :
    s.activateWith k (State.yardNotice kind n) = { s with
      conditions := s.conditions.set k { s.condition k with active := true, latched := true }
      notices := s.told s k kind n } := by
  refine (State.activateWith_told kind n inactive).trans ?_
  simp only [State.told_turned _ _ _ h]
  rfl

theorem State.deactivateWith_toldAlike {s : State} {k : Condition} (kind : NoticeKind) (n : Nat)
    (h : Condition.sealAccess ≠ k) (active : (s.condition k).active = true) :
    s.deactivateWith k (State.yardNotice kind n) = { s with
      conditions := s.conditions.set k { s.condition k with active := false }
      notices := s.told s k kind n } := by
  refine (State.deactivateWith_told kind n active).trans ?_
  simp only [State.told_turned _ _ _ h]
  rfl

/-! ### The stop of the barriers (R56) -/

theorem Barrier.estopStop_eq (b : Barrier) : b.estopStop = { b with
    lowerPending := false
    state :=
      if b.state = .rising ∨ b.state = .falling then
        if b.downLimit then .down else if b.upLimit then .up else .stopped
      else b.state
    travel := if b.state = .rising ∨ b.state = .falling then none else b.travel
    leaveLimit := if b.state = .rising ∨ b.state = .falling then false else b.leaveLimit } := by
  unfold Barrier.estopStop
  by_cases moves : b.state = .rising ∨ b.state = .falling
  · simp only [if_pos moves]
    rfl
  · simp only [if_neg moves]

/-- Settles O37: each input by its condition, ESTOP with the barriers and the lanes, the seal with the edits. -/
theorem yardInputsAreTaken : Obligations.YardInputsAreTaken := by
  intro s stop told
  refine ⟨fun early level => ?_, congrArg _ (if_pos (.inr rfl)), congrArg _ (if_pos (.inr rfl)), congrArg _ (if_pos (.inr rfl)),
    fun loaded => ?_⟩
  · have unloaded : s.configLoaded = false := decide_eq_false (Nat.not_le.2 early)
    exact ⟨congrArg _ (if_pos (.inl unloaded)), congrArg _ (if_pos (.inl unloaded)), congrArg _ (if_pos (.inl unloaded))⟩
  · have taken {level held : Bool} (differs : held ≠ level) : ¬(s.configLoaded = false ∨ held = level) := by
      rintro (early | same)
      · exact absurd loaded (of_decide_eq_false early)
      · exact differs same
    have rises {held : Bool} (off : held = false) := taken (level := true) (Bool.eq_false_iff.1 off)
    have falls {held : Bool} (on : held = true) := taken (level := false) (ne_false_of_eq_true on)
    refine ⟨fun off => ?_, fun on => ?_, fun off => ?_, fun on => ?_, fun off t eq => ?_, fun on t eq => ?_⟩
    · refine congrArg _ ((if_neg (rises off)).trans ?_)
      show ((s.activateWith .estop (State.yardNotice .estopChange 1)).stopBarriers).holdAll = _
      rw [State.activateWith_toldAlike (k := .estop) _ _ (by decide) off]
      unfold State.stopBarriers
      simp only [Barrier.estopStop_eq]
      rfl
    · exact congrArg _ ((if_neg (falls on)).trans (State.deactivateWith_toldAlike (k := .estop) .estopChange 0 (by decide) on))
    · exact congrArg _ ((if_neg (rises off)).trans
        (State.activateWith_toldAlike (k := .mainsFail) .mainsChange 1 (by decide) off))
    · exact congrArg _ ((if_neg (falls on)).trans
        (State.deactivateWith_toldAlike (k := .mainsFail) .mainsChange 0 (by decide) on))
    · subst eq
      exact congrArg _ ((if_neg (rises off)).trans (State.activateWith_told (k := .sealAccess) .sealChange 1 off))
    · subst eq
      refine congrArg _ ((if_neg (falls on)).trans ?_)
      show ({ s.deactivateWith .sealAccess (State.yardNotice .sealChange 0) with
        decks := (s.deactivateWith .sealAccess (State.yardNotice .sealChange 0)).decks.map DeckUnit.discardEdit } :
          State).examine = _
      rw [State.deactivateWith_told (k := .sealAccess) _ _ on]
      rfl

end Sys2Proof.Machine
end

section
/-! Lanes enter states and are held (R63, R64, R82), open, close and are attended (R62, R169), resume, are sent back and are
reset (R84 to R86). -/

namespace Sys2Proof.Machine

/-! ### Notices raised one after the other -/

theorem State.announced_announced {s t : State} (settings : t.settings = s.settings) (position : t.sealOpen = s.sealOpen)
    {before : List Notice} (notices : t.notices = s.announced before) (after : List Notice) :
    t.announced after = s.announced (before ++ after) := by
  unfold State.announced
  refine congrArg PerStation.ofFn (funext fun st => ?_)
  rw [notices, List.foldl_append]
  simp only [State.decision_congr settings position]
  unfold State.announced
  rw [PerStation.get_ofFn]

/-- A notice raised behind others that have been. -/
theorem State.raiseNotice_after {s t : State} (settings : t.settings = s.settings) (position : t.sealOpen = s.sealOpen)
    {before : List Notice} (notices : t.notices = s.announced before) (clock : t.clock = s.clock) (kind : NoticeKind)
    (lane : Option Lane) (deck : Option Deck) (ticket detail : Nat) (values : List Int) :
    t.raiseNotice kind lane deck ticket detail values =
      { t with notices := s.announced (before ++ [s.notice kind lane deck ticket detail values]) } := by
  rw [State.raiseNotice_eq (s := t) rfl rfl rfl rfl, State.announced_announced settings position notices,
    State.notice_congr settings clock]

/-! ### Entering a state (R58, R63 to R65, R90) -/

theorem State.enter_eq (s : State) (l : Lane) (st : LaneState) (keep : Bool) : s.enter l st keep = { s with
    lanes := s.lanes.set l { s.lane l with
      state := st
      holdReason := none
      heldFrom := none
      dwell := (s.laneSettings l).dwell.of st
      marks :=
        if keep then (s.lane l).marks
        else {
          ebSeen := decide (st = .entering ∧ (s.lane l).eb = true)
          leavingStep := 0
          alStage := if st = .retreating ∧ (s.lane l).al = true then 1 else 0
          reposition := false }
      lastRefused := none
      go := decide (st = .entering ∨ (st = .positioning ∧ (s.lane l).go = true))
      capture := none } } := by
  have go : (decide (st = .entering) || (decide (st = .positioning) && (s.lane l).go))
      = decide (st = .entering ∨ (st = .positioning ∧ (s.lane l).go = true)) := by simp
  have seen : (decide (st = .entering) && (s.lane l).eb) = decide (st = .entering ∧ (s.lane l).eb = true) := by simp
  rw [← go, ← seen]
  rfl

theorem DwellLimits.of_untimed (d : DwellLimits) {st : LaneState} (h : st.timed = false) : d.of st = none := by
  cases st <;> first | rfl | exact nomatch h

/-- The lane of an entry is in the state entered. -/
theorem State.enter_state (s : State) (l : Lane) (st : LaneState) (keep : Bool) : ((s.enter l st keep).lane l).state = st := by
  show ((s.setLane l _).lane l).state = st
  rw [State.lane_setLane, if_pos rfl]
  rfl

/-- The condition of a state, looked at for a lane. -/
def State.evalIn (s : State) (l : Lane) : LaneState → State
  | .entering => s.evalEntering l
  | .positioning => s.evalPositioning l
  | .leaving => s.evalLeaving l
  | .retreating => s.evalRetreating l
  | .clearing => s.evalClearing l
  | .closed | .idle | .admitting | .onDeck | .weighing | .hold => s

theorem State.evalPassage_eq {s : State} {l : Lane} {st : LaneState} (h : (s.lane l).state = st) : s.evalPassage l = s.evalIn l st := by
  subst h
  unfold State.evalPassage State.evalIn
  cases (s.lane l).state <;> rfl

/-- The condition of the state that a lane has entered. -/
theorem State.evalPassage_enter (s : State) (l : Lane) (st : LaneState) (keep : Bool) :
    (s.enter l st keep).evalPassage l = (s.enter l st keep).evalIn l st := State.evalPassage_eq (s.enter_state l st keep)

/-! ### Holding (R55, R82, R103, R104) -/

/-- What the abandonment of a capture leaves, and what it raises. -/
theorem State.abandon_eq_announced (s : State) (l : Lane) (reason : CaptureReason) :
    s.abandon l reason = { s with
      lanes := s.lanes.set l { s.lane l with capture := none }
      notices := s.announced ((s.lane l).capture.toList.map fun c =>
        s.notice .captureFailed (some l) (s.laneSettings l).deck.noticeDeck (s.boundTicket l)
          (reason.toNat + 10 * (c.mode.toNat + 3 * originNat c.origin)) []) } := by
  unfold State.abandon
  cases capture : (s.lane l).capture with
  | none =>
    have lane : ({ s.lane l with capture := none } : LaneUnit) = s.lane l := by rw [← capture]
    have quiet : s.announced [] = s.notices := by
      unfold State.announced
      cases s.notices
      rfl
    rw [lane]
    show s = { s with lanes := s.lanes.set l (s.lanes.get l), notices := s.announced [] }
    rw [PerLane.set_get, quiet]
  | some c =>
    show (s.setLane l { s.lane l with capture := none }).raiseNotice _ _ _ _ _ _ = _
    apply State.raiseNotice_eq (s := s) <;> rfl

theorem State.enterHold_eq (s : State) (l : Lane) (reason : HoldReason) : s.enterHold l reason = { s with
    lanes := s.lanes.set l { s.lane l with
      state := .hold
      holdReason := some reason
      heldFrom := some (s.lane l).state
      dwell := none
      lastRefused := none
      go := false
      capture := none
      barrierA := { (s.lane l).barrierA with lowerPending := false }
      barrierX := { (s.lane l).barrierX with lowerPending := false } }
    notices := s.announced (
      ((s.lane l).capture.toList.map fun c =>
        s.notice .captureFailed (some l) (s.laneSettings l).deck.noticeDeck (s.boundTicket l)
          ((if reason = .estop then 9 else 7) + 10 * (c.mode.toNat + 3 * originNat c.origin)) [])
      ++ [s.notice .laneHold (some l) none 0 (reason.toNat + 8 * (s.lane l).state.toNat) []]) } := by
  have number : (if reason = .estop then CaptureReason.estop else .held).toNat = if reason = .estop then 9 else 7 := by
    repeat' split
    all_goals rfl
  unfold State.enterHold
  rw [State.abandon_eq_announced]
  simp only [number]
  unfold State.laneHold
  rw [State.raiseNotice_after (s := s) (before := (s.lane l).capture.toList.map fun c =>
    s.notice .captureFailed (some l) (s.laneSettings l).deck.noticeDeck (s.boundTicket l)
      ((if reason = .estop then 9 else 7) + 10 * (c.mode.toNat + 3 * originNat c.origin)) [])]
  case settings | position | notices | clock => rfl
  show ({ s with
    lanes := (s.lanes.set l { s.lane l with capture := none }).set l
      (((s.lanes.set l { s.lane l with capture := none }).get l).held reason)
    notices := _ } : State) = _
  rw [PerLane.set_set, PerLane.get_set, if_pos rfl]
  rfl

/-- A lane in HOLD takes the new reason and announces it again. -/
theorem State.hold_again {s : State} {l : Lane} {old : LaneState} (held : (s.lane l).state = .hold)
    (heldFrom : (s.lane l).heldFrom = some old) (reason : HoldReason) : s.hold l reason = { s with
      lanes := s.lanes.set l { s.lane l with holdReason := some reason }
      notices := s.announced [s.notice .laneHold (some l) none 0 (reason.toNat + 8 * old.toNat) []] } := by
  unfold State.hold
  rw [held, heldFrom]
  show (s.setLane l _).raiseNotice _ _ _ _ _ _ = _
  apply State.raiseNotice_eq (s := s) <;> rfl

theorem State.hold_enters {s : State} {l : Lane} {reason : HoldReason} (open_ : (s.lane l).state ≠ .closed)
    (free : (s.lane l).state ≠ .hold) (idle : (s.lane l).state = .idle → reason = .barrierFault ∨ reason = .startup) :
    s.hold l reason = s.enterHold l reason := by
  by_cases state : (s.lane l).state = .idle
  · unfold State.hold
    rw [state]
    exact if_pos (idle state)
  · exact State.hold_timed open_ state free

/-- Settles O38: an entry field by field, and the hold by the lane's state. -/
theorem lanesEnterAndAreHeld : Obligations.LanesEnterAndAreHeld := by
  intro s l u
  refine ⟨fun st keep => ⟨(s.laneSettings l).dwell.of st, DwellLimits.of_untimed _, ?_, ?_, ?_, ?_, ?_, ?_, ?_, ?_,
    s.enter_eq l st keep⟩, fun reason => ⟨State.hold_closed, State.hold_idle, fun old held heldFrom =>
    State.hold_again held heldFrom reason, fun open_ free idle => (State.hold_enters open_ free idle).trans
    (s.enterHold_eq l reason)⟩⟩ <;> rintro rfl <;> rfl

/-! ### A LANE class request that reaches its block -/

section LaneRequest

variable {s t : State} {r : Req} {b code : Byte} {l : Lane} {k : Lane → Handler}

theorem State.takeRequest_laneOut (out : 4 ≤ b.toNat) (h : s.Takes r) :
    s.takeRequest r code false (laneControl r b k) = s.refusedWith r code .range := by
  rw [laneControl_out out, State.takeRequest_outOfRange h]

theorem State.takeRequest_laneRefused (hb : b.toNat = l.toNat) (h : s.Controls r (.lane l) .lane) {result : Result}
    (hk : k l (s.heard r.station) = (s.heard r.station, .plain result)) :
    s.takeRequest r code false (laneControl r b k) = s.refusedWith r code result :=
  State.takeRequest_refused h.1 ((laneControl_passes hb h k).trans hk)

/-- A block that takes a request and answers a result without a body. -/
theorem State.takeRequest_laneTaken (hb : b.toNat = l.toNat) (h : s.Controls r (.lane l) .lane) {result : Result}
    (hk : k l (s.heard r.station) = (t, .plain result)) :
    s.takeRequest r code false (laneControl r b k) = t.respond r.station ⟨code, r.tag, result, false, .none⟩ := by
  rw [s.takeRequest_takes r code false _ h.1, laneControl_passes hb h k, hk]
  rfl

end LaneRequest

/-! ### OPEN_LANE, CLOSE_LANE, ATTEND and ATTEND_END (R62, R169, R171) -/

/-- The configuration with a lane's open-at-start setting. -/
def State.settingsOpenAtStart (s : State) (l : Lane) (v : Bool) : Settings :=
  { s.settings with lanes := s.settings.lanes.set l { s.laneSettings l with openAtStart := v } }

/-- A lane's unit on its entry to CLOSED or IDLE. -/
def LaneUnit.atRest (u : LaneUnit) (st : LaneState) : LaneUnit := { u with
  state := st
  holdReason := none
  heldFrom := none
  dwell := none
  marks := Marks.clear
  lastRefused := none
  go := false
  capture := none }

theorem State.enter_atRest (s : State) (l : Lane) {st : LaneState} (rest : st = .closed ∨ st = .idle) :
    s.enter l st false = { s with lanes := s.lanes.set l ((s.lane l).atRest st) } := by
  rw [State.enter_eq]
  obtain rfl | rfl := rest <;> rfl

/-- The setting stored, and the lane at rest. -/
theorem State.setOpenAtStart_enter (s : State) (l : Lane) (v : Bool) {st : LaneState} (rest : st = .closed ∨ st = .idle) :
    ((s.setOpenAtStart l v).enqueueSettings).enter l st false = { s with
      settings := s.settingsOpenAtStart l v
      store := s.queuedWith [.configuration (s.settingsOpenAtStart l v)]
      lanes := s.lanes.set l ((s.lane l).atRest st) } := by
  rw [State.enter_atRest _ l rest]
  rfl

theorem State.openLane_eq (s : State) (l : Lane) : s.openLane l =
    let t := (({ s with
      settings := s.settingsOpenAtStart l true
      store := s.queuedWith [.configuration (s.settingsOpenAtStart l true)]
      lanes := s.lanes.set l ((s.lane l).atRest .idle) } : State).askLower l .a).askLower l .x
    if s.faulted l .a || s.faulted l .x then t.hold l .barrierFault else t := by
  unfold State.openLane
  rw [State.setOpenAtStart_enter s l true (.inr rfl)]

/-- Settles O40: the checks of the four requests, and what each makes of the lane. -/
theorem lanesOpenCloseAndAreAttended : Obligations.LanesOpenCloseAndAreAttended := by
  refine ⟨fun s r b out h => ⟨congrArg _ (State.takeRequest_laneOut out h), congrArg _ (State.takeRequest_laneOut out h),
    congrArg _ (State.takeRequest_laneOut out h), congrArg _ (State.takeRequest_laneOut out h)⟩, fun s r b l hb h => ?_⟩
  intro u with_ rest
  refine ⟨fun used => ?_, fun closed full => ?_, fun closed free t eq => ?_, fun used => ?_, fun idle full => ?_,
    fun idle free => ?_, fun closed => ?_, fun open_ => ?_, fun other => ?_, fun mine => ?_⟩
  · exact congrArg _ (State.takeRequest_laneRefused hb h (if_pos used))
  · exact congrArg _ (State.takeRequest_laneRefused hb h ((if_neg (not_not_intro closed)).trans
      (needSlot_refused (s := s.heard r.station) _ full)))
  · subst eq
    have taken : exec (.openLane r b) s = .next (((s.heard r.station).openLane l).acked r 0x22) :=
      congrArg _ (State.takeRequest_laneTaken hb h ((if_neg (not_not_intro closed)).trans
        (needSlot_passes (s := s.heard r.station) _ free)))
    rw [State.openLane_eq] at taken
    refine ⟨fun a x => taken.trans ?_, fun fault => taken.trans ?_⟩
    · have sound : ¬((s.heard r.station).faulted l .a || (s.heard r.station).faulted l .x) = true := by
        rw [show (s.heard r.station).faulted l .a = false from decide_eq_false a,
          show (s.heard r.station).faulted l .x = false from decide_eq_false x]
        decide
      rw [if_neg sound]
      rfl
    · have faulted : ((s.heard r.station).faulted l .a || (s.heard r.station).faulted l .x) = true := by
        rw [Bool.or_eq_true]
        exact fault.imp (fun a => decide_eq_true a) fun x => decide_eq_true x
      rw [if_pos faulted]
      rfl
  · exact congrArg _ (State.takeRequest_laneRefused hb h (if_pos used))
  · exact congrArg _ (State.takeRequest_laneRefused hb h ((if_neg (not_not_intro idle)).trans
      (needSlot_refused (s := s.heard r.station) _ full)))
  · refine congrArg _ ((State.takeRequest_laneTaken (t := (s.heard r.station).closeLane l) hb h
      ((if_neg (not_not_intro idle)).trans (needSlot_passes (s := s.heard r.station) _ free))).trans
      ((State.acked_eq (s := s) (t := (s.heard r.station).closeLane l) rfl).trans ?_))
    unfold State.closeLane
    rw [State.setOpenAtStart_enter _ l false (.inl rfl)]
    rfl
  · exact congrArg _ (State.takeRequest_laneRefused hb h (if_pos closed))
  · exact congrArg _ ((State.takeRequest_laneTaken
      (t := { s.heard r.station with attending := s.attending.set l (some r.station) }) hb h (if_neg open_)).trans
      (State.acked_eq rfl))
  · exact congrArg _ (State.takeRequest_laneRefused hb h (if_neg other))
  · exact congrArg _ (State.takeRequest_laneTaken hb h (if_pos mine))

end Sys2Proof.Machine
end

section
/-! RESUME, SEND_BACK and LANE_RESET (R84 to R86). -/

namespace Sys2Proof.Machine

/-! ### RESUME (R84) -/

theorem State.faulted_eq_false_iff {s : State} {l : Lane} {i : BarrierId} :
    s.faulted l i = false ↔ ((s.lane l).barrier i).state ≠ .fault := decide_eq_false_iff_not

theorem State.resumable_iff {s : State} {l : Lane} : s.resumable l = true ↔
    ¬((s.lane l).state ≠ .hold ∨ s.estop = true ∨ (s.lane l).barrierA.state = .fault ∨ (s.lane l).barrierX.state = .fault
      ∨ ∃ d ∈ (s.laneSettings l).deck.decks, (s.deck d).cal.state = .outOfService) := by
  simp [State.resumable, State.faulted_eq_false_iff, State.claimed, LaneUnit.barrier, and_assoc]

theorem State.hasClaim_iff {s : State} {l : Lane} : s.hasClaim l = true ↔ l ∈ s.claims.d0 ∨ l ∈ s.claims.d1 := by
  simp [State.hasClaim]

theorem State.joinClaim_eq (s : State) (l : Lane) : s.joinClaim l = { s with claims := {
    d0 := if (s.laneSettings l).deck = .d1 then s.claims.d0 else s.claims.d0 ++ [l]
    d1 := if (s.laneSettings l).deck = .d0 then s.claims.d1 else s.claims.d1 ++ [l] } } := by
  unfold State.joinClaim
  cases (s.laneSettings l).deck <;> rfl

section Resume

variable {s : State} {l : Lane}

theorem State.resumeLane_idle (h : (s.lane l).heldFrom = some .idle) :
    s.resumeLane l = ((s.askLower l .a).askLower l .x).enter l .idle true := by
  unfold State.resumeLane
  rw [h]

/-- From ADMITTING a claim that was removed joins again at the tail. -/
theorem State.resumeLane_admitting (h : (s.lane l).heldFrom = some .admitting) :
    s.resumeLane l = if l ∈ s.claims.d0 ∨ l ∈ s.claims.d1 then (s.enter l .admitting true).examine
      else ({ s.enter l .admitting true with
        claims := {
          d0 := if (s.laneSettings l).deck = .d1 then s.claims.d0 else s.claims.d0 ++ [l]
          d1 := if (s.laneSettings l).deck = .d0 then s.claims.d1 else s.claims.d1 ++ [l] } } : State).examine := by
  have claim : (s.enter l .admitting true).hasClaim l = true ↔ l ∈ s.claims.d0 ∨ l ∈ s.claims.d1 := State.hasClaim_iff
  unfold State.resumeLane
  rw [h]
  show State.examine (if (s.enter l .admitting true).hasClaim l = true then _ else _) = _
  by_cases waits : l ∈ s.claims.d0 ∨ l ∈ s.claims.d1
  · rw [if_pos (claim.2 waits), if_pos waits]
  · rw [if_neg (mt claim.1 waits), if_neg waits, State.joinClaim_eq]
    rfl

theorem State.resumeLane_entering (h : (s.lane l).heldFrom = some .entering) :
    s.resumeLane l = ((s.askRaise l .a).enter l .entering true).evalPassage l := by
  unfold State.resumeLane
  rw [h, State.evalPassage_enter]
  rfl

theorem State.resumeLane_positioning (h : (s.lane l).heldFrom = some .positioning) :
    s.resumeLane l = ((s.askLowerUnlessDown l).enter l .positioning true).evalPassage l := by
  unfold State.resumeLane
  rw [h, State.evalPassage_enter]
  rfl

theorem State.resumeLane_onDeck (h : (s.lane l).heldFrom = some .onDeck) :
    s.resumeLane l = (s.askLowerUnlessDown l).enterOnDeck l true := by
  unfold State.resumeLane
  rw [h]

theorem State.resumeLane_weighing (h : (s.lane l).heldFrom = some .weighing) :
    s.resumeLane l = (s.askLowerUnlessDown l).enterOnDeck l false := by
  unfold State.resumeLane
  rw [h]

theorem State.resumeLane_leaving (h : (s.lane l).heldFrom = some .leaving) :
    s.resumeLane l = (((s.askRaise l .x).askLowerUnlessDown l).enter l .leaving true).evalPassage l := by
  unfold State.resumeLane
  rw [h, State.evalPassage_enter]
  rfl

theorem State.resumeLane_retreating (h : (s.lane l).heldFrom = some .retreating) :
    s.resumeLane l = ((s.askRaise l .a).enter l .retreating true).evalPassage l := by
  unfold State.resumeLane
  rw [h, State.evalPassage_enter]
  rfl

theorem State.resumeLane_clearing (h : (s.lane l).heldFrom = some .clearing) :
    s.resumeLane l = (((s.askLower l .a).askLower l .x).enter l .clearing true).evalPassage l := by
  unfold State.resumeLane
  rw [h, State.evalPassage_enter]
  rfl

end Resume

/-- Settles O41: the checks of R84, and the return state by state. -/
theorem resumeReturnsTheLane : Obligations.ResumeReturnsTheLane := by
  refine ⟨fun s r b out h => congrArg _ (State.takeRequest_laneOut out h), fun s r b l hb h => ?_⟩
  intro u heard bad shut resumes
  have resumable : heard.resumable l = true ↔ ¬bad := State.resumable_iff
  refine ⟨fun refused => ?_, fun good => ?_⟩
  · exact congrArg _ (State.takeRequest_laneRefused hb h (if_neg fun ok => resumable.1 ok refused))
  · have returns {t : State} (eq : heard.resumeLane l = t) : exec (.resume r b) s = .next (t.acked r 0x26) :=
      congrArg _ (State.takeRequest_laneTaken hb h ((if_pos (resumable.2 good)).trans (by rw [← eq])))
    exact ⟨fun h => returns (State.resumeLane_idle h), fun h => returns (State.resumeLane_admitting h),
      fun h => returns (State.resumeLane_entering h), fun h => returns (State.resumeLane_positioning h),
      fun h => returns (State.resumeLane_onDeck h), fun h => returns (State.resumeLane_weighing h),
      fun h => returns (State.resumeLane_leaving h), fun h => returns (State.resumeLane_retreating h),
      fun h => returns (State.resumeLane_clearing h)⟩

/-! ### SEND_BACK and LANE_RESET (R85, R86) -/

theorem LaneState.returnable_iff {st : LaneState} : st.returnable = true ↔
    st = .admitting ∨ st ∈ [LaneState.entering, .positioning, .onDeck, .weighing] := by
  cases st <;> decide

theorem State.canSendBack_iff {s : State} {l : Lane} : s.canSendBack l = true ↔
    (s.lane l).state = .admitting ∨ (s.lane l).state ∈ [LaneState.entering, .positioning, .onDeck, .weighing]
      ∨ ((s.lane l).state = .hold ∧ ((s.lane l).heldFrom = some .admitting
        ∨ ((∃ old ∈ [LaneState.entering, .positioning, .onDeck, .weighing], (s.lane l).heldFrom = some old)
          ∧ s.estop = false ∧ (s.lane l).barrierA.state ≠ .fault))) := by
  have faulted : s.faulted l .a = decide ((s.lane l).barrierA.state = .fault) := rfl
  unfold State.canSendBack
  by_cases held : (s.lane l).state = .hold
  · simp only [held, faulted]
    cases (s.lane l).heldFrom with
    | none => simp
    | some old => cases old <;> simp [LaneState.returnable]
  · simp only [held, if_false, LaneState.returnable_iff, false_and, or_false]

theorem LaneUnit.markState_admitting_iff {u : LaneUnit} : u.markState = .admitting ↔
    u.state = .admitting ∨ (u.state = .hold ∧ u.heldFrom = some .admitting) := by
  unfold LaneUnit.markState
  by_cases held : u.state = .hold
  · cases from_ : u.heldFrom <;> simp [held]
  · simp [held]

theorem State.sendBack_queued {s : State} {l : Lane}
    (h : (s.lane l).state = .admitting ∨ ((s.lane l).state = .hold ∧ (s.lane l).heldFrom = some .admitting)) :
    s.sendBack l = (((s.leaveClaim l).dropBinding l).enter l .idle false).examine :=
  if_pos (LaneUnit.markState_admitting_iff.2 h)

theorem State.sendBack_inside {s : State} {l : Lane}
    (h : ¬((s.lane l).state = .admitting ∨ ((s.lane l).state = .hold ∧ (s.lane l).heldFrom = some .admitting))) :
    s.sendBack l =
      let t := (((s.abandon l .sentBack).dropBinding l).askRaise l .a).enter l .retreating false
      if (s.lane l).barrierA.state = .fault then t.hold l .barrierFault else t.evalPassage l := by
  refine (if_neg (mt LaneUnit.markState_admitting_iff.1 h)).trans ?_
  simp only [State.evalPassage_enter]
  exact ite_of_iff decide_eq_true_iff rfl rfl

theorem State.resettable_iff {s : State} {l : Lane} : s.resettable l = true ↔
    (s.lane l).state = .hold ∧ s.estop = false ∧ (s.lane l).barrierA.state ≠ .fault
      ∧ (s.lane l).barrierX.state ≠ .fault := by
  simp [State.resettable, State.faulted_eq_false_iff, LaneUnit.barrier, and_assoc]

/-- Settles O42: the checks of R85 and R86, the sequel by the place sent back from, and what letting go does. -/
theorem sendBackAndResetLetGo : Obligations.SendBackAndResetLetGo := by
  refine ⟨fun s r b out h => ⟨congrArg _ (State.takeRequest_laneOut out h), congrArg _ (State.takeRequest_laneOut out h)⟩,
    fun s r b l hb h => ?_, fun s l => ⟨fun free => ?_, fun e bound => ⟨fun reserved => ?_, fun other => ?_⟩, rfl,
    fun none => ?_, fun c capture => ?_⟩⟩
  · intro u heard passing accepted fromQueue left
    have may : heard.canSendBack l = true ↔ accepted := State.canSendBack_iff
    have sent {t : State} (ok : accepted) (eq : heard.sendBack l = t) : exec (.sendBack r b) s =
        .next (t.respond r.station ⟨0x27, r.tag, .accepted, false, .none⟩) :=
      congrArg _ (State.takeRequest_laneTaken hb h ((if_pos (may.2 ok)).trans (by rw [← eq])))
    refine ⟨fun refused => congrArg _ (State.takeRequest_laneRefused hb h (if_neg (mt may.1 refused))),
      fun ok queued => sent ok (State.sendBack_queued queued), fun ok inside t eq => ?_, fun bad => ?_,
      fun held free a x => ?_⟩
    · subst eq
      exact sent ok (State.sendBack_inside inside)
    · refine congrArg _ (State.takeRequest_laneRefused hb h (if_neg fun ok => ?_))
      obtain ⟨held, free, a, x⟩ := State.resettable_iff.1 ok
      obtain other | stop | fault | fault := bad
      · exact other held
      · exact Bool.noConfusion (stop.symm.trans free)
      · exact a fault
      · exact x fault
    · exact congrArg _ (State.takeRequest_laneTaken hb h (if_pos (State.resettable_iff.2 ⟨held, free, a, x⟩)))
  · unfold State.dropBinding
    rw [free]
  · unfold State.dropBinding
    rw [bound]
    exact if_pos reserved
  · unfold State.dropBinding
    rw [bound]
    exact if_neg other
  · unfold State.abandon
    rw [none]
  · rw [State.abandon_eq_announced, capture]
    rfl

end Sys2Proof.Machine
end

section
/-! A lane takes its inputs and its readings, and passes through its states (R76 to R81, R93); the arbiter grants claims (R71 to
R74); captures begin, are evaluated and time out (R91 to R102). -/

namespace Sys2Proof.Machine

/-! ### Input changes (R41, R65, R76 to R82, R93) -/

section Input

variable {u : LaneUnit} {i : LaneInput} {broken : Bool}

@[simp] theorem LaneUnit.setInput_marks : (u.setInput i broken).marks = u.marks := by cases i <;> rfl

@[simp] theorem LaneUnit.setInput_armed : (u.setInput i broken).armed = u.armed := by cases i <;> rfl

theorem LaneUnit.setInput_eq : u.setInput i broken = { u with
    al := if i = .al then broken else u.al
    eb := if i = .eb then broken else u.eb
    xb := if i = .xb then broken else u.xb
    xl := if i = .xl then broken else u.xl } := by cases i <;> rfl

/-- An input change marks the lane in its marks and its armed flag alone. -/
theorem LaneUnit.mark_eq (st : LaneState) : u.mark st i broken =
    { u with armed := (u.mark st i broken).armed, marks := (u.mark st i broken).marks } := by
  cases st <;> try rfl
  case onDeck =>
    show u.reposition i broken = { u with armed := (u.reposition i broken).armed, marks := (u.reposition i broken).marks }
    unfold LaneUnit.reposition
    repeat' split
    all_goals rfl

theorem LaneUnit.takeInput_marks : (u.takeInput i broken).marks = ((u.setInput i broken).mark u.markState i broken).marks := by
  unfold LaneUnit.takeInput
  repeat' split
  all_goals rfl

theorem LaneUnit.takeInput_armed : (u.takeInput i broken).armed = ((u.setInput i broken).mark u.markState i broken).armed := by
  unfold LaneUnit.takeInput
  repeat' split
  all_goals rfl

theorem LaneUnit.takeInput_eq : u.takeInput i broken = { u with
    al := if i = .al then broken else u.al
    eb := if i = .eb then broken else u.eb
    xb := if i = .xb then broken else u.xb
    xl := if i = .xl then broken else u.xl
    lastRefused := if i = .al ∧ broken = false then none else u.lastRefused
    armed := (u.takeInput i broken).armed
    marks := (u.takeInput i broken).marks } := by
  rw [LaneUnit.takeInput_marks, LaneUnit.takeInput_armed]
  unfold LaneUnit.takeInput
  rw [LaneUnit.mark_eq, LaneUnit.setInput_eq]
  repeat' split
  all_goals rfl

theorem nextLeavingStep_eq (step : Nat) (i : LaneInput) (broken : Bool) : nextLeavingStep step i broken =
    if (step = 0 ∧ i = .xb ∧ broken = true) ∨ (step = 1 ∧ i = .xb ∧ broken = false)
      ∨ (step = 2 ∧ i = .xl ∧ broken = true) ∨ (step = 3 ∧ i = .xl ∧ broken = false)
    then step + 1 else step := by
  fun_cases nextLeavingStep step i broken
  case case5 h1 h2 h3 h4 =>
    refine (if_neg ?_).symm
    rintro (⟨h, h', h''⟩ | ⟨h, h', h''⟩ | ⟨h, h', h''⟩ | ⟨h, h', h''⟩)
    · exact h1 h h' h''
    · exact h2 h h' h''
    · exact h3 h h' h''
    · exact h4 h h' h''
  all_goals rfl

theorem nextAlStage_eq (stage : Nat) (i : LaneInput) (broken : Bool) : nextAlStage stage i broken =
    if i = .al ∧ broken = true then 1 else if i = .al ∧ stage = 1 then 2 else stage := by
  cases i <;> cases broken <;> simp [nextAlStage]

/-- The reposition mark is that of a lane whose armed flag is clear, at a change of EB or XB (R93). -/
theorem LaneUnit.reposition_none (h : u.armed = true ∨ i ≠ .eb ∧ i ≠ .xb) : u.reposition i broken = u := if_pos h

theorem LaneUnit.reposition_eq (clear : u.armed = false) (beam : i = .eb ∨ i = .xb) : u.reposition i broken =
    if broken then { u with marks := { u.marks with reposition := true } }
    else if u.marks.reposition = true ∧ u.eb = false ∧ u.xb = false then
      { u with armed := true, marks := { u.marks with reposition := false } }
    else u := by
  refine if_neg ?_
  rintro (armed | ⟨eb, xb⟩)
  · exact Bool.noConfusion (clear.symm.trans armed)
  · exact beam.elim eb xb

end Input

/-- Settles O43: the mark of each state, and what the lane does with the change. -/
theorem laneInputsAreTaken : Obligations.LaneInputsAreTaken := by
  intro s l i broken u held
  have level : held = u.input i := by cases i <;> rfl
  refine ⟨fun none => congrArg _ (if_pos ?_), fun loaded changed => ?_⟩
  · rw [level] at none
    exact none.imp_left fun early => decide_eq_false (Nat.not_le.2 early)
  · have taken : exec (.laneInputChange l i broken) s = .next (s.takeInput l i broken) := by
      refine congrArg _ (if_neg ?_)
      rintro (early | same)
      · exact absurd loaded (of_decide_eq_false early)
      · exact changed (level.trans same)
    have marks := LaneUnit.takeInput_marks (u := u) (i := i) (broken := broken)
    have armed := LaneUnit.takeInput_armed (u := u) (i := i) (broken := broken)
    refine ⟨u.takeInput i broken, u.markState, rfl, LaneUnit.takeInput_eq, fun place eb on => ?_, fun place => ?_,
      fun place => ?_, fun place clear beam => ?_, fun place => ?_, fun now => ?_, fun now => ?_⟩
    · subst eb on
      rw [marks, armed, place]
      refine ⟨?_, rfl⟩
      show ({ u.marks with ebSeen := u.marks.ebSeen || true } : Marks) = _
      rw [Bool.or_true]
    · rw [marks, armed, place]
      refine ⟨LaneUnit.setInput_armed, ?_⟩
      rw [← nextLeavingStep_eq, ← LaneUnit.setInput_marks (u := u) (i := i) (broken := broken)]
      rfl
    · rw [marks, armed, place]
      refine ⟨LaneUnit.setInput_armed, ?_⟩
      rw [← nextAlStage_eq, ← LaneUnit.setInput_marks (u := u) (i := i) (broken := broken)]
      rfl
    · have eb : (u.takeInput i broken).eb = (u.setInput i broken).eb := by
        rw [LaneUnit.takeInput_eq, LaneUnit.setInput_eq]
      have xb : (u.takeInput i broken).xb = (u.setInput i broken).xb := by
        rw [LaneUnit.takeInput_eq, LaneUnit.setInput_eq]
      have marked : (u.setInput i broken).mark u.markState i broken = (u.setInput i broken).reposition i broken := by rw [place]; rfl
      rw [marks, armed, eb, xb, marked, LaneUnit.reposition_eq (LaneUnit.setInput_armed.trans clear) beam,
        LaneUnit.setInput_marks]
      refine ⟨fun on => ?_, fun off wanted eb xb => ?_, fun off stays => ?_⟩
      · rw [if_pos on]
        exact ⟨rfl, LaneUnit.setInput_armed.trans clear⟩
      · rw [if_neg (Bool.eq_false_iff.1 off), if_pos ⟨wanted, eb, xb⟩]
        exact ⟨rfl, rfl⟩
      · rw [if_neg (Bool.eq_false_iff.1 off), if_neg]
        · exact ⟨LaneUnit.setInput_marks, LaneUnit.setInput_armed.trans clear⟩
        · rintro ⟨wanted, eb, xb⟩
          obtain h | h | h := stays
          · exact Bool.noConfusion (h.symm.trans wanted)
          · exact Bool.noConfusion (h.symm.trans eb)
          · exact Bool.noConfusion (h.symm.trans xb)
    · have unmarked : (u.setInput i broken).mark u.markState i broken = u.setInput i broken := by
        obtain ⟨entering, none⟩ | ⟨onDeck, none⟩ | other := place
        · rw [entering]
          have seen : (decide (i = .eb) && broken) = false := by
            rw [Bool.and_eq_false_iff, decide_eq_false_iff_not]
            exact none
          show ({ u.setInput i broken with marks := _ } : LaneUnit) = _
          rw [seen, Bool.or_false]
        · rw [onDeck]
          refine LaneUnit.reposition_none ?_
          rw [LaneUnit.setInput_armed]
          refine none.imp_right ?_
          rintro (rfl | rfl) <;> decide
        · generalize u.markState = st at other
          cases st <;> first | rfl | exact absurd other (by decide)
      rw [marks, armed, unmarked]
      exact ⟨LaneUnit.setInput_marks, LaneUnit.setInput_armed⟩
    · refine taken.trans (congrArg _ (if_pos ?_))
      rw [Bool.and_eq_true, Bool.not_eq_true']
      exact now
    · refine taken.trans (congrArg _ (if_neg ?_))
      rw [Bool.and_eq_true, Bool.not_eq_true']
      exact now

/-! ### The conditions of the passage (R76 to R81) -/

theorem LaneReading.loaded_iff {r : LaneReading} : r.loaded = true ↔ 20 * (r.division : Int) ≤ r.w := decide_eq_true_iff

theorem LaneReading.unloaded_iff {r : LaneReading} : r.loaded = false ↔ r.w < 20 * (r.division : Int) :=
  decide_eq_false_iff_not.trans Int.not_le

section Passage

variable {s : State} {l : Lane}

/-- A lane that a barrier in FAULT refuses is held. -/
theorem State.ite_faulted {i : BarrierId} {x y z : State} (h : y = z) :
    (if s.faulted l i = true then x else y) = if ((s.lane l).barrier i).state = .fault then x else z := by
  unfold State.faulted
  simp only [decide_eq_true_eq, h]

end Passage

theorem State.lanesTakeReading_eq (s : State) (d : Deck) : s.lanesTakeReading d =
    [Lane.l0, .l1, .l2, .l3].foldl (fun t l => if d ∈ (t.laneSettings l).deck.decks then t.takeReading l else t) s := by
  unfold State.lanesTakeReading State.claimed
  simp only [List.contains_iff_mem]
  rfl

/-- Settles O44: the passage by the lane's state. -/
theorem passageFollowsItsConditions : Obligations.PassageFollowsItsConditions := by
  refine ⟨fun s l => ?_, State.lanesTakeReading_eq⟩
  intro u w onto
  have passage {st : LaneState} (h : u.state = st) : s.evalPassage l = s.evalIn l st := State.evalPassage_eq h
  refine ⟨fun state => ⟨fun met => ?_, fun unmet => ?_⟩, fun state => ⟨fun met => ?_, fun unmet => ?_⟩,
    fun state => ⟨fun met => ?_, fun unmet => ?_⟩, fun state => ⟨fun met => ?_, fun unmet => ?_⟩,
    fun state => ⟨fun met t eq => ?_, fun unmet => ?_⟩, fun other => ?_, fun state => if_pos state, fun state => if_neg state⟩
  · exact (passage state).trans ((if_pos met).trans (State.ite_faulted (State.evalPassage_enter _ l .positioning _).symm))
  · exact (passage state).trans (if_neg unmet)
  · exact (passage state).trans (if_pos (by rwa [LaneReading.loaded_iff]))
  · exact (passage state).trans (if_neg (by rwa [LaneReading.loaded_iff]))
  · exact (passage state).trans ((if_pos met).trans (State.ite_faulted (State.evalPassage_enter _ l .clearing _).symm))
  · exact (passage state).trans (if_neg unmet)
  · exact (passage state).trans ((if_pos (by rwa [LaneReading.unloaded_iff])).trans
      (State.ite_faulted (State.evalPassage_enter _ l .clearing _).symm))
  · exact (passage state).trans (if_neg (by rwa [LaneReading.unloaded_iff]))
  · subst eq
    refine (passage state).trans ((if_pos (by rwa [LaneReading.unloaded_iff])).trans (congrArg State.examine ?_))
    exact State.raiseNotice_eq (s := s) (t := (s.releaseDecks l).enter l .idle false) rfl rfl rfl rfl ..
  · exact (passage state).trans (if_neg (by rwa [LaneReading.unloaded_iff]))
  · refine (passage rfl).trans ?_
    generalize u.state = st at other
    cases st <;> first | rfl | exact absurd other (by decide)

end Sys2Proof.Machine
end

section
/-! Holds and captures leave the claims alone; the arbiter grants claims until none is grantable (R71 to R74). -/

namespace Sys2Proof.Machine

/-! ### What holds and captures leave -/

/-- A station's attention mask and its levels in progress. -/
def NoticeState.sets (n : NoticeState) : List Nat × List Nat := (n.mask, n.inProgress)

/-- `t` has the claims of `s`, and each station its mask and its levels in progress. -/
structure Aside (s t : State) : Prop where
  claims : t.claims = s.claims
  sets : ∀ st, (t.notices.get st).sets = (s.notices.get st).sets

theorem Aside.refl (s : State) : Aside s s := ⟨rfl, fun _ => rfl⟩

theorem Aside.trans {s t u : State} (h : Aside s t) (k : Aside t u) : Aside s u :=
  ⟨k.claims.trans h.claims, fun st => (k.sets st).trans (h.sets st)⟩

theorem Aside.foldl {α : Type} (f : State → α → State) (h : ∀ t a, Aside t (f t a)) (l : List α) (s : State) :
    Aside s (l.foldl f s) :=
  List.foldlRecOn l f (motive := fun t => Aside s t) (.refl s) fun t sofar a _ => sofar.trans (h t a)

/-- A notice joins a station's queue; the station's sets stay. -/
theorem NoticeState.join_sets (n : NoticeState) (q : Notice) : (n.join q).sets = n.sets := by
  unfold NoticeState.join
  repeat' split
  all_goals rfl

section Aside

variable (s : State) (l : Lane)

theorem Aside.raiseNotice (k : NoticeKind) (lane : Option Lane) (d : Option Deck) (n c : Nat) (vs : List Int) :
    Aside s (s.raiseNotice k lane d n c vs) := by
  refine ⟨rfl, fun st => ?_⟩
  unfold State.raiseNotice State.route
  simp only [PerStation.get_ofFn]
  split
  · rfl
  · exact NoticeState.join_sets ..

/-- A notice raised behind other changes. -/
theorem Aside.raises {s t : State} (h : Aside s t) (k : NoticeKind) (lane : Option Lane) (d : Option Deck) (n c : Nat)
    (vs : List Int) : Aside s (t.raiseNotice k lane d n c vs) := h.trans (.raiseNotice ..)

theorem Aside.setLane (v : LaneUnit) : Aside s (s.setLane l v) := ⟨rfl, fun _ => rfl⟩

theorem Aside.enter (st : LaneState) (keep : Bool) : Aside s (s.enter l st keep) := ⟨rfl, fun _ => rfl⟩

theorem Aside.askRaise (i : BarrierId) : Aside s (s.askRaise l i) := ⟨rfl, fun _ => rfl⟩

theorem Aside.askLower (i : BarrierId) : Aside s (s.askLower l i) := ⟨rfl, fun _ => rfl⟩

theorem Aside.journalLowCheck : Aside s s.journalLowCheck := by
  unfold State.journalLowCheck
  split
  · split
    · exact .refl s
    · refine .raises ?_ ..
      exact ⟨rfl, fun _ => rfl⟩
  · exact ⟨rfl, fun _ => rfl⟩

theorem Aside.abandon (r : CaptureReason) : Aside s (s.abandon l r) := by
  unfold State.abandon
  split
  · exact .refl s
  · exact (Aside.setLane ..).trans (.raiseNotice ..)

theorem Aside.enterHold (r : HoldReason) : Aside s (s.enterHold l r) :=
  ((Aside.abandon ..).trans (.setLane ..)).trans (.raiseNotice ..)

theorem Aside.hold (r : HoldReason) : Aside s (s.hold l r) := by
  unfold State.hold
  split
  · exact .refl s
  · split
    · exact .enterHold ..
    · exact .refl s
  · exact (Aside.setLane ..).trans (.raiseNotice ..)
  · exact .enterHold ..

theorem Aside.enterLeaving : Aside s (s.enterLeaving l) := by
  have entered := (Aside.askRaise s l .x).trans (.enter _ l .leaving false)
  unfold State.enterLeaving
  simp only
  split
  · exact entered.trans (.hold ..)
  · exact entered

theorem Aside.permitCapOf (n : Nat) (x : TicketSection) : Aside s (State.permitCapOf n s x) := by
  unfold State.permitCapOf
  simp only
  split
  · refine .raises ?_ ..
    exact ⟨rfl, fun _ => rfl⟩
  · exact .refl s

theorem Aside.permitCaps (j : JournalEntry) : Aside s (s.permitCaps j) := by
  unfold State.permitCaps
  split
  · exact .foldl _ (fun t => .permitCapOf t j.ticket) ..
  · exact .refl s

theorem Aside.closeNotices (j : JournalEntry) : Aside s (s.closeNotices l j) :=
  ((Aside.raiseNotice ..).trans (.permitCaps ..)).trans (.journalLowCheck _)

theorem Aside.applyWeighing (m : CaptureMode) (e : SiteEntry) (w : Weighing) (tare : Option Weighing) :
    Aside s (s.applyWeighing l m e w tare) := by
  unfold State.applyWeighing
  split
  · unfold State.firstWeighing
    refine .raises ?_ ..
    exact ⟨rfl, fun _ => rfl⟩
  · refine .trans ?_ (.closeNotices ..)
    exact ⟨rfl, fun _ => rfl⟩
  · exact ⟨rfl, fun _ => rfl⟩
  · refine .trans ?_ (.closeNotices ..)
    exact ⟨rfl, fun _ => rfl⟩

theorem Aside.recordCapture (c : CaptureContext) : Aside s (s.recordCapture l c) := by
  unfold State.recordCapture
  simp only
  split
  · exact .setLane ..
  · exact (Aside.setLane ..).trans ((Aside.applyWeighing ..).trans (.raiseNotice ..))

theorem Aside.evalCapture : Aside s (s.evalCapture l) := by
  unfold State.evalCapture
  split
  · exact .refl s
  · split
    · exact .setLane ..
    · exact (Aside.recordCapture ..).trans (.enterLeaving ..)

theorem Aside.beginCapture (m : CaptureMode) (code : Option Nat) (origin : Option Station) :
    Aside s (s.beginCapture l m code origin) :=
  (Aside.enter ..).trans ((Aside.setLane ..).trans (.evalCapture ..))

theorem Aside.autoCapture : Aside s (s.autoCapture l) := by
  unfold State.autoCapture
  split
  · exact .beginCapture ..
  · exact .refl s

theorem Aside.enterOnDeck (keep : Bool) : Aside s (s.enterOnDeck l keep) :=
  (Aside.enter ..).trans ((Aside.setLane ..).trans (.autoCapture ..))

theorem Aside.evalPositioning : Aside s (s.evalPositioning l) := by
  unfold State.evalPositioning
  simp only
  split
  · exact .enterOnDeck ..
  · exact .refl s

theorem Aside.evalEntering : Aside s (s.evalEntering l) := by
  have entered := (Aside.askLower s l .a).trans (.enter _ l .positioning false)
  unfold State.evalEntering
  simp only
  split
  · split
    · exact entered.trans (.hold ..)
    · exact entered.trans (.evalPositioning ..)
  · exact .refl s

theorem Aside.activate (k : Condition) : Aside s (s.activate k) := ⟨rfl, fun _ => rfl⟩

theorem Aside.activateWith (k : Condition) (f : State → State) (told : ∀ t, Aside t (f t)) : Aside s (s.activateWith k f) := by
  unfold State.activateWith
  split
  · exact .refl s
  · split
    · exact (Aside.activate s k).trans (told _)
    · exact .activate s k

theorem Aside.deckOut (d : Deck) (cause : Nat) : Aside s (s.deckOut d cause) := by
  unfold State.deckOut
  refine .trans ?_ (.activateWith _ _ _ fun t => .raiseNotice t ..)
  exact ⟨rfl, fun _ => rfl⟩

/-- A grant takes the lane's claim out of the queues, and nothing else. -/
theorem Aside.grant : Aside (s.leaveClaim l) (s.grant l) := by
  have entered : Aside (s.leaveClaim l) ((((s.leaveClaim l).takeDecks l).askRaise l .a).enter l .entering false) :=
    ⟨rfl, fun _ => rfl⟩
  unfold State.grant
  simp only
  split
  · exact entered.trans (.hold ..)
  · exact entered.trans (.evalEntering ..)

end Aside

/-! ### Decks that go out of service at a grant (R34, R74) -/

theorem State.foldl_leaveClaim (ls : List Lane) : ∀ s : State,
    ls.foldl State.leaveClaim s = { s with claims := s.claims.map fun q => q.filter fun m => decide (m ∉ ls) } := by
  induction ls with
  | nil =>
    intro s
    have kept (q : List Lane) : q.filter (fun m => decide (m ∉ ([] : List Lane))) = q :=
      List.filter_eq_self.2 fun m _ => decide_eq_true List.not_mem_nil
    show s = _
    simp only [PerDeck.map, kept]
  | cons l ls ih =>
    intro s
    rw [List.foldl_cons, ih]
    show ({ s with claims := _ } : State) = _
    simp [PerDeck.map, State.leaveClaim, List.filter_filter, Bool.and_comm]

theorem State.announced_nil (s : State) : s.announced [] = s.notices := by
  unfold State.announced
  cases s.notices
  rfl

section DeckOut

variable (s : State) (d : Deck)

/-- A deck out of service. -/
def State.outDeck : DeckUnit := { s.deck d with cal := { (s.deck d).cal with state := .outOfService } }

/-- A deck's CAL_BAD_Dn once its integrity check has failed: one already active stays as it is. -/
def State.calBad : CondState :=
  if (s.condition (calBadCondition d)).active = false then
    { s.condition (calBadCondition d) with active := true, latched := true }
  else s.condition (calBadCondition d)

/-- Whether a deck that goes out of service raises its DECK_OUT. -/
def State.tellsOut : Bool := !(s.condition (calBadCondition d)).active && (s.condition (calBadCondition d)).enable

theorem State.deckOut_eq (cause : Nat) : s.deckOut d cause = { s with
    decks := s.decks.set d (s.outDeck d)
    conditions := s.conditions.set (calBadCondition d) (s.calBad d)
    notices := s.announced (([d].filter s.tellsOut).map fun d => s.notice .deckOut none (some d) 0 cause []) } := by
  have other : Condition.sealAccess ≠ calBadCondition d := by cases d <;> decide
  unfold State.deckOut
  cases active : (s.condition (calBadCondition d)).active with
  | true =>
    have quiet : s.tellsOut d = false := by simp [State.tellsOut, active]
    have same : s.conditions.set (calBadCondition d) (s.calBad d) = s.conditions := by
      rw [State.calBad, if_neg (by rw [active]; decide)]
      cases d <;> rfl
    refine (if_pos active).trans ?_
    rw [same, List.filter_cons_of_neg (by rw [quiet]; decide)]
    show _ = ({ s with decks := _, notices := s.announced [] } : State)
    rw [State.announced_nil]
    rfl
  | false =>
    have bad : s.calBad d = { s.condition (calBadCondition d) with active := true, latched := true } := if_pos active
    refine (State.activateWith_inactive (s := s.setDeck d (s.outDeck d)) _ active).trans ?_
    cases enable : (s.condition (calBadCondition d)).enable with
    | true =>
      have tells : s.tellsOut d = true := by simp [State.tellsOut, active, enable]
      rw [List.filter_cons_of_pos tells, bad]
      refine (if_pos enable).trans ?_
      apply State.raiseNotice_eq (s := s)
      case position => exact s.sealOpen_setCondition _ other
      all_goals rfl
    | false =>
      have quiet : s.tellsOut d = false := by simp [State.tellsOut, enable]
      refine (if_neg (Bool.eq_false_iff.1 enable)).trans ?_
      rw [bad, List.filter_cons_of_neg (by rw [quiet]; decide)]
      show _ = ({ s with decks := _, conditions := _, notices := s.announced [] } : State)
      rw [State.announced_nil]
      rfl

end DeckOut

/-- Decks out of service, D0 first. -/
theorem State.decksOut_eq (s : State) {ds : List Deck} (some_ : ds = [.d0] ∨ ds = [.d1] ∨ ds = [.d0, .d1]) :
    ds.foldl (fun t d => t.deckOut d 0) s = { s with
      decks := {
        d0 := if .d0 ∈ ds then s.outDeck .d0 else s.deck .d0
        d1 := if .d1 ∈ ds then s.outDeck .d1 else s.deck .d1 }
      conditions := { s.conditions with
        calBad0 := if .d0 ∈ ds then s.calBad .d0 else s.condition .calBad0
        calBad1 := if .d1 ∈ ds then s.calBad .d1 else s.condition .calBad1 }
      notices := s.announced ((ds.filter s.tellsOut).map fun d => s.notice .deckOut none (some d) 0 0 []) } := by
  obtain rfl | rfl | rfl := some_
  · exact s.deckOut_eq .d0 0
  · exact s.deckOut_eq .d1 0
  · have first := s.deckOut_eq .d0 0
    show (s.deckOut .d0 0).deckOut .d1 0 = _
    generalize s.deckOut .d0 0 = t at first ⊢
    have position : t.sealOpen = s.sealOpen := by rw [first]; rfl
    have tells : t.tellsOut .d1 = s.tellsOut .d1 := by rw [first]; rfl
    have note : t.notice .deckOut none (some Deck.d1) 0 0 [] = s.notice .deckOut none (some Deck.d1) 0 0 [] :=
      State.notice_congr (by rw [first]) (by rw [first]) ..
    have told : ∀ ns, t.announced ns = _ :=
      State.announced_announced (s := s) (t := t) (by rw [first]) position (by rw [first])
    have split_ : [Deck.d0, .d1].filter s.tellsOut = [Deck.d0].filter s.tellsOut ++ [Deck.d1].filter s.tellsOut :=
      List.filter_append [Deck.d0] [Deck.d1]
    have same : [Deck.d1].filter t.tellsOut = [Deck.d1].filter s.tellsOut :=
      List.filter_congr fun d mem => List.mem_singleton.1 mem ▸ tells
    have notes : ([Deck.d1].filter s.tellsOut).map (fun d => t.notice .deckOut none (some d) 0 0 [])
        = ([Deck.d1].filter s.tellsOut).map fun d => s.notice .deckOut none (some d) 0 0 [] :=
      List.map_congr_left fun d mem => List.mem_singleton.1 (List.mem_filter.1 mem).1 ▸ note
    rw [State.deckOut_eq, told, split_, List.map_append, same, notes, first]
    rfl

/-! ### The examination (R72) -/

section Examine

variable {s : State} {l : Lane}

theorem DeckSel.decks_ne_nil (c : DeckSel) : c.decks ≠ [] := by cases c <;> nofun

theorem State.nextGrant_isSome (h : s.grantable l = true) : s.nextGrant.isSome = true := by
  obtain ⟨_, ready⟩ := State.grantable_iff.1 h
  obtain ⟨d, mem⟩ := List.exists_mem_of_ne_nil _ ((s.laneSettings l).deck.decks_ne_nil)
  obtain ⟨head, _⟩ := ready d mem
  unfold State.nextGrant
  refine List.find?_isSome.2 ⟨l, List.mem_append.2 ?_, h⟩
  cases d
  · exact .inl (Option.mem_toList.2 head)
  · exact .inr (Option.mem_toList.2 head)

/-- How many claims wait in the two queues. -/
def State.waiting (s : State) : Nat := s.claims.d0.length + s.claims.d1.length

theorem State.waiting_lt {t : State} {p : Lane → Bool} {d : Deck} (claims : t.claims = s.claims.map fun q => q.filter p)
    (mem : l ∈ s.claims.get d) (leaves : p l = false) : t.waiting < s.waiting := by
  have le (q : List Lane) : (q.filter p).length ≤ q.length := List.length_filter_le p q
  have lt : ((s.claims.get d).filter p).length < (s.claims.get d).length :=
    List.length_filter_lt_length_iff_exists.2 ⟨l, mem, Bool.eq_false_iff.1 leaves⟩
  unfold State.waiting
  rw [claims]
  cases d
  · exact Nat.add_lt_add_of_lt_of_le lt (le _)
  · exact Nat.add_lt_add_of_le_of_lt (le _) lt

/-- The claims that leave with the decks that fail their check. -/
theorem State.failGrant_claims (s : State) (ds : List Deck) :
    (s.failGrant ds).claims = s.claims.map fun q => q.filter fun m => decide (m ∉ s.claimants ds) := by
  unfold State.failGrant
  simp only
  rw [(Aside.foldl _ (fun t l => .hold t l .deckOut) _ _).claims, State.foldl_leaveClaim]
  simp only
  rw [(Aside.foldl _ (fun t d => .deckOut t d 0) _ _).claims]

/-- A grantable claim that is taken leaves the queues, granted or not. -/
theorem State.takeGrant_waiting (h : s.grantable l = true) : (s.takeGrant l).waiting < s.waiting := by
  obtain ⟨_, ready⟩ := State.grantable_iff.1 h
  have first {d : Deck} (mem : d ∈ s.claimed l) : l ∈ s.claims.get d := List.mem_of_mem_head? (ready d mem).1
  unfold State.takeGrant
  split
  next =>
    obtain ⟨d, mem⟩ := List.exists_mem_of_ne_nil _ ((s.laneSettings l).deck.decks_ne_nil)
    exact State.waiting_lt (Aside.grant s l).claims (first mem) (decide_eq_false (not_not_intro rfl))
  next ds failing =>
    obtain ⟨d, mem⟩ := List.exists_mem_of_ne_nil _ failing
    have waits : l ∈ s.claims.get d := first (List.mem_filter.1 mem).1
    have claimant : l ∈ s.claimants _ := List.mem_filter.2 ⟨(by cases l <;> decide), List.any_eq_true.2 ⟨d, mem, List.contains_iff_mem.2 waits⟩⟩
    exact State.waiting_lt (State.failGrant_claims s _) waits (decide_eq_false (not_not_intro claimant))

theorem State.waiting_le (h : s.claimsCoherent = true) : s.waiting ≤ 8 := by
  have each (d : Deck) : (s.claims.get d).length ≤ 4 :=
    length_le_of_nodup ((State.claimsCoherent_iff.1 h).1 d) (ys := Lane.all) fun l _ => by cases l <;> decide
  exact Nat.add_le_add (each .d0) (each .d1)

/-- With a round for each claim the examination ends where none is grantable. -/
theorem State.examineFor_ends (n : Nat) : ∀ s : State, s.waiting ≤ n → (s.examineFor n).nextGrant = none := by
  induction n with
  | zero =>
    intro s few
    refine Option.eq_none_iff_forall_ne_some.2 fun l next => ?_
    change s.nextGrant = some l at next
    exact absurd (State.takeGrant_waiting (State.grantable_of_nextGrant next)) (by omega)
  | succ n ih =>
    intro s few
    unfold State.examineFor
    split
    next none => exact none
    next l next =>
      have less := State.takeGrant_waiting (State.grantable_of_nextGrant next)
      exact ih _ (by omega)

theorem State.examineFor_none {n : Nat} (h : s.nextGrant = none) : s.examineFor n = s := by
  cases n with
  | zero => rfl
  | succ n =>
    unfold State.examineFor
    rw [h]

theorem State.examineFor_some {n : Nat} (h : s.nextGrant = some l) :
    s.examineFor (n + 1) = (s.takeGrant l).examineFor n := by
  show (match s.nextGrant with | none => s | some l => State.examineFor n (s.takeGrant l)) = _
  rw [h]

/-- A round more changes nothing. -/
theorem State.examineFor_succ (n : Nat) : ∀ s : State, s.waiting ≤ n → s.examineFor (n + 1) = s.examineFor n := by
  induction n with
  | zero =>
    intro s few
    exact State.examineFor_none (State.examineFor_ends 0 s few)
  | succ n ih =>
    intro s few
    cases next : s.nextGrant with
    | none => rw [State.examineFor_none next, State.examineFor_none next]
    | some l =>
      have less := State.takeGrant_waiting (State.grantable_of_nextGrant next)
      rw [State.examineFor_some next, State.examineFor_some next, ih _ (by omega)]

end Examine

theorem State.takeDecks_eq (s : State) (l : Lane) : s.takeDecks l = { s with holders := {
    d0 := if (s.laneSettings l).deck = .d1 then s.holders.d0 else some l
    d1 := if (s.laneSettings l).deck = .d0 then s.holders.d1 else some l } } := by
  unfold State.takeDecks State.claimed
  cases (s.laneSettings l).deck <;> rfl

theorem DeckSel.filter_decks {c : DeckSel} {p : Deck → Bool} (some_ : c.decks.filter p ≠ []) :
    c.decks.filter p = [.d0] ∨ c.decks.filter p = [.d1] ∨ c.decks.filter p = [.d0, .d1] := by
  revert some_
  cases c <;> cases h0 : p .d0 <;> cases h1 : p .d1 <;> simp [DeckSel.decks, h0, h1]

theorem State.failGrant_eq (s : State) {ds : List Deck} (some_ : ds = [.d0] ∨ ds = [.d1] ∨ ds = [.d0, .d1]) :
    s.failGrant ds = (s.claimants ds).foldl (fun t l => t.hold l .deckOut) { s with
      decks := {
        d0 := if .d0 ∈ ds then s.outDeck .d0 else s.deck .d0
        d1 := if .d1 ∈ ds then s.outDeck .d1 else s.deck .d1 }
      conditions := { s.conditions with
        calBad0 := if .d0 ∈ ds then s.calBad .d0 else s.condition .calBad0
        calBad1 := if .d1 ∈ ds then s.calBad .d1 else s.condition .calBad1 }
      notices := s.announced ((ds.filter s.tellsOut).map fun d => s.notice .deckOut none (some d) 0 0 [])
      claims := s.claims.map fun q => q.filter fun m => decide (m ∉ s.claimants ds) } := by
  unfold State.failGrant
  simp only
  rw [State.foldl_leaveClaim, State.decksOut_eq s some_]

/-- Settles O45: the grant and its failure from their equations, the examination by the claims that wait. -/
theorem claimsAreGranted : Obligations.ClaimsAreGranted := by
  refine ⟨fun s l => ⟨State.grantable_iff, s.joinClaim_eq l, fun intact t eq => ?_, fun failing eq some_ => ?_⟩,
    fun s coherent => ⟨State.examineFor_none, fun l next => ⟨State.grantable_of_nextGrant next, ?_⟩, fun l => ?_⟩⟩
  · subst eq
    have passes : (s.claimed l).filter (fun d => !(s.deck d).cal.committed.intact) = [] := by
      refine List.filter_eq_nil_iff.2 fun d mem => ?_
      rw [intact d mem]
      decide
    have granted : s.takeGrant l = s.grant l := by
      unfold State.takeGrant
      rw [passes]
    rw [granted]
    unfold State.grant
    rw [State.takeDecks_eq]
    exact State.ite_faulted (State.evalPassage_enter _ l .entering _).symm
  · have failed : s.takeGrant l = s.failGrant failing := by
      unfold State.takeGrant
      rw [show (s.claimed l).filter (fun d => !(s.deck d).cal.committed.intact) = failing from eq.symm]
      cases failing with
      | nil => exact absurd rfl some_
      | cons d ds => rfl
    rw [failed, State.failGrant_eq s (by subst eq; exact DeckSel.filter_decks some_)]
    simp only [ite_ite_of_and]
    rfl
  · have few := State.waiting_le coherent
    have less := State.takeGrant_waiting (State.grantable_of_nextGrant next)
    exact (State.examineFor_some next).trans (State.examineFor_succ 7 _ (by omega)).symm
  · refine Bool.eq_false_iff.2 fun grantable => ?_
    have none : s.examine.nextGrant = none := State.examineFor_ends 8 s (State.waiting_le coherent)
    exact absurd (State.nextGrant_isSome grantable) (by rw [none]; decide)

end Sys2Proof.Machine
end

section
/-! Captures begin, time out and are evaluated (R91 to R102). -/

namespace Sys2Proof.Machine

/-! ### A capture begins (R91, R92, R94) -/

theorem State.beginCapture_eq (s : State) (l : Lane) (mode : CaptureMode) (code : Option Nat) (origin : Option Station) :
    s.beginCapture l mode code origin = ({ s with
      lanes := s.lanes.set l { s.lane l with
        state := .weighing
        holdReason := none
        heldFrom := none
        dwell := some (s.laneSettings l).dwell.weighing
        marks := Marks.clear
        lastRefused := none
        go := false
        armed := true
        capture := some { mode := mode, sectionCode := code, origin := origin, pending := .status } } } : State).evalCapture l := by
  unfold State.beginCapture
  rw [State.enter_eq]
  refine congrArg (State.evalCapture · l) ?_
  show ({ s with lanes := (s.lanes.set l _).set l { (s.lanes.set l _).get l with armed := _, capture := _ } } : State) = _
  rw [PerLane.set_set, PerLane.get_set, if_pos rfl]
  rfl

theorem CaptureMode.ofNat?_of_eq {n : Nat} {m : CaptureMode} (h : n = m.toNat) : CaptureMode.ofNat? n = some m := by
  subst h
  cases m <;> rfl

/-- The mode of a capture: the one named, or the lane's direction's. -/
theorem captureMode_eq {mode : Option Byte} {m default : CaptureMode} (none : mode = none → m = default)
    (named : ∀ x, mode = some x → x.toNat = m.toNat) :
    (mode.bind fun x => CaptureMode.ofNat? x.toNat).getD default = m := by
  cases mode with
  | none => exact (none rfl).symm
  | some x =>
    rw [Option.bind_some, CaptureMode.ofNat?_of_eq (named x rfl)]
    rfl

theorem defaultMode_eq (d : Direction) : defaultMode d = if d = .inbound then .first else .final := by cases d <;> rfl

theorem wasteOptOk_iff {waste : Option Byte} : wasteOptOk waste = true ↔ ∀ w, waste = some w → 1 ≤ w.toNat ∧ w.toNat ≤ 32 := by
  cases waste with
  | none => simp [wasteOptOk]
  | some w => simp [wasteOptOk, wasteOk, within]

theorem captureOperands_iff {mode waste : Option Byte} :
    ((mode.all fun m => (CaptureMode.ofNat? m.toNat).isSome) && wasteOptOk waste) = true ↔
      (∀ m, mode = some m → m.toNat < 3) ∧ ∀ w, waste = some w → 1 ≤ w.toNat ∧ w.toNat ≤ 32 := by
  rw [Bool.and_eq_true, wasteOptOk_iff, Option.all_eq_true]
  simp only [← CaptureMode.lt_three, decide_eq_true_eq]

theorem State.captureSuits_iff {s : State} {l : Lane} {m : CaptureMode} {code : Option Nat} {count : Nat}
    (counted : count = ((s.boundEntry? l).map fun e => e.weighings.length).getD 0) : s.captureSuits l m code = true ↔
      ((s.laneSettings l).direction = .inbound ∧ m = .first ∧ code = none)
        ∨ ((s.laneSettings l).direction = .outbound ∧ ((m = .intermediate ∧ count < 4) ∨ (m = .final ∧ count < 5))) := by
  unfold State.captureSuits
  rw [← counted]
  cases (s.laneSettings l).direction <;> cases m <;> simp

theorem State.autoDue_iff {s : State} {l : Lane} : s.autoDue l = true ↔
    (s.lane l).state = .onDeck ∧ (s.laneSettings l).autoCapture = true ∧ (s.lane l).armed = true
      ∧ s.attending.get l = none ∧ ∃ e, s.boundEntry? l = some e ∧ e.weighings.length < 5 := by
  simp [State.autoDue, Option.any_eq_true, and_assoc]

/-! ### The settle timeout (R102) -/

theorem State.settleFailure_eq (s : State) (l : Lane) (c : CaptureContext) : s.settleFailure l c = { s with
    lanes := s.lanes.set l { s.lane l with
      state := .onDeck
      holdReason := none
      heldFrom := none
      dwell := some (s.laneSettings l).dwell.onDeck
      marks := Marks.clear
      lastRefused := none
      go := false
      armed := false
      capture := none }
    notices := s.announced [s.notice .captureFailed (some l) (s.laneSettings l).deck.noticeDeck (s.boundTicket l)
      (c.pending.toNat + 10 * (c.mode.toNat + 3 * originNat c.origin)) []] } := by
  have failed : (s.setLane l { s.lane l with capture := none }).captureFailed l c c.pending = { s with
      lanes := s.lanes.set l { s.lane l with capture := none }
      notices := s.announced [s.notice .captureFailed (some l) (s.laneSettings l).deck.noticeDeck (s.boundTicket l)
        (c.pending.toNat + 10 * (c.mode.toNat + 3 * originNat c.origin)) []] } := by
    apply State.raiseNotice_eq (s := s) <;> rfl
  unfold State.settleFailure
  rw [failed, State.enter_eq]
  show ({ s with
    lanes := ((s.lanes.set l _).set l _).set l { ((s.lanes.set l _).set l _).get l with armed := false }
    notices := _ } : State) = _
  rw [PerLane.set_set, PerLane.set_set, PerLane.set_set, PerLane.get_set, if_pos rfl, State.lane, PerLane.get_set, if_pos rfl]
  rfl

/-! ### CAPTURE -/

/-- What CAPTURE does with a lane that it controls. -/
def captureHandler (r : Req) (mode waste : Option Byte) (l : Lane) : Handler := fun s =>
  let m := (mode.bind fun m => CaptureMode.ofNat? m.toNat).getD (defaultMode (s.laneSettings l).direction)
  let code := waste.map fun w => w.toNat
  if (s.lane l).state ≠ .onDeck then (s, .plain .wrongState)
  else if s.captureSuits l m code = false then (s, .plain .range)
  else (s.beginCapture l m code (some r.station), .plain .accepted)

theorem execCapture_lane {s : State} {r : Req} {b : Byte} {mode waste : Option Byte} {l : Lane} (hb : b.toNat = l.toNat) :
    exec (.capture r b mode waste) s = .next (s.takeRequest r 0x29 false (
      inRange ((mode.all fun m => (CaptureMode.ofNat? m.toNat).isSome) && wasteOptOk waste)
        (needControl r.station (.lane l) .lane (captureHandler r mode waste l)))) :=
  congrArg (fun h => Host.Outcome.next (s.takeRequest r 0x29 false h)) (withLane_some (Lane.ofNat?_of_eq hb) _)

/-- Settles O46: the checks of CAPTURE, and the captures that begin and time out. -/
theorem capturesBeginAndTimeOut : Obligations.CapturesBeginAndTimeOut := by
  refine ⟨fun s r b mode waste out h => ?_, fun s r b mode waste l hb => ⟨fun out h => ?_, fun fits h => ?_⟩,
    fun s l => ⟨fun idle => if_neg (mt State.autoDue_iff.1 idle), fun due => ?_⟩,
    fun s l => ⟨fun c weighing capture => ?_, fun away => ?_, fun runs away => ?_, fun none => ?_⟩⟩
  · refine congrArg _ ((congrArg (s.takeRequest r 0x29 false) (withLane_none (Lane.ofNat?_of_four_le out) _)).trans ?_)
    exact State.takeRequest_outOfRange h
  · refine (execCapture_lane hb).trans (congrArg _ ?_)
    rw [Bool.eq_false_iff.2 ((not_congr captureOperands_iff).2 out), inRange_false]
    exact State.takeRequest_outOfRange h
  · have taken : exec (.capture r b mode waste) s = .next (s.takeRequest r 0x29 false
        (needControl r.station (.lane l) .lane (captureHandler r mode waste l))) := by
      refine (execCapture_lane hb).trans ?_
      rw [captureOperands_iff.2 fits, inRange_true]
    refine ⟨fun away => taken.trans (congrArg _ (State.takeRequest_controlRefused h (if_pos away))), ?_⟩
    intro m count onDeck none named counted
    have mode_eq : (mode.bind fun x => CaptureMode.ofNat? x.toNat).getD (defaultMode (s.laneSettings l).direction) = m := by
      rw [defaultMode_eq]
      exact captureMode_eq none named
    have suits : (s.heard r.station).captureSuits l m (waste.map fun w => w.toNat) = true ↔ _ :=
      State.captureSuits_iff (s := s.heard r.station) counted
    have handler : captureHandler r mode waste l (s.heard r.station) =
        if (s.heard r.station).captureSuits l m (waste.map fun w => w.toNat) = false then (s.heard r.station, .plain .range)
        else ((s.heard r.station).beginCapture l m (waste.map fun w => w.toNat) (some r.station), .plain .accepted) := by
      rw [← mode_eq]
      exact if_neg (not_not_intro onDeck)
    rw [Option.map_eq_none_iff] at suits
    refine ⟨fun unsuited => ?_, fun suited => ?_⟩
    · exact taken.trans (congrArg _ (State.takeRequest_controlRefused h
        (handler.trans (if_pos (Bool.eq_false_iff.2 (mt suits.1 unsuited))))))
    · refine taken.trans (congrArg _ ?_)
      rw [s.takeRequest_takes r 0x29 false _ h.1, needControl_controls h, handler,
        if_neg (ne_false_of_eq_true (suits.2 suited)), State.beginCapture_eq]
      rfl
  · refine (if_pos (State.autoDue_iff.2 due)).trans ((State.beginCapture_eq ..).trans ?_)
    rw [defaultMode_eq]
  · have fails : exec (.settleTimeout l) s = .next (s.settleFailure l c) := by
      show execSettleTimeout l s = _
      unfold execSettleTimeout
      rw [weighing, capture]
    rw [fails, State.settleFailure_eq]
  · show execSettleTimeout l s = _
    unfold execSettleTimeout
    split
    next weighing _ => exact absurd weighing away
    next => rfl
  · exact congrArg _ (if_pos ⟨Option.ne_none_iff_isSome.1 runs, away⟩)
  · refine congrArg _ (if_neg ?_)
    rintro ⟨runs, away⟩
    obtain stopped | weighing := none
    · exact Option.ne_none_iff_isSome.2 runs stopped
    · exact away weighing

/-! ### The capture conditions (R61, R95, R97, R99) -/

section Evaluate

variable {s : State} {l : Lane} {c : CaptureContext}

theorem State.laneReading_single {d : Deck} (single : (s.laneSettings l).deck.decks = [d]) :
    s.laneReading l = (s.deck d).laneReading := by
  unfold State.laneReading
  revert single
  cases (s.laneSettings l).deck <;> rintro ⟨⟩ <;> rfl

theorem State.evalCapture_pends (capture : (s.lane l).capture = some c) {reason : CaptureReason}
    (unmet : s.unmet l = some reason) :
    s.evalCapture l = { s with lanes := s.lanes.set l { s.lane l with capture := some { c with pending := reason } } } := by
  unfold State.evalCapture
  rw [capture]
  show (match s.unmet l with | some r => _ | none => _) = _
  rw [unmet]
  rfl

/-- The conditions behind a valid and stable reading. -/
theorem State.unmet_still (valid : (s.laneReading l).status = .valid) (stable : (s.laneReading l).stable = true) :
    s.unmet l =
      if (s.lane l).eb = true ∨ (s.lane l).xb = true then some .position
      else if (s.laneReading l).w < 20 * ((s.laneReading l).division : Int) then some .belowMin
      else if ((s.laneReading l).capacity : Int) < (s.laneReading l).w then some .aboveMax
      else if (s.condition .storeFault).latched = true then some .storeFault
      else if s.slotFree = false then some .storeBusy
      else none :=
  (if_neg (not_not_intro valid)).trans (if_neg (ne_false_of_eq_true stable))

/-- The conditions of the store, behind those of the lane. -/
theorem State.unmet_store (valid : (s.laneReading l).status = .valid) (stable : (s.laneReading l).stable = true)
    (eb : (s.lane l).eb = false) (xb : (s.lane l).xb = false)
    (loaded : 20 * ((s.laneReading l).division : Int) ≤ (s.laneReading l).w)
    (within : (s.laneReading l).w ≤ (s.laneReading l).capacity) :
    s.unmet l = if (s.condition .storeFault).latched = true then some .storeFault
      else if s.slotFree = false then some .storeBusy else none :=
  (State.unmet_still valid stable).trans ((if_neg (by rw [eb, xb]; decide)).trans
    ((if_neg (Int.not_lt.2 loaded)).trans (if_neg (Int.not_lt.2 within))))

/-- The lane of a success asks barrier X to rise as it enters LEAVING. -/
theorem State.evalCapture_succeeds (capture : (s.lane l).capture = some c) (met : s.unmet l = none) : s.evalCapture l =
    let t := ((s.recordCapture l c).askRaise l .x).enter l .leaving false
    if (s.lane l).barrierX.state = .fault then t.hold l .barrierFault else t := by
  have succeeds : s.evalCapture l = (s.recordCapture l c).enterLeaving l := by
    unfold State.evalCapture
    rw [capture]
    show (match s.unmet l with | some r => _ | none => _) = _
    rw [met]
  have barrier : ((s.recordCapture l c).lane l).barrierX = (s.lane l).barrierX := by
    rw [(SameLanes.recordCapture s l c).lane, State.lane_setLane, if_pos rfl]
  rw [succeeds, ← barrier]
  exact State.ite_faulted rfl

end Evaluate

/-- Settles O47: the reading by the lane's deck setting, and the conditions in their order. -/
theorem capturesAreEvaluated : Obligations.CapturesAreEvaluated := by
  refine ⟨fun s l => ⟨fun d => State.laneReading_single, fun both => ?_⟩, fun s l c capture => ?_⟩
  · unfold State.laneReading
    rw [both]
    rfl
  · intro w pends
    refine ⟨fun bad => ?_, fun valid => ⟨fun moves => ?_, fun stable => ⟨fun broken => ?_, fun eb xb => ⟨fun below => ?_,
      fun loaded => ⟨fun above => ?_, fun within => ⟨fun fault => ?_, fun sound => ⟨fun full => ?_, fun free t eq => ?_⟩⟩⟩⟩⟩⟩⟩
    · exact State.evalCapture_pends capture (if_pos bad)
    · exact State.evalCapture_pends capture ((if_neg (not_not_intro valid)).trans (if_pos moves))
    · exact State.evalCapture_pends capture ((State.unmet_still valid stable).trans (if_pos broken))
    · exact State.evalCapture_pends capture ((State.unmet_still valid stable).trans
        ((if_neg (by rw [eb, xb]; decide)).trans (if_pos below)))
    · exact State.evalCapture_pends capture ((State.unmet_still valid stable).trans
        ((if_neg (by rw [eb, xb]; decide)).trans ((if_neg (Int.not_lt.2 loaded)).trans (if_pos above))))
    · exact State.evalCapture_pends capture ((State.unmet_store valid stable eb xb loaded within).trans (if_pos fault))
    · exact State.evalCapture_pends capture ((State.unmet_store valid stable eb xb loaded within).trans
        ((if_neg (Bool.eq_false_iff.1 sound)).trans (if_pos (decide_eq_false (Nat.not_lt.2 full)))))
    · subst eq
      exact State.evalCapture_succeeds capture ((State.unmet_store valid stable eb xb loaded within).trans
        ((if_neg (Bool.eq_false_iff.1 sound)).trans (if_neg (ne_false_of_eq_true (decide_eq_true free)))))

end Sys2Proof.Machine
end

section
/-! ADMIT and the tag arrivals (R44, R65, R66, R69). -/

namespace Sys2Proof.Machine

/-! ### ADMIT -/

/-- What ADMIT does with a lane that it controls. -/
def admitHandler (f : AdmitFields) (l : Lane) : Handler := fun s =>
  if AdmitFields.suits f (s.laneSettings l).direction = false then (s, .plain .range)
  else if (s.lane l).state ≠ .idle then (s, .plain .wrongState)
  else if (s.lane l).al = false then (s, .plain .wrongState)
  else
    match s.admitRefusal l (AdmitFields.identity f) with
    | some reason => (s.refuseAdmission l reason, .plain reason)
    | none => (s.accept l (AdmitFields.identity f), .plain .accepted)

theorem execAdmit_lane {s : State} {r : Req} {b : Byte} {f : AdmitFields} {l : Lane} (hb : b.toNat = l.toNat) :
    exec (.admitVehicle r b f) s = .next (s.takeRequest r 0x24 false (
      inRange (AdmitFields.ok f) (needControl r.station (.lane l) .lane (admitHandler f l)))) :=
  congrArg (fun h => Host.Outcome.next (s.takeRequest r 0x24 false h)) (withLane_some (Lane.ofNat?_of_eq hb) _)

theorem AdmitFields.suits_iff {f : AdmitFields} {d : Direction} : AdmitFields.suits f d = true ↔
    (d = .inbound ∧ f.ticket = 0) ∨ (d = .outbound ∧ f.kind = none ∧ f.waste = none ∧ f.account = none ∧ f.hazard = none
      ∧ (f.tag ≠ none ∨ f.ticket ≠ 0)) := by
  cases d <;> simp [AdmitFields.suits, and_assoc, Option.isSome_iff_ne_none]

/-! ### The entry of an admission (R69, R119) -/

/-- An entry that comes behind every other goes to the end. -/
theorem insertSite_last {e : SiteEntry} {es : List SiteEntry} (h : ∀ x ∈ es, x.ordinal < e.ordinal) :
    insertSite e es = es ++ [e] := by
  induction es with
  | nil => rfl
  | cons x xs ih =>
    obtain ⟨first, others⟩ := List.forall_mem_cons.1 h
    have behind : ¬(e.ordinal < x.ordinal ∨ (e.ordinal = x.ordinal ∧ e.slot < x.slot)) := by omega
    exact (if_neg behind).trans (congrArg (x :: ·) (ih others))

theorem lowestFree_lowest {n i : Nat} {used : List Nat} (h : lowestFree n used = some i) : ∀ j < i, j ∈ used := by
  intro j low
  have taken := (List.find?_range_eq_some.1 h).2.2 j low
  simpa using taken

section Entry

variable {s : State} {l : Lane} {i : Identity}

/-- An INBOUND admission has a waste code. -/
theorem State.admitWaste_ne_none (passes : s.inboundRefusal l i = none) : s.admitWaste i ≠ none := by
  intro absent
  rw [State.inboundRefusal] at passes
  repeat' split at passes
  all_goals simp_all

theorem State.freeSiteSlot_eq (passes : s.inboundRefusal l i = none) :
    s.freeSiteSlot = some (s.reservedEntry l i).slot := by
  have room : s.siteHasRoom = true := by
    rw [State.inboundRefusal] at passes
    repeat' split at passes
    all_goals simp_all
  obtain ⟨slot, free⟩ := Option.isSome_iff_exists.1 (Bool.and_eq_true_iff.1 room).1
  rw [free, State.reservedEntry, free]
  rfl

theorem State.bindAdmission_inbound (inbound : (s.laneSettings l).direction = .inbound) :
    s.bindAdmission l i = ({ s with site := {
      entries := insertSite (s.reservedEntry l i) s.site.entries
      nextOrdinal := if s.site.nextOrdinal < max32 then s.site.nextOrdinal + 1 else s.site.nextOrdinal } }, 0) := by
  unfold State.bindAdmission
  rw [inbound]

theorem State.bindAdmission_outbound (outbound : (s.laneSettings l).direction = .outbound) {e : SiteEntry}
    (found : s.outboundEntry i = some e) :
    s.bindAdmission l i = (s.updateSite e.slot fun x => { x with boundLane := some l }, e.ticket) := by
  unfold State.bindAdmission
  rw [outbound, found]

/-- An admission changes the site register, and goes on with the claim, the lane and the notice. -/
theorem State.accept_site (s : State) (l : Lane) (i : Identity) : s.accept l i =
    ({ (({ s with site := (s.bindAdmission l i).1.site } : State).joinClaim l).enter l .admitting false with
      notices := s.announced [s.notice .admitted (some l) none (s.bindAdmission l i).2 0 []] } : State).journalLowCheck.examine := by
  have site : (s.bindAdmission l i).1 = { s with site := (s.bindAdmission l i).1.site } := by
    unfold State.bindAdmission
    split
    · rfl
    · split <;> rfl
  unfold State.accept
  simp only
  rw [site]
  refine congrArg (fun t => (State.journalLowCheck t).examine) ?_
  rw [State.joinClaim_eq]
  apply State.raiseNotice_eq (s := s) <;> rfl

end Entry

/-- Settles O49: ADMIT by its operands and cases, the tag arrival by the lane, and the admission itself. -/
theorem vehiclesAreAdmitted : Obligations.VehiclesAreAdmitted := by
  refine ⟨fun s r b f out h => ?_, fun s r b f l hb => ⟨fun bad h => ?_, fun ok h => ?_⟩, fun s l t given => ?_,
    fun s l i passes => ?_⟩
  · refine congrArg _ ((congrArg (s.takeRequest r 0x24 false) (withLane_none (Lane.ofNat?_of_four_le out) _)).trans ?_)
    exact State.takeRequest_outOfRange h
  · refine (execAdmit_lane hb).trans (congrArg _ ?_)
    rw [bad, inRange_false]
    exact State.takeRequest_outOfRange h
  · intro suits
    have taken : exec (.admitVehicle r b f) s = .next (s.takeRequest r 0x24 false
        (needControl r.station (.lane l) .lane (admitHandler f l))) := by
      refine (execAdmit_lane hb).trans ?_
      rw [ok, inRange_true]
    have handler (suited : suits) (idle : (s.lane l).state = .idle) (al : (s.lane l).al = true) :
        admitHandler f l (s.heard r.station) = match s.admitRefusal l (AdmitFields.identity f) with
          | some reason => ((s.heard r.station).refuseAdmission l reason, .plain reason)
          | none => ((s.heard r.station).accept l (AdmitFields.identity f), .plain .accepted) :=
      (if_neg (ne_false_of_eq_true (AdmitFields.suits_iff.2 suited))).trans ((if_neg (not_not_intro idle)).trans
        (if_neg (ne_false_of_eq_true al)))
    refine ⟨fun unsuited => ?_, fun suited wrong => ?_, fun suited idle al => ⟨fun reason refused => ?_, fun passes => ?_⟩⟩
    · exact taken.trans (congrArg _ (State.takeRequest_controlRefused h
        (if_pos (Bool.eq_false_iff.2 (mt AdmitFields.suits_iff.1 unsuited)))))
    · refine taken.trans (congrArg _ (State.takeRequest_controlRefused h
        ((if_neg (ne_false_of_eq_true (AdmitFields.suits_iff.2 suited))).trans ?_)))
      by_cases idle : (s.lane l).state = .idle
      · exact (if_neg (not_not_intro idle)).trans (if_pos (wrong.resolve_left (not_not_intro idle)))
      · exact if_pos idle
    · refine taken.trans (congrArg _ ((State.takeRequest_controlled (t := (s.heard r.station).refuseAdmission l reason) h
        (result := reason) (clamped := false) (body := .none) ?_ rfl).trans ?_))
      · refine (handler suited idle al).trans ?_
        rw [refused]
        rfl
      · rfl
    · refine taken.trans (congrArg _ ?_)
      rw [s.takeRequest_takes r 0x24 false _ h.1, needControl_controls h, handler suited idle al, passes]
      rfl
  · intro u seen now
    refine ⟨fun early => congrArg _ (if_pos (decide_eq_false (Nat.not_le.2 early))), fun loaded => ?_⟩
    have taken : exec (.tagArrival l t) s = .next (now.takeTag l t) :=
      congrArg _ ((if_neg fun early => of_decide_eq_false early loaded).trans (if_neg given))
    have lane : now.lane l = seen := by
      show (s.lanes.set l seen).get l = seen
      rw [PerLane.get_set, if_pos rfl]
    have offered (idle : u.state = .idle) (free : s.attending.get l = none) : now.takeTag l t =
        if u.al = false ∨ (s.laneSettings l).tagAdmission = false then now
        else if u.lastRefused = some t then now
        else now.admitTag l t := by
      unfold State.takeTag
      simp only [lane]
      refine (if_neg (not_not_intro idle)).trans (if_neg ?_)
      rw [free]
      decide
    refine ⟨fun away => ?_, fun idle attended => ?_, fun idle free => ⟨fun quiet => ?_, fun al admits new => ?_⟩⟩
    · refine taken.trans (congrArg _ (if_pos ?_))
      rw [lane]
      exact away
    · refine taken.trans (congrArg _ ((if_neg ?_).trans ((if_pos (Option.ne_none_iff_isSome.1 attended)).trans ?_)))
      · rw [lane]
        exact not_not_intro idle
      · exact State.raiseNotice_eq (s := s) (t := now) rfl rfl rfl rfl ..
    · refine taken.trans (congrArg _ ((offered idle free).trans ?_))
      by_cases closed : u.al = false ∨ (s.laneSettings l).tagAdmission = false
      · exact if_pos closed
      · exact (if_neg closed).trans (if_pos ((or_assoc.2 quiet).resolve_left closed))
    · have offer : exec (.tagArrival l t) s = .next (now.admitTag l t) :=
        taken.trans (congrArg _ ((offered idle free).trans ((if_neg (by rw [al, admits]; decide)).trans (if_neg new))))
      refine ⟨fun reason refused => offer.trans (congrArg _ ?_), fun passes => offer.trans (congrArg _ ?_)⟩
      · have told : now.refuseAdmission l reason = { now with
            notices := s.announced [s.notice .admitRefused (some l) none 0 reason.toNat []] } :=
          State.raiseNotice_eq (s := s) (t := now) rfl rfl rfl rfl ..
        unfold State.admitTag
        rw [show now.admitRefusal l (Identity.ofTag t) = some reason from refused]
        simp only
        rw [told]
        show ({ now with
          lanes := (s.lanes.set l seen).set l { (s.lanes.set l seen).get l with lastRefused := some t }
          notices := _ } : State) = _
        rw [PerLane.set_set, PerLane.get_set, if_pos rfl]
      · unfold State.admitTag
        rw [show now.admitRefusal l (Identity.ofTag t) = none from passes]
  · refine ⟨(s.bindAdmission l i).1.site, (s.bindAdmission l i).2, fun inbound => ?_, fun outbound => ?_, s.accept_site l i⟩
    · have checks := (State.admitRefusal_inbound inbound i).symm.trans passes
      obtain ⟨below, fresh, _⟩ := State.reservedEntry_fresh checks
      have bound : s.bindAdmission l i = _ := State.bindAdmission_inbound inbound
      rw [bound]
      refine ⟨s.reservedEntry l i, insertSite_perm .., fun behind => insertSite_last behind, rfl, rfl, rfl, rfl, rfl, rfl,
        rfl, rfl, rfl, below, fun x mem same => fresh (same ▸ List.mem_map_of_mem mem), fun n low => ?_, ?_, ?_, ?_⟩
      · exact List.mem_map.1 (lowestFree_lowest (State.freeSiteSlot_eq checks) n low)
      · rw [← State.identityVehicle_eq_bind]
        rfl
      · rw [← State.identityVehicle_eq_bind]
        rfl
      · rw [← State.identityVehicle_eq_bind]
        obtain ⟨w, waste⟩ := Option.ne_none_iff_exists'.1 (State.admitWaste_ne_none checks)
        show some ((s.admitWaste i).getD 0) = s.admitWaste i
        rw [waste]
        rfl
    · have checks := (State.admitRefusal_outbound outbound i).symm.trans passes
      obtain ⟨e, found⟩ := Option.ne_none_iff_exists'.1 fun absent =>
        Option.some_ne_none _ ((State.outboundRefusal_notFound absent).symm.trans checks)
      have bound : s.bindAdmission l i = _ := State.bindAdmission_outbound outbound found
      rw [bound]
      exact ⟨e, found, rfl, rfl⟩

end Sys2Proof.Machine
end

section
/-! Weighings are applied to their tickets (R98 to R101, R106, R123 to R126, R129); sections, and the credit of the totals (R127,
R136, R137). -/

namespace Sys2Proof.Machine

/-! ### The weighing of a success (R98, R100) -/

section Weigh

variable {s : State} {l : Lane} {c : CaptureContext} {e : SiteEntry}

theorem State.tareOf_eq_some {tare : Tare} :
    s.tareOf e = some tare ↔ ∃ tag v, e.tag = some tag ∧ s.vehicle? tag = some v ∧ v.data.tare = some tare := by
  unfold State.tareOf
  cases tag : e.tag with
  | none => simp
  | some t =>
    cases vehicle : s.vehicle? t with
    | none => simp [vehicle]
    | some v => simp [vehicle]

/-- The tare of a single weigh. -/
theorem State.singleTare_eq_some {tare : Tare} : s.singleTare l c e = some tare ↔
    c.mode = .first ∧ (s.laneSettings l).storedTare = true ∧ (s.laneSettings l).direction = .inbound ∧ e.kind = .delivery
      ∧ (∃ tag v, e.tag = some tag ∧ s.vehicle? tag = some v ∧ v.data.tare = some tare)
      ∧ s.clock.count < tare.stamp + tare.validity * 86400
      ∧ (tare.weight : Int) ≤ (s.laneReading l).w - 20 * ((s.laneReading l).division : Int) := by
  rw [← State.tareOf_eq_some]
  unfold State.singleTare
  simp only
  by_cases single : c.mode = .first ∧ (s.laneSettings l).storedTare = true ∧ (s.laneSettings l).direction = .inbound
      ∧ e.kind = .delivery
  · rw [if_pos single]
    obtain ⟨mode, stored, inbound, delivery⟩ := single
    rw [Option.filter_eq_some_iff, Bool.and_eq_true, Tare.validAt, decide_eq_true_eq, decide_eq_true_eq]
    exact ⟨fun ⟨held, valid, low⟩ => ⟨mode, stored, inbound, delivery, held, valid, low⟩,
      fun ⟨_, _, _, _, held, valid, low⟩ => ⟨held, valid, low⟩⟩
  · rw [if_neg single]
    exact ⟨nofun, fun ⟨mode, stored, inbound, delivery, _⟩ => absurd ⟨mode, stored, inbound, delivery⟩ single⟩

theorem State.singleTare_none (h : c.mode ≠ .first) : s.singleTare l c e = none := if_neg fun single => h single.1

/-! ### What is recorded (R99, R106) -/

theorem State.recordCapture_eq (bound : s.boundEntry? l = some e) : s.recordCapture l c =
    let t := (s.setLane l { s.lane l with capture := none, dwell := none }).applyWeighing l c.mode e (s.weighingOf l c e)
      ((s.singleTare l c e).map (s.tareWeighing l e))
    t.captured l c (decide (c.mode = .final) || (s.singleTare l c e).isSome)
      (if c.mode = .first then t.tickets.counter else e.ticket) := by
  unfold State.recordCapture
  simp only
  rw [show (s.setLane l { s.lane l with capture := none, dwell := none }).boundEntry? l = some e from bound]
  rfl

theorem State.captured_eq {t : State} (settings : t.settings = s.settings) (closed : Bool) (ticket : Nat) :
    t.captured l c closed ticket = t.raiseNotice .captured (some l) (s.laneSettings l).deck.noticeDeck ticket
      (c.mode.toNat + 3 * originNat c.origin + 12 * flagNat closed) [] := by
  unfold State.captured State.laneSettings
  rw [settings]

theorem State.permitCapOf_counter (s : State) (n : Nat) (x : TicketSection) :
    (State.permitCapOf n s x).tickets.counter = s.tickets.counter := by
  unfold State.permitCapOf
  simp only
  split <;> rfl

theorem State.permitCaps_counter (s : State) (j : JournalEntry) : (s.permitCaps j).tickets.counter = s.tickets.counter := by
  unfold State.permitCaps
  split
  · exact List.foldlRecOn _ _ (motive := fun t : State => t.tickets.counter = s.tickets.counter) rfl fun t same x _ =>
      (t.permitCapOf_counter j.ticket x).trans same
  · rfl

theorem State.journalLowCheck_counter (s : State) : s.journalLowCheck.tickets.counter = s.tickets.counter := by
  unfold State.journalLowCheck
  repeat' split
  all_goals rfl

/-- The notices of a close that leaves clock, settings, position and notices as they are. -/
theorem State.closeNotices_eq {t : State} (settings : t.settings = s.settings) (position : t.sealOpen = s.sealOpen)
    (notices : t.notices = s.notices) (clock : t.clock = s.clock) (l : Lane) (j : JournalEntry) :
    t.closeNotices l j = (({ t with
      notices := s.announced [s.notice .ticketClosed (some l) none j.ticket j.close.toNat
        [totalNet (sectionsOf j.kind j.weighings)]] } : State).permitCaps j).journalLowCheck := by
  unfold State.closeNotices
  rw [State.raiseNotice_eq settings position notices clock]

/-- A ticket that closes: the journal's end, the release, its extents in the write queue, and its notices. -/
theorem State.closes_eq {t : State} (settings : t.settings = s.settings) (position : t.sealOpen = s.sealOpen)
    (notices : t.notices = s.notices) (clock : t.clock = s.clock) (l : Lane) (slot : Nat) (j : JournalEntry) (xs : List Record) :
    ((t.closeEntry slot j).enqueue xs).closeNotices l j = (({ t with
      index := t.index.close j
      tickets := { t.tickets with
        recent := joinRecent (t.index.nextSeq + 1) t.tickets.recent { ticket := j.ticket, seq := j.seq } }
      site := { t.site with entries := t.site.entries.filter fun x => decide (x.slot ≠ slot) }
      store := t.queuedWith xs
      notices := s.announced [s.notice .ticketClosed (some l) none j.ticket j.close.toNat
        [totalNet (sectionsOf j.kind j.weighings)]] } : State).permitCaps j).journalLowCheck :=
  State.closeNotices_eq (t := (t.closeEntry slot j).enqueue xs) settings position notices clock l j

theorem State.singleWeigh_eq {w v : Weighing} {j : JournalEntry}
    (entry : s.journalEntryOf { e with ticket := s.tickets.counter + 1, weighings := [w, v] } .storedTare 0 = j) :
    s.singleWeigh l e w v = (({ s with
      index := s.index.close j
      tickets := { s.tickets with
        counter := s.tickets.counter + 1
        recent := joinRecent (s.index.nextSeq + 1) s.tickets.recent { ticket := j.ticket, seq := j.seq } }
      site := { s.site with entries := s.site.entries.filter fun x => decide (x.slot ≠ e.slot) }
      store := s.queuedWith [.counter (s.tickets.counter + 1), .journal j, .indexTotals (s.index.close j)]
      notices := s.announced [s.notice .ticketClosed (some l) none j.ticket j.close.toNat
        [totalNet (sectionsOf j.kind j.weighings)]] } : State).permitCaps j).journalLowCheck := by
  subst entry
  exact State.closes_eq (t := { s with tickets := { s.tickets with counter := s.tickets.counter + 1 } }) rfl rfl rfl rfl l ..

theorem State.finalWeighing_eq {w : Weighing} {j : JournalEntry}
    (entry : s.journalEntryOf { e with weighings := e.weighings ++ [w] }
      (closeConditionOf false (sectionsOf e.kind (e.weighings ++ [w]))) 0 = j) :
    s.finalWeighing l e w = (({ s with
      index := s.index.close j
      tickets := { s.tickets with
        recent := joinRecent (s.index.nextSeq + 1) s.tickets.recent { ticket := j.ticket, seq := j.seq } }
      site := { s.site with entries := s.site.entries.filter fun x => decide (x.slot ≠ e.slot) }
      store := s.queuedWith [.journal j, .indexTotals (s.index.close j), .siteSlot e.slot none]
      notices := s.announced [s.notice .ticketClosed (some l) none j.ticket j.close.toNat
        [totalNet (sectionsOf j.kind j.weighings)]] } : State).permitCaps j).journalLowCheck := by
  subst entry
  exact State.closes_eq (t := s) rfl rfl rfl rfl l ..

end Weigh

theorem closeConditionOf_eq (secs : List TicketSection) :
    closeConditionOf false secs = if ∃ x ∈ secs, x.net < 0 then .netNegative else .normal := by
  unfold closeConditionOf
  simp [List.any_eq_true]

/-- Settles O50: the weighing, the decision for a single weigh, and the ticket by the capture's mode. -/
theorem weighingsAreApplied : Obligations.WeighingsAreApplied := by
  intro s l c e bound reading deck w single detail lanes n journal index recent left closed became
  have weighing : s.weighingOf l c e = w := by
    have section_ : sectionCodeOf c e = if c.mode = .first then 0 else c.sectionCode.getD e.waste := by
      unfold sectionCodeOf
      cases c.mode <;> rfl
    simp only [w, deck, reading, State.weighingOf, State.weighCounters, section_]
    cases (s.laneSettings l).deck <;> rfl
  have tares (tare : Tare) : s.singleTare l c e = some tare ↔ single tare := State.singleTare_eq_some
  have recorded := State.recordCapture_eq (c := c) bound
  rw [weighing] at recorded
  refine ⟨fun first plain => ?_, fun tare decided j eq => ?_, fun middle => ?_, fun final j eq => ?_⟩
  · have plainly : s.singleTare l c e = none :=
      Option.eq_none_iff_forall_ne_some.2 fun tare decided => plain tare ((tares tare).1 decided)
    intro x
    rw [recorded, plainly, first, State.captured_eq (s := s)]
    · refine (State.raiseNotice_after (s := s) (before := [s.notice .ticketOpened (some l) none n 0 []]) ?_ ?_ ?_ ?_ ..).trans ?_
      all_goals rfl
    · rfl
  · have decides : s.singleTare l c e = some tare := (tares tare).2 decided
    obtain ⟨first, _⟩ := decided
    have weighed : (s.setLane l { s.lane l with capture := none, dwell := none }).applyWeighing l .first e w
        (some (s.tareWeighing l e tare)) = (({ s with
          lanes := lanes
          index := index j
          tickets := { s.tickets with counter := n, recent := recent n }
          site := left
          store := s.queuedWith [.counter n, .journal j, .indexTotals (index j)]
          notices := s.announced [closed j] } : State).permitCaps j).journalLowCheck := by
      refine (State.singleWeigh_eq (s := s.setLane l _) (j := j) eq.symm).trans ?_
      subst eq
      rfl
    rw [recorded, decides, first, Option.map_some, weighed, State.captured_eq (s := s)]
    · simp only [State.journalLowCheck_counter, State.permitCaps_counter]
      rfl
    · exact ((Keeps.permitCaps _ j).trans (Keeps.journalLowCheck _)).settings
  · intro x
    have untared : s.singleTare l c e = none := State.singleTare_none (by rw [middle]; decide)
    rw [recorded, untared, middle, State.captured_eq (s := s)]
    · apply State.raiseNotice_eq (s := s) <;> rfl
    · rfl
  · have untared : s.singleTare l c e = none := State.singleTare_none (by rw [final]; decide)
    have weighed : (s.setLane l { s.lane l with capture := none, dwell := none }).applyWeighing l .final e w none = (({ s with
          lanes := lanes
          index := index j
          tickets := { s.tickets with recent := recent e.ticket }
          site := left
          store := s.queuedWith [.journal j, .indexTotals (index j), .siteSlot e.slot none]
          notices := s.announced [closed j] } : State).permitCaps j).journalLowCheck := by
      rw [← closeConditionOf_eq] at eq
      refine (State.finalWeighing_eq (s := s.setLane l _) (j := j) eq.symm).trans ?_
      subst eq
      rfl
    rw [recorded, untared, final, Option.map_none, weighed, State.captured_eq (s := s)]
    · rfl
    · exact ((Keeps.permitCaps _ j).trans (Keeps.journalLowCheck _)).settings

/-! ### Sections and their credit (R127, R136, R137) -/

theorem sectionsOf_length (kind : Kind) : ∀ ws : List Weighing, (sectionsOf kind ws).length = ws.length - 1
  | [] => rfl
  | [_] => rfl
  | _ :: v :: rest => congrArg (· + 1) (sectionsOf_length kind (v :: rest))

/-- A section runs from one weighing to the next. -/
theorem sectionsOf_getElem? (kind : Kind) : ∀ (ws : List Weighing) (i : Nat) (w v : Weighing), ws[i]? = some w →
    ws[i + 1]? = some v → (sectionsOf kind ws)[i]? = some {
      net := if kind = .delivery then (w.weight : Int) - v.weight else (v.weight : Int) - w.weight
      code := v.sectionCode }
  | _ :: _ :: _, 0, w, v, first, next => by
    obtain rfl := Option.some.inj first
    obtain rfl := Option.some.inj next
    cases kind <;> rfl
  | _ :: y :: rest, i + 1, w, v, first, next => sectionsOf_getElem? kind (y :: rest) i w v first next

theorem isCredited_iff {close : CloseCondition} {kind : Kind} :
    isCredited close kind = true ↔ kind = .delivery ∧ (close = .normal ∨ close = .storedTare) := by
  simp [isCredited, and_comm]

theorem isCredited_eq_false {close : CloseCondition} {kind : Kind}
    (h : kind = .collection ∨ close = .netNegative ∨ close = .void) : isCredited close kind = false := by
  obtain rfl | rfl | rfl := h
  · exact Bool.and_false _
  · rfl
  · rfl

theorem creditSection_length (totals : List DayTotals) (x : TicketSection) :
    (creditSection totals x).length = totals.length := by
  unfold creditSection
  split
  · split
    · exact List.length_set
    · rfl
  · rfl

/-- One section's net, in the total of its own code alone. -/
theorem creditSection_getElem? {totals : List DayTotals} {code : Nat} {t : DayTotals} (low : 1 ≤ code) (high : code ≤ 32)
    (held : totals[code - 1]? = some t) (x : TicketSection) : (creditSection totals x)[code - 1]? =
      some (if x.code = code then { t with today := min 4294967295 (t.today + x.net.toNat) } else t) := by
  unfold creditSection
  by_cases same : x.code = code
  · have named : wasteOk x.code = true := same ▸ within_eq_true low high
    have room : code - 1 < totals.length := (List.getElem?_eq_some_iff.1 held).1
    rw [if_pos named, if_pos same, same, held]
    simp only [List.getElem?_set_self room, satAdd, max32, Nat.min_comm]
  · rw [if_neg same]
    split
    next named =>
      have least : 1 ≤ x.code := of_decide_eq_true (Bool.and_eq_true_iff.1 named).1
      have apart : x.code - 1 ≠ code - 1 := by omega
      split
      · rw [List.getElem?_set_ne apart, held]
      · exact held
    next => exact held

/-- What sections add to the total of a code. -/
def creditOf (code : Nat) (secs : List TicketSection) : Nat :=
  ((secs.filter fun x => decide (x.code = code)).map fun x => x.net.toNat).sum

theorem creditOf_cons (code : Nat) (x : TicketSection) (secs : List TicketSection) :
    creditOf code (x :: secs) = (if x.code = code then x.net.toNat else 0) + creditOf code secs := by
  unfold creditOf
  by_cases same : x.code = code <;> simp [same]

theorem foldl_creditSection_getElem? {code : Nat} (low : 1 ≤ code) (high : code ≤ 32) (secs : List TicketSection) :
    ∀ {totals : List DayTotals} {t : DayTotals}, totals[code - 1]? = some t → t.today ≤ 4294967295 →
      (secs.foldl creditSection totals)[code - 1]? =
        some { today := min 4294967295 (t.today + creditOf code secs), previous := t.previous } := by
  induction secs with
  | nil =>
    intro totals t held bound
    have same : min 4294967295 (t.today + creditOf code []) = t.today := Nat.min_eq_right bound
    rw [same]
    exact held
  | cons x xs ih =>
    intro totals t held bound
    have next := creditSection_getElem? low high held x
    rw [List.foldl_cons, creditOf_cons]
    by_cases same : x.code = code
    · rw [if_pos same] at next ⊢
      rw [ih next (Nat.min_le_left ..)]
      refine congrArg some (congrArg (DayTotals.mk · _) ?_)
      simp only
      omega
    · rw [if_neg same] at next ⊢
      rw [ih next bound, Nat.zero_add]

theorem foldl_creditSection_length (secs : List TicketSection) (totals : List DayTotals) :
    (secs.foldl creditSection totals).length = totals.length :=
  List.foldlRecOn secs _ (motive := fun ts => ts.length = totals.length) rfl fun ts same x _ =>
    (creditSection_length ts x).trans same

/-- PERMIT_CAP for a code whose total, cap and cap notice flag are given. -/
theorem State.permitCapOf_eq {s : State} {ticket code cap : Nat} {net : Int} {t : DayTotals} {flag : Bool} (low : 1 ≤ code)
    (high : code ≤ 32) (total : s.index.totals[code - 1]? = some t) (capped : s.settings.caps[code - 1]? = some cap)
    (flagged : s.tickets.capNotice[code - 1]? = some flag) : State.permitCapOf ticket s { net := net, code := code } =
      if cap ≠ 0 ∧ cap ≤ t.today ∧ flag = false then { s with
        tickets := { s.tickets with capNotice := s.tickets.capNotice.set (code - 1) true }
        notices := s.announced [s.notice .permitCap none none ticket code [(t.today : Int), (cap : Int)]] }
      else s := by
  have named : wasteOk code = true := within_eq_true low high
  unfold State.permitCapOf
  simp only [total, List.getD_eq_getElem?_getD, capped, flagged, named, Option.map_some, Option.getD_some]
  refine ite_congr (by simp [and_assoc]) (fun _ => ?_) fun _ => rfl
  apply State.raiseNotice_eq (s := s) <;> rfl

/-- Settles O51: sections by their weighings, the credit section by section, and the cap of one code. -/
theorem sectionsAreCredited : Obligations.SectionsAreCredited := by
  refine ⟨fun kind ws => ⟨sectionsOf_length kind ws, sectionsOf_getElem? kind ws⟩, fun totals j => ⟨fun none => ?_,
    fun delivery close length bound => ?_⟩, fun s j => ⟨fun delivery close => ?_, fun none => ?_⟩,
    fun s ticket code cap net t flag low high total capped flagged => ⟨fun set_ reached clear => ?_, fun quiet => ?_⟩⟩
  · exact if_neg (Bool.eq_false_iff.1 (isCredited_eq_false none))
  · have credited : creditTotals totals j = (sectionsOf j.kind j.weighings).foldl creditSection totals :=
      if_pos (isCredited_iff.2 ⟨delivery, close⟩)
    rw [credited]
    refine ⟨(foldl_creditSection_length ..).trans length, fun code low high t held => ?_⟩
    exact foldl_creditSection_getElem? low high _ held (bound t (List.mem_of_getElem? held))
  · exact if_pos (isCredited_iff.2 ⟨delivery, close⟩)
  · exact if_neg (Bool.eq_false_iff.1 (isCredited_eq_false none))
  · rw [State.permitCapOf_eq low high total capped flagged, if_pos ⟨set_, reached, clear⟩]
  · rw [State.permitCapOf_eq low high total capped flagged, if_neg]
    rintro ⟨set_, reached, clear⟩
    obtain none | below | raised := quiet
    · exact set_ none
    · omega
    · exact Bool.noConfusion (clear.symm.trans raised)

end Sys2Proof.Machine
end

section
/-! Tickets are voided and edited, the journal is archived and compared with its end (R130, R131, R154, R155); the vehicle
register is changed (R109 to R111). -/

namespace Sys2Proof.Machine

/-! ### A TICKET request that names a ticket (R165) -/

section Ticket

variable {s t : State} {r : Req} {n : Nat} {code : Byte} {k : Handler}

theorem State.siteByTicket?_eq_none (h : ∀ e ∈ s.site.entries, e.state ≠ .reserved → e.ticket ≠ n) :
    s.siteByTicket? n = none := by
  refine List.find?_eq_none.2 fun e mem => ?_
  simpa using h e mem

theorem State.ticketScope_none (none : s.siteByTicket? n = none) : s.ticketScope n = .yard := by
  unfold State.ticketScope
  rw [none]

theorem State.ticketScope_some {e : SiteEntry} (found : s.siteByTicket? n = some e) : s.ticketScope n = scopeOf e.boundLane := by
  unfold State.ticketScope
  rw [found]

/-- A request over the scope of its ticket. -/
def ticketControl (r : Req) (n : Nat) (k : Handler) : Handler := fun s =>
  needControl r.station (s.ticketScope n) .ticket k s

theorem ticketControl_controls (h : s.Controls r (s.ticketScope n) .ticket) :
    ticketControl r n k (s.heard r.station) = k (s.heard r.station) := needControl_controls h

theorem State.takeRequest_ticketRefused (h : s.Controls r (s.ticketScope n) .ticket) {result : Result}
    (hk : k (s.heard r.station) = (s.heard r.station, .plain result)) :
    s.takeRequest r code false (ticketControl r n k) = s.refusedWith r code result :=
  State.takeRequest_refused h.1 ((ticketControl_controls h).trans hk)

theorem State.takeRequest_ticketTaken (h : s.Controls r (s.ticketScope n) .ticket)
    (hk : k (s.heard r.station) = (t, .plain .ok)) :
    s.takeRequest r code false (ticketControl r n k) = t.acked r code :=
  State.takeRequest_acked h.1 ((ticketControl_controls h).trans hk)

end Ticket

/-! ### VOID_TICKET and EDIT_TICKET (R130, R131) -/

/-- What VOID_TICKET does with the ticket that it controls. -/
def voidHandler (n : Nat) (reason : Byte) : Handler := fun s =>
  match s.siteByTicket? n with
  | none => (s, .plain .notFound)
  | some e =>
    if e.boundLane.isSome then (s, .plain .bound)
    else needSlot (fun s => (s.voidEntry e reason.toNat, .plain .ok)) s

/-- What EDIT_TICKET does with the ticket that it controls. -/
def editHandler (n : Nat) (changes : List TicketChange) : Handler := fun s =>
  match s.siteByTicket? n with
  | none => (s, .plain .notFound)
  | some e =>
    if e.state = .suspect then (s, .plain .wrongState)
    else if e.boundLane.isSome then (s, .plain .bound)
    else needSlot (fun s => (s.editEntry e changes, .plain .ok)) s

theorem execVoidTicket_eq (s : State) (r : Req) (n : BitVec 32) (reason : Byte) :
    exec (.voidTicket r n reason) s =
      .next (s.takeRequest r 0x3A false (inRange (decide (n ≠ 0)) (ticketControl r n.toNat (voidHandler n.toNat reason)))) := rfl

theorem execEditTicket_eq (s : State) (r : Req) (n : BitVec 32) (changes : List TicketChange) :
    exec (.editTicket r n changes) s = .next (s.takeRequest r 0x3B false (
      inRange (decide (n ≠ 0) && !changes.isEmpty && changes.all TicketChange.ok)
        (ticketControl r n.toNat (editHandler n.toNat changes)))) := rfl

theorem execVoidTicket_named {s : State} {r : Req} {n : BitVec 32} {reason : Byte} (named : n ≠ 0) :
    exec (.voidTicket r n reason) s =
      .next (s.takeRequest r 0x3A false (ticketControl r n.toNat (voidHandler n.toNat reason))) := by
  rw [execVoidTicket_eq, decide_eq_true named, inRange_true]

theorem execEditTicket_named {s : State} {r : Req} {n : BitVec 32} {changes : List TicketChange} (named : n ≠ 0)
    (some_ : changes ≠ []) (ok : ∀ x ∈ changes, TicketChange.ok x = true) : exec (.editTicket r n changes) s =
      .next (s.takeRequest r 0x3B false (ticketControl r n.toNat (editHandler n.toNat changes))) := by
  have fits : (decide (n ≠ 0) && !changes.isEmpty && changes.all TicketChange.ok) = true := by
    simp only [Bool.and_eq_true, decide_eq_true_eq, Bool.not_eq_true', List.isEmpty_eq_false_iff, List.all_eq_true]
    exact ⟨⟨named, some_⟩, ok⟩
  rw [execEditTicket_eq, fits, inRange_true]

theorem execEditTicket_outOfRange {s : State} {r : Req} {n : BitVec 32} {changes : List TicketChange}
    (out : n = 0 ∨ changes = [] ∨ ∃ x ∈ changes, TicketChange.ok x = false) (h : s.Takes r) :
    exec (.editTicket r n changes) s = .next (s.refusedWith r 0x3B .range) := by
  have unfit : (decide (n ≠ 0) && !changes.isEmpty && changes.all TicketChange.ok) = false := by
    rw [Bool.eq_false_iff]
    simp only [ne_eq, Bool.and_eq_true, decide_eq_true_eq, Bool.not_eq_true', List.isEmpty_eq_false_iff, List.all_eq_true]
    rintro ⟨⟨named, some_⟩, ok⟩
    obtain zero | none | ⟨x, mem, bad⟩ := out
    · exact named zero
    · exact some_ none
    · exact Bool.noConfusion (bad.symm.trans (ok x mem))
  rw [execEditTicket_eq, unfit, inRange_false, State.takeRequest_outOfRange h]

section Handlers

variable {s : State} {n : Nat} {e : SiteEntry} {reason : Byte} {changes : List TicketChange}

theorem voidHandler_found (found : s.siteByTicket? n = some e) : voidHandler n reason s =
    if e.boundLane.isSome then (s, .plain .bound)
    else needSlot (fun s => (s.voidEntry e reason.toNat, .plain .ok)) s := by
  unfold voidHandler
  rw [found]

theorem editHandler_found (found : s.siteByTicket? n = some e) : editHandler n changes s =
    if e.state = .suspect then (s, .plain .wrongState)
    else if e.boundLane.isSome then (s, .plain .bound)
    else needSlot (fun s => (s.editEntry e changes, .plain .ok)) s := by
  unfold editHandler
  rw [found]

theorem voidHandler_none (none : s.siteByTicket? n = none) : voidHandler n reason s = (s, .plain .notFound) := by
  unfold voidHandler
  rw [none]

theorem editHandler_none (none : s.siteByTicket? n = none) : editHandler n changes s = (s, .plain .notFound) := by
  unfold editHandler
  rw [none]

/-- A void closes its entry into the journal without a credit. -/
theorem State.voidEntry_eq (s : State) (e : SiteEntry) (reason : Nat) {j : JournalEntry}
    (entry : s.journalEntryOf e .void reason = j) : s.voidEntry e reason = ({ s with
      index := { s.index with nextSeq := s.index.nextSeq + 1, lastCredited := e.ticket }
      tickets := { s.tickets with
        recent := joinRecent (s.index.nextSeq + 1) s.tickets.recent { ticket := e.ticket, seq := s.index.nextSeq } }
      site := { s.site with entries := s.site.entries.filter fun x => decide (x.slot ≠ e.slot) }
      store := s.queuedWith [.journal j,
        .indexTotals { s.index with nextSeq := s.index.nextSeq + 1, lastCredited := e.ticket }, .siteSlot e.slot none]
      notices := s.announced [s.notice .ticketVoided none none e.ticket reason []] } : State).journalLowCheck := by
  have index : s.index.close j = { s.index with nextSeq := s.index.nextSeq + 1, lastCredited := e.ticket } := by
    subst entry
    rfl
  subst entry
  unfold State.voidEntry
  refine congrArg State.journalLowCheck ?_
  rw [← index]
  apply State.raiseNotice_eq (s := s) <;> rfl

/-- The changes of an edit, each in the order given. -/
theorem State.editEntry_eq (s : State) (e : SiteEntry) {x : SiteEntry} (h : changes.foldl TicketChange.apply e = x) :
    s.editEntry e changes = { s with
      site := { s.site with entries := s.site.entries.map fun y => if y.slot = e.slot then x else y }
      store := s.queuedWith [.siteSlot e.slot (some x)] } := by
  subst h
  rfl

end Handlers

/-! ### The journal's end (R154, R155) -/

theorem State.journalLowCheck_eq (s : State) {free : Int}
    (eq : free = 4096 - ((s.index.nextSeq : Int) - s.index.archivedSeq) - s.site.entries.length) :
    (256 < free → s.journalLowCheck = { s with journalLow := false })
    ∧ (free ≤ 256 → s.journalLow = true → s.journalLowCheck = s)
    ∧ (free ≤ 256 → s.journalLow = false → s.journalLowCheck = { s with
        journalLow := true
        notices := s.announced [s.notice .journalLow none none 0 0 [free]] }) := by
  have capacity : s.freeCapacity = free := eq.symm
  unfold State.journalLowCheck
  rw [capacity]
  refine ⟨fun ample => if_neg (Int.not_le.2 ample), fun low told => (if_pos low).trans (if_pos told),
    fun low fresh => (if_pos low).trans ((if_neg (Bool.eq_false_iff.1 fresh)).trans ?_)⟩
  apply State.raiseNotice_eq (s := s) <;> rfl

/-- What ARCHIVE does with the journal. -/
def archiveHandler (n : Nat) : Handler := fun s =>
  let t := { s with index := { s.index with archivedSeq := n } }
  ((t.enqueue [.indexTotals t.index]).journalLowCheck, .plain .ok)

theorem execArchive_eq (s : State) (r : Req) (n : BitVec 32) : exec (.archive r n) s = .next (s.takeRequest r 0x3E false (
    inRange (decide (s.index.archivedSeq ≤ n.toNat) && decide (n.toNat ≤ s.index.nextSeq))
      (needControl r.station .yard .ticket (needSlot (archiveHandler n.toNat))))) := rfl

theorem execArchive_within {s : State} {r : Req} {n : BitVec 32} (low : s.index.archivedSeq ≤ n.toNat)
    (high : n.toNat ≤ s.index.nextSeq) : exec (.archive r n) s =
      .next (s.takeRequest r 0x3E false (needControl r.station .yard .ticket (needSlot (archiveHandler n.toNat)))) := by
  rw [execArchive_eq, decide_eq_true low, decide_eq_true high, Bool.and_self, inRange_true]

/-- Settles O52: the two requests of a ticket by its entry, ARCHIVE by its bound, and the comparison. -/
theorem ticketsAreVoidedEditedArchived : Obligations.TicketsAreVoidedEditedArchived := by
  refine ⟨fun s r n => ⟨fun zero h => ⟨fun reason => ?_, fun changes => execEditTicket_outOfRange (.inl zero) h⟩,
    fun changes out h => execEditTicket_outOfRange (.inr out) h, fun named reason changes some_ ok =>
      ⟨fun absent h => ?_, fun e found => ⟨fun l bound h => ?_, fun unbound h => ?_⟩⟩⟩, fun s r n => ⟨fun out h => ?_,
    fun low high h => ⟨fun full => ?_, fun free index eq => ?_⟩⟩, fun s free eq => s.journalLowCheck_eq eq⟩
  · rw [execVoidTicket_eq, decide_eq_false (not_not_intro zero), inRange_false, State.takeRequest_outOfRange h]
  · have none := State.siteByTicket?_eq_none absent
    have scope : s.Controls r (s.ticketScope n.toNat) .ticket := by rwa [State.ticketScope_none none]
    rw [execVoidTicket_named named, execEditTicket_named named some_ ok]
    exact ⟨congrArg _ (State.takeRequest_ticketRefused scope (voidHandler_none (s := s.heard r.station) none)),
      congrArg _ (State.takeRequest_ticketRefused scope (editHandler_none (s := s.heard r.station) none))⟩
  · have scope : s.Controls r (s.ticketScope n.toNat) .ticket := by
      rw [State.ticketScope_some found, bound]
      exact h
    rw [execVoidTicket_named named, execEditTicket_named named some_ ok]
    have held : e.boundLane.isSome = true := by rw [bound]; rfl
    refine ⟨congrArg _ (State.takeRequest_ticketRefused scope ((voidHandler_found (s := s.heard r.station) found).trans
      (if_pos held))), fun opened => congrArg _ (State.takeRequest_ticketRefused scope
      ((editHandler_found (s := s.heard r.station) found).trans ((if_neg ?_).trans (if_pos held))))⟩
    rw [opened]
    decide
  · have scope : s.Controls r (s.ticketScope n.toNat) .ticket := by
      rw [State.ticketScope_some found, unbound]
      exact h
    have free_ : ¬e.boundLane.isSome = true := by rw [unbound]; decide
    have voids := (voidHandler_found (s := s.heard r.station) (reason := reason) found).trans (if_neg free_)
    have edits (opened : e.state = .opened) := (editHandler_found (s := s.heard r.station) (changes := changes) found).trans
      ((if_neg (by rw [opened]; decide)).trans (if_neg free_))
    rw [execVoidTicket_named named, execEditTicket_named named some_ ok]
    refine ⟨fun full => ⟨?_, fun opened => ?_⟩, fun suspect => ?_, fun slot => ⟨fun j entry index eq => ?_,
      fun opened x eq => ?_⟩⟩
    · exact congrArg _ (State.takeRequest_ticketRefused scope (voids.trans (needSlot_refused (s := s.heard r.station) _ full)))
    · exact congrArg _ (State.takeRequest_ticketRefused scope
        ((edits opened).trans (needSlot_refused (s := s.heard r.station) _ full)))
    · exact congrArg _ (State.takeRequest_ticketRefused scope
        ((editHandler_found (s := s.heard r.station) found).trans (if_pos suspect)))
    · refine congrArg _ ((State.takeRequest_ticketTaken scope
        (voids.trans (needSlot_passes (s := s.heard r.station) _ slot))).trans ?_)
      rw [State.voidEntry_eq (s.heard r.station) e _ (j := j) entry.symm, eq]
      rfl
    · have edited : changes.foldl TicketChange.apply e = x := by
        rw [eq]
        refine congrArg (fun f => changes.foldl f e) (funext fun e => funext fun change => ?_)
        cases change with
        | hazard h => cases h <;> rfl
        | _ => rfl
      refine congrArg _ ((State.takeRequest_ticketTaken scope
        ((edits opened).trans (needSlot_passes (s := s.heard r.station) _ slot))).trans
        ((State.acked_eq (s := s) (t := (s.heard r.station).editEntry e changes) rfl).trans ?_))
      rw [State.editEntry_eq _ e edited]
      rfl
  · have unfit : (decide (s.index.archivedSeq ≤ n.toNat) && decide (n.toNat ≤ s.index.nextSeq)) = false := by
      rw [Bool.and_eq_false_iff, decide_eq_false_iff_not, decide_eq_false_iff_not]
      omega
    rw [execArchive_eq, unfit, inRange_false, State.takeRequest_outOfRange h]
  · rw [execArchive_within low high]
    exact congrArg _ (State.takeRequest_storeBusy h full)
  · subst eq
    rw [execArchive_within low high]
    exact congrArg _ (State.takeRequest_acked h.1 ((needControl_controls h).trans
      (needSlot_passes (s := s.heard r.station) _ free)))

end Sys2Proof.Machine
end

section
/-! The vehicle register is changed (R109 to R111). -/

namespace Sys2Proof.Machine

/-! ### The entry of a tag -/

theorem lowestFree_eq_some {n i : Nat} {used : List Nat} (below : i < n) (free : i ∉ used) (lowest : ∀ j < i, j ∈ used) :
    lowestFree n used = some i := by
  refine List.find?_range_eq_some.2 ⟨by simpa using free, List.mem_range.2 below, fun j low => ?_⟩
  simpa using lowest j low

theorem keyed_slot_iff {vs : List VehicleEntry} (keys : keyed vs = true) {u v : VehicleEntry} (hu : u ∈ vs) (hv : v ∈ vs) :
    u.slot = v.slot ↔ u.data.tag = v.data.tag := by
  have slots : (vs.map fun v => v.slot).Nodup := (keyed_iff.1 keys).1.imp Nat.ne_of_lt
  exact ⟨fun same => congrArg (fun v => v.data.tag) (eq_of_key slots hu hv same),
    fun same => congrArg (fun v => v.slot) (keyed_tag_inj keys hu hv same)⟩

section Entry

variable {s : State} {tag : Tag}

theorem State.vehicle?_isSome (h : ∃ v ∈ s.vehicles, v.data.tag = tag) : (s.vehicle? tag).isSome = true := by
  obtain ⟨v, mem, same⟩ := h
  exact List.find?_isSome.2 ⟨v, mem, decide_eq_true same⟩

theorem State.vehicle?_none (h : ∀ v ∈ s.vehicles, v.data.tag ≠ tag) : s.vehicle? tag = none :=
  List.find?_eq_none.2 fun v mem => by simpa using h v mem

theorem State.vehicle?_eq {e : VehicleEntry} (keys : keyed s.vehicles = true) (mem : e ∈ s.vehicles)
    (same : e.data.tag = tag) : s.vehicle? tag = some e := by
  obtain ⟨v, found⟩ := Option.isSome_iff_exists.1 (State.vehicle?_isSome ⟨e, mem, same⟩)
  obtain ⟨held, tagged⟩ := State.vehicle?_some found
  rw [found, keyed_tag_inj keys held mem (tagged.trans same.symm)]

end Entry

/-! ### What the requests do with the register -/

/-- What REG_ADD does with the register. -/
def regAddHandler (tag : Tag) (f : RegFields) : Handler := fun s =>
  if (s.vehicle? tag).isSome then (s, .plain .duplicate)
  else
    match s.freeVehicleSlot with
    | none => (s, .plain .full)
    | some slot =>
      if f.tare.isSome = true ∧ s.clock.set = false then (s, .plain .clockUnset)
      else needSlot (fun s => (s.addVehicle slot (RegFields.data s.clock tag f), .plain .ok)) s

/-- What REG_UPDATE does with the register. -/
def regUpdateHandler (tag : Tag) (changes : List RegChange) : Handler := fun s =>
  match s.vehicle? tag with
  | none => (s, .plain .notFound)
  | some e =>
    if changes.any RegChange.setsTare = true ∧ s.clock.set = false then (s, .plain .clockUnset)
    else needSlot (fun s => (s.updateVehicle e changes, .plain .ok)) s

/-- What REG_REMOVE does with the register. -/
def regRemoveHandler (tag : Tag) : Handler := fun s =>
  match s.vehicle? tag with
  | none => (s, .plain .notFound)
  | some e =>
    if (s.siteByTag? tag).isSome then (s, .plain .onSite)
    else needSlot (fun s => (s.removeVehicle e, .plain .ok)) s

section Requests

variable {s t : State} {r : Req} {code : Byte} {ok : Bool} {k : Handler}

/-- A request that needs CONTROL over the register, its operands in range or not. -/
def registerRequest (s : State) (r : Req) (code : Byte) (ok : Bool) (k : Handler) : State :=
  s.takeRequest r code false (inRange ok (needControl r.station .yard .register k))

theorem execRegAdd_eq (s : State) (r : Req) (tag : Tag) (f : RegFields) : exec (.regAdd r tag f) s =
    .next (registerRequest s r 0x30 (RegFields.ok tag f) (regAddHandler tag f)) := by
  show execRegAdd r tag f s = _
  unfold execRegAdd registerRequest registerControl
  refine congrArg (fun k => Host.Outcome.next (s.takeRequest r 0x30 false
    (inRange (RegFields.ok tag f) (needControl r.station .yard .register k)))) (funext fun s => ?_)
  unfold regAddHandler
  cases s.freeVehicleSlot <;> rfl

theorem execRegUpdate_eq (s : State) (r : Req) (tag : Tag) (changes : List RegChange) : exec (.regUpdate r tag changes) s =
    .next (registerRequest s r 0x31 (decide (tag ≠ 0) && !changes.isEmpty && changes.all RegChange.ok)
      (regUpdateHandler tag changes)) := rfl

theorem execRegRemove_eq (s : State) (r : Req) (tag : Tag) : exec (.regRemove r tag) s =
    .next (registerRequest s r 0x32 (decide (tag ≠ 0)) (regRemoveHandler tag)) := rfl

theorem registerRequest_outOfRange (out : ok = false) (h : s.Takes r) :
    registerRequest s r code ok k = s.refusedWith r code .range := by
  subst out
  exact State.takeRequest_outOfRange h

theorem registerRequest_refused (fits : ok = true) (h : s.Controls r .yard .register) {result : Result}
    (hk : k (s.heard r.station) = (s.heard r.station, .plain result)) :
    registerRequest s r code ok k = s.refusedWith r code result := by
  subst fits
  exact State.takeRequest_controlRefused h hk

theorem registerRequest_taken (fits : ok = true) (h : s.Controls r .yard .register)
    (hk : k (s.heard r.station) = (t, .plain .ok)) (hp : t.ports = (s.heard r.station).ports) :
    registerRequest s r code ok k = { t with ports := s.reply r code .ok false .none } := by
  subst fits
  exact State.takeRequest_controlled h hk hp

/-- The last check of a change to the register, the write queue's room. -/
theorem registerRequest_slot {f : State → State} (fits : ok = true) (h : s.Controls r .yard .register)
    (hk : k (s.heard r.station) = needSlot (fun s => (f s, .plain .ok)) (s.heard r.station))
    (hp : (f (s.heard r.station)).ports = (s.heard r.station).ports) :
    (s.slotFree = false → registerRequest s r code ok k = s.refusedWith r code .storeBusy)
    ∧ (s.slotFree = true →
      registerRequest s r code ok k = { f (s.heard r.station) with ports := s.reply r code .ok false .none }) :=
  ⟨fun full => registerRequest_refused fits h (hk.trans (needSlot_refused (s := s.heard r.station) _ full)),
    fun free => registerRequest_taken fits h (hk.trans (needSlot_passes (s := s.heard r.station) _ free)) hp⟩

end Requests

/-! ### The entries written (R109, R110) -/

theorem RegFields.data_eq (clock : Clock) (tag : Tag) (f : RegFields) : RegFields.data clock tag f = {
    tag := tag
    fleet := f.fleet.getD []
    account := (f.account.map fun a => a.toNat).getD 0
    waste := f.waste.map fun w => w.toNat
    kind := if f.kind.any fun k => decide (k.toNat = 1) then .collection else .delivery
    tare := f.tare.map fun t => { weight := t.1.toNat, stamp := clock.count, validity := t.2.toNat }
    barred := f.barred.any fun b => decide (b.toNat = 1) } := by
  have kind : (f.kind.bind fun k => Kind.ofNat? k.toNat).getD .delivery
      = if f.kind.any fun k => decide (k.toNat = 1) then .collection else .delivery := by
    cases f.kind with
    | none => rfl
    | some k =>
      show (Kind.ofNat? k.toNat).getD .delivery = if decide (k.toNat = 1) then .collection else .delivery
      generalize k.toNat = n
      match n with
      | 0 | 1 => rfl
      | n + 2 => rw [decide_eq_false (by omega)]; rfl
  have barred : (f.barred.map fun b => decide (b.toNat = 1)).getD false = f.barred.any fun b => decide (b.toNat = 1) := by
    cases f.barred <;> rfl
  unfold RegFields.data
  rw [kind, barred]
  rfl

/-- A change in range, as it is written: a kind is one of the two. -/
def RegChange.write (clock : Clock) (d : VehicleData) : RegChange → VehicleData
  | .fleet v => { d with fleet := v }
  | .account v => { d with account := v.toNat }
  | .waste v => { d with waste := v.map fun w => w.toNat }
  | .kind v => { d with kind := if v.toNat = 0 then .delivery else .collection }
  | .tare v => { d with tare := v.map fun t => { weight := t.1.toNat, stamp := clock.count, validity := t.2.toNat } }
  | .barred v => { d with barred := decide (v.toNat = 1) }
  | .otherField _ => d

theorem RegChange.apply_eq_write (clock : Clock) (d : VehicleData) {change : RegChange} (fits : RegChange.ok change = true) :
    RegChange.apply clock d change = RegChange.write clock d change := by
  cases change with
  | kind v =>
    obtain ⟨k, named⟩ := Option.isSome_iff_exists.1 fits
    show ({ d with kind := (Kind.ofNat? v.toNat).getD d.kind } : VehicleData) = { d with kind := _ }
    rw [named]
    generalize v.toNat = n at named
    match n, named with
    | 0, rfl => rfl
    | 1, rfl => rfl
  | _ => rfl

/-- The changes of an update, each in the order given. -/
theorem RegChange.foldl_apply_eq (clock : Clock) {changes : List RegChange} (ok : ∀ x ∈ changes, RegChange.ok x = true) :
    ∀ d, changes.foldl (RegChange.apply clock) d = changes.foldl (RegChange.write clock) d := by
  induction changes with
  | nil => exact fun _ => rfl
  | cons change changes ih =>
    intro d
    obtain ⟨fits, others⟩ := List.forall_mem_cons.1 ok
    rw [List.foldl_cons, List.foldl_cons, RegChange.apply_eq_write clock d fits]
    exact ih others _

theorem RegChange.any_setsTare {changes : List RegChange} :
    changes.any RegChange.setsTare = true ↔ ∃ t, RegChange.tare (some t) ∈ changes := by
  rw [List.any_eq_true]
  constructor
  · rintro ⟨x, mem, sets⟩
    cases x with
    | tare v =>
      cases v with
      | none => exact nomatch sets
      | some t => exact ⟨t, mem⟩
    | _ => exact nomatch sets
  · rintro ⟨t, mem⟩
    exact ⟨_, mem, rfl⟩

section Change

theorem State.freeVehicleSlot_eq {s : State} {slot : Nat} (below : slot < 512) (free : ∀ v ∈ s.vehicles, v.slot ≠ slot)
    (lowest : ∀ n < slot, ∃ v ∈ s.vehicles, v.slot = n) : s.freeVehicleSlot = some slot := by
  refine lowestFree_eq_some below ?_ fun n low => List.mem_map.2 (lowest n low)
  rintro mem
  obtain ⟨v, held, same⟩ := List.mem_map.1 mem
  exact free v held same

variable {s : State} {tag : Tag} {f : RegFields} {changes : List RegChange}

theorem regAddHandler_new (none : s.vehicle? tag = none) {slot : Nat} (free : s.freeVehicleSlot = some slot) :
    regAddHandler tag f s = if f.tare.isSome = true ∧ s.clock.set = false then (s, .plain .clockUnset)
      else needSlot (fun s => (s.addVehicle slot (RegFields.data s.clock tag f), .plain .ok)) s := by
  unfold regAddHandler
  rw [none, free]
  rfl

theorem regAddHandler_full (none : s.vehicle? tag = none) (full : s.freeVehicleSlot = Option.none) :
    regAddHandler tag f s = (s, .plain .full) := by
  unfold regAddHandler
  rw [none, full]
  rfl

theorem regUpdateHandler_found {e : VehicleEntry} (found : s.vehicle? tag = some e) : regUpdateHandler tag changes s =
    if changes.any RegChange.setsTare = true ∧ s.clock.set = false then (s, .plain .clockUnset)
    else needSlot (fun s => (s.updateVehicle e changes, .plain .ok)) s := by
  unfold regUpdateHandler
  rw [found]

theorem regUpdateHandler_none (none : s.vehicle? tag = none) : regUpdateHandler tag changes s = (s, .plain .notFound) := by
  unfold regUpdateHandler
  rw [none]

theorem regRemoveHandler_none (none : s.vehicle? tag = none) : regRemoveHandler tag s = (s, .plain .notFound) := by
  unfold regRemoveHandler
  rw [none]

theorem regRemoveHandler_found {e : VehicleEntry} (found : s.vehicle? tag = some e) : regRemoveHandler tag s =
    if (s.siteByTag? tag).isSome then (s, .plain .onSite)
    else needSlot (fun s => (s.removeVehicle e, .plain .ok)) s := by
  unfold regRemoveHandler
  rw [found]

theorem RegFields.tag_ne_zero (fits : RegFields.ok tag f = true) : tag ≠ 0 := by
  simp only [RegFields.ok, Bool.and_eq_true, decide_eq_true_eq, and_assoc] at fits
  exact fits.1

theorem updateOperands_iff : (decide (tag ≠ 0) && !changes.isEmpty && changes.all RegChange.ok) = true ↔
    tag ≠ 0 ∧ changes ≠ [] ∧ ∀ x ∈ changes, RegChange.ok x = true := by
  simp only [Bool.and_eq_true, decide_eq_true_eq, Bool.not_eq_true', List.isEmpty_eq_false_iff, List.all_eq_true, and_assoc]

/-- The entry of a slot is that of a tag, the register being keyed. -/
theorem State.updateVehicle_eq {e : VehicleEntry} {data : VehicleData}
    (written : changes.foldl (RegChange.apply s.clock) e.data = data) (keys : keyed s.vehicles = true) (mem : e ∈ s.vehicles) :
    s.updateVehicle e changes = { s with
      vehicles := s.vehicles.map fun v => if v.data.tag = e.data.tag then { v with data := data } else v
      store := s.queuedWith [.vehicleSlot e.slot (some data)] } := by
  subst written
  have entries : (s.vehicles.map fun v => if v.slot = e.slot then { v with
      data := changes.foldl (RegChange.apply s.clock) e.data } else v) = s.vehicles.map fun v =>
      if v.data.tag = e.data.tag then { v with data := changes.foldl (RegChange.apply s.clock) e.data } else v :=
    List.map_congr_left fun v held => by simp only [keyed_slot_iff keys held mem]
  rw [← entries]
  rfl

theorem State.removeVehicle_eq {e : VehicleEntry} (keys : keyed s.vehicles = true) (mem : e ∈ s.vehicles) :
    s.removeVehicle e = { s with
      vehicles := s.vehicles.filter fun v => decide (v.data.tag ≠ e.data.tag)
      store := s.queuedWith [.vehicleSlot e.slot none] } := by
  have entries : (s.vehicles.filter fun v => decide (v.slot ≠ e.slot))
      = s.vehicles.filter fun v => decide (v.data.tag ≠ e.data.tag) :=
    List.filter_congr fun v held => by simp only [ne_eq, keyed_slot_iff keys held mem]
  rw [← entries]
  rfl

end Change

/-- Settles O53: the three requests by their first failing case, and the register they leave. -/
theorem registerIsChanged : Obligations.RegisterIsChanged := by
  intro s r tag
  refine ⟨fun f => ⟨fun out h => ?_, fun fits h => ⟨fun held => ?_, fun new => ⟨fun full => ?_,
      fun slot below free lowest => ⟨fun tare unset => ?_, fun timed => ?_⟩⟩⟩⟩,
    fun changes => ⟨fun out h => ?_, fun given some_ ok h => ⟨fun absent => ?_, fun e mem same keys =>
      ⟨fun tare unset => ?_, fun timed => ?_⟩⟩⟩, fun zero h => ?_, fun given h => ⟨fun absent => ?_,
      fun e mem same keys => ⟨fun present => ?_, fun gone => ?_⟩⟩⟩
  · rw [execRegAdd_eq, registerRequest_outOfRange out h]
  · rw [execRegAdd_eq, registerRequest_refused fits h (if_pos (State.vehicle?_isSome (s := s.heard r.station) held))]
  · have taken : s.freeVehicleSlot = none := by
      rw [← Option.not_isSome_iff_eq_none]
      intro free
      obtain ⟨n, below, unused⟩ := lowestFree_isSome_iff.1 free
      obtain ⟨v, mem, slot⟩ := full n below
      exact unused (List.mem_map.2 ⟨v, mem, slot⟩)
    rw [execRegAdd_eq, registerRequest_refused fits h
      (regAddHandler_full (s := s.heard r.station) (State.vehicle?_none (s := s) new) taken)]
  · have handler := regAddHandler_new (s := s.heard r.station) (f := f) (State.vehicle?_none (s := s) new)
      (State.freeVehicleSlot_eq below free lowest)
    rw [execRegAdd_eq, registerRequest_refused fits h
      (handler.trans (if_pos ⟨Option.ne_none_iff_isSome.1 tare, unset⟩))]
  · have stamped : ¬(f.tare.isSome = true ∧ s.clock.set = false) := by
      rintro ⟨tare, unset⟩
      obtain none | set_ := timed
      · exact Option.ne_none_iff_isSome.2 tare none
      · exact Bool.noConfusion (unset.symm.trans set_)
    have slots := registerRequest_slot (s := s) (code := 0x30)
      (f := fun t => t.addVehicle slot (RegFields.data t.clock tag f)) fits h
      ((regAddHandler_new (s := s.heard r.station) (f := f) (State.vehicle?_none (s := s) new)
        (State.freeVehicleSlot_eq below free lowest)).trans (if_neg stamped)) rfl
    rw [execRegAdd_eq]
    refine ⟨fun full => congrArg _ (slots.1 full), fun room data eq => ?_⟩
    rw [← RegFields.data_eq] at eq
    have tags : data.tag = tag := by rw [eq]; rfl
    refine ⟨insertVehicle { slot := slot, data := data } s.vehicles, insertVehicle_perm .., fun keys =>
      keyed_insert keys free below (fun v mem => by rw [tags]; exact new v mem) (by rw [tags]; exact RegFields.tag_ne_zero fits), ?_⟩
    subst eq
    exact congrArg _ (slots.2 room)
  · rw [execRegUpdate_eq, registerRequest_outOfRange (Bool.eq_false_iff.2 (mt updateOperands_iff.1 ?_)) h]
    rintro ⟨given, some_, ok⟩
    obtain zero | none | ⟨x, mem, bad⟩ := out
    · exact given zero
    · exact some_ none
    · exact Bool.noConfusion (bad.symm.trans (ok x mem))
  · have handler : regUpdateHandler tag changes (s.heard r.station) = (s.heard r.station, .plain .notFound) :=
      regUpdateHandler_none (State.vehicle?_none (s := s) absent)
    rw [execRegUpdate_eq, registerRequest_refused (updateOperands_iff.2 ⟨given, some_, ok⟩) h handler]
  · rw [execRegUpdate_eq, registerRequest_refused (updateOperands_iff.2 ⟨given, some_, ok⟩) h
      ((regUpdateHandler_found (s := s.heard r.station) (State.vehicle?_eq (s := s) keys mem same)).trans
        (if_pos ⟨RegChange.any_setsTare.2 tare, unset⟩))]
  · have stamped : ¬(changes.any RegChange.setsTare = true ∧ s.clock.set = false) := by
      rintro ⟨tare, unset⟩
      obtain ⟨t, sets⟩ := RegChange.any_setsTare.1 tare
      obtain none | set_ := timed
      · exact none t sets
      · exact Bool.noConfusion (unset.symm.trans set_)
    have slots := registerRequest_slot (s := s) (code := 0x31) (f := fun t => t.updateVehicle e changes)
      (updateOperands_iff.2 ⟨given, some_, ok⟩) h
      ((regUpdateHandler_found (s := s.heard r.station) (State.vehicle?_eq (s := s) keys mem same)).trans (if_neg stamped)) rfl
    rw [execRegUpdate_eq]
    refine ⟨fun full => congrArg _ (slots.1 full), fun room data eq => ?_⟩
    have written : changes.foldl (RegChange.apply s.clock) e.data = data :=
      (RegChange.foldl_apply_eq s.clock ok e.data).trans eq.symm
    refine congrArg _ ((slots.2 room).trans ?_)
    rw [State.updateVehicle_eq (s := s.heard r.station) written keys mem, same]
    rfl
  · rw [execRegRemove_eq, registerRequest_outOfRange (decide_eq_false (not_not_intro zero)) h]
  · have handler : regRemoveHandler tag (s.heard r.station) = (s.heard r.station, .plain .notFound) :=
      regRemoveHandler_none (State.vehicle?_none (s := s) absent)
    rw [execRegRemove_eq, registerRequest_refused (decide_eq_true given) h handler]
  · rw [execRegRemove_eq, registerRequest_refused (decide_eq_true given) h
      ((regRemoveHandler_found (s := s.heard r.station) (State.vehicle?_eq (s := s) keys mem same)).trans
        (if_pos (State.siteByTag?_isSome_iff (s := s) |>.2 present)))]
  · have slots := registerRequest_slot (s := s) (code := 0x32) (f := fun t => t.removeVehicle e) (decide_eq_true given) h
      ((regRemoveHandler_found (s := s.heard r.station) (State.vehicle?_eq (s := s) keys mem same)).trans
        (if_neg fun present => ?_)) rfl
    · rw [execRegRemove_eq]
      refine ⟨fun full => congrArg _ (slots.1 full), fun room => congrArg _ ((slots.2 room).trans ?_)⟩
      rw [State.removeVehicle_eq (s := s.heard r.station) keys mem, same]
      rfl
    · obtain ⟨x, held, tagged⟩ := State.siteByTag?_isSome_iff.1 present
      exact gone x held tagged

end Sys2Proof.Machine
end

section
/-! A yard reset, and the loading of the configuration and calibration areas (R157, R186, R42, R59, R158, R168, R183, R6, R40). -/

namespace Sys2Proof.Machine

/-! ### The first levels (R42, R59, R158, R183) -/

theorem Barrier.first_eq (p : BarrierPins) : Barrier.first p = {
    state := if p.down then (if p.up then .fault else .down) else if p.up then .up else .stopped
    cause := if p.down = true ∧ p.up = true then some .limits else none
    lowerPending := false
    reversals := 0
    travel := none
    leaveLimit := false
    clearDelay := none
    upLimit := p.up
    downLimit := p.down
    beamBroken := p.beam } := by
  obtain ⟨up, down, beam⟩ := p
  cases up <;> cases down <;> rfl

/-- The configuration taken, or defaulted. -/
theorem State.takeConfiguration_eq (s : State) (record : List Byte) : s.takeConfiguration record = { s with
    settings := (Settings.ofBytes? record).getD Settings.defaults
    startup := if (Settings.ofBytes? record).isSome then s.startup else { s.startup with configDefaulted := true }
    conditions := { s.conditions with
      configDefaulted :=
        if (Settings.ofBytes? record).isSome then s.conditions.configDefaulted
        else { s.conditions.configDefaulted with latched := true } } } := by
  unfold State.takeConfiguration
  cases Settings.ofBytes? record <;> rfl

/-! ### The barriers that start in FAULT (R59, R82) -/

section Report

/-- Notices raised behind others, nothing else having changed. -/
theorem State.announced_behind (t : State) (before after : List Notice) :
    ({ t with notices := t.announced before } : State).announced after = t.announced (before ++ after) :=
  State.announced_announced (s := t) (t := { t with notices := t.announced before }) rfl rfl rfl after

variable {t : State} {l : Lane}

/-- The notice of a barrier that starts in FAULT. -/
def State.firstFaults (t : State) (l : Lane) (i : BarrierId) : List Notice :=
  ((t.lane l).barrier i).cause.toList.map fun c => t.notice .barrierFault (some l) none 0 (3 * i.toNat + c.toNat) []

theorem State.reportFirst_eq (closed : (t.lane l).state = .closed) (i : BarrierId) :
    t.reportFirst l i = { t with notices := t.announced (t.firstFaults l i) } := by
  unfold State.reportFirst State.firstFaults
  cases ((t.lane l).barrier i).cause with
  | none =>
    show t = ({ t with notices := t.announced [] } : State)
    rw [State.announced_nil]
  | some c =>
    refine Eq.trans ?_ (State.raiseNotice_eq (s := t) (t := t) rfl rfl rfl rfl ..)
    exact State.hold_closed closed

theorem State.reportFirst_both (closed : (t.lane l).state = .closed) : (t.reportFirst l .a).reportFirst l .x =
    { t with notices := t.announced (t.firstFaults l .a ++ t.firstFaults l .x) } := by
  rw [State.reportFirst_eq closed]
  refine (State.reportFirst_eq (t := { t with notices := t.announced (t.firstFaults l .a) }) closed .x).trans ?_
  exact congrArg (fun n => ({ t with notices := n } : State)) (t.announced_behind ..)

/-- Every lane's barriers report, L0 first. -/
theorem State.reportFirst_lanes (ls : List Lane) : ∀ t : State, (∀ l, (t.lane l).state = .closed) →
    ls.foldl (fun t l => (t.reportFirst l .a).reportFirst l .x) t =
      { t with notices := t.announced (ls.flatMap fun l => t.firstFaults l .a ++ t.firstFaults l .x) } := by
  induction ls with
  | nil =>
    intro t _
    show t = ({ t with notices := t.announced [] } : State)
    rw [State.announced_nil]
  | cons l ls ih =>
    intro t closed
    rw [List.foldl_cons, State.reportFirst_both (closed l)]
    refine (ih { t with notices := t.announced (t.firstFaults l .a ++ t.firstFaults l .x) } closed).trans ?_
    exact congrArg (fun n => ({ t with notices := n } : State)) (t.announced_behind ..)

theorem State.firstFaults_eq {i : BarrierId} {p : BarrierPins} (first : (t.lane l).barrier i = Barrier.first p) :
    t.firstFaults l i =
      ([i].filter fun _ => p.up && p.down).map fun i => t.notice .barrierFault (some l) none 0 (3 * i.toNat + 2) [] := by
  unfold State.firstFaults
  rw [first, Barrier.first_eq]
  cases p.up <;> cases p.down <;> rfl

end Report

/-! ### The calibration records (R33, R34, R40) -/

theorem CalRecord.loads_iff {r : CalRecord} : r.loads = true ↔
    crc16 r.body = r.checksum ∧ r.loadOk = true ∧ 0 < r.division ∧ r.capacity % r.division = 0
      ∧ r.capacity / r.division ≤ 10000 := by
  simp only [CalRecord.loads, CalRecord.crossOk, Bool.and_eq_true, decide_eq_true_eq, and_assoc]
  exact and_congr_left' decide_eq_true_iff

theorem State.outDeck_setDeck (s : State) (d : Deck) (u : DeckUnit) :
    (s.setDeck d u).outDeck d = { u with cal := { u.cal with state := .outOfService } } := by
  unfold State.outDeck
  rw [State.deck_setDeck, if_pos rfl]

/-- A deck takes its record, which passes its checks or not. -/
theorem State.loadDeck_eq (s : State) (d : Deck) {bytes : List Byte} {r : CalRecord} (read : CalRecord.ofBytes bytes = r)
    {good : Bool} (checked : r.loads = good) : s.loadDeck d bytes = { s with
      decks := s.decks.set d { s.deck d with
        link := { (s.deck d).link with timer := .running (s.settings.sampleTimeout.get d) }
        cal := { state := if good then .inService else .outOfService, preEdit := none, committed := r, edit := none } }
      conditions := if good then s.conditions else s.conditions.set (calBadCondition d) (s.calBad d)
      notices := s.announced (([d].filter fun d => !good && s.tellsOut d).map fun d =>
        s.notice .deckOut none (some d) 0 1 []) } := by
  subst read
  unfold State.loadDeck
  cases good with
  | true =>
    refine (if_pos checked).trans ?_
    show _ = ({ s with decks := _, notices := s.announced [] } : State)
    rw [State.announced_nil]
    rfl
  | false =>
    refine (if_neg (Bool.eq_false_iff.1 checked)).trans ((State.deckOut_eq _ d 1).trans ?_)
    rw [State.outDeck_setDeck]
    show ({ s with decks := (s.decks.set d _).set d _, conditions := _, notices := _ } : State) = _
    rw [PerDeck.set_set]
    rfl

/-- Both decks take their records, D0 first. -/
theorem State.loadDecks_eq (s : State) {b0 b1 : List Byte} {record : Deck → CalRecord} (read0 : CalRecord.ofBytes b0 = record .d0)
    (read1 : CalRecord.ofBytes b1 = record .d1) {good : Deck → Bool} (checked : ∀ d, (record d).loads = good d) :
    (s.loadDeck .d0 b0).loadDeck .d1 b1 =
      let deck := fun (d : Deck) => { s.deck d with
        link := { (s.deck d).link with timer := .running (s.settings.sampleTimeout.get d) }
        cal := {
          state := if good d then .inService else .outOfService, preEdit := none, committed := record d, edit := none } }
      { s with
        decks := { d0 := deck .d0, d1 := deck .d1 }
        conditions := { s.conditions with
          calBad0 := if good .d0 then s.condition .calBad0 else s.calBad .d0
          calBad1 := if good .d1 then s.condition .calBad1 else s.calBad .d1 }
        notices := s.announced (([Deck.d0, .d1].filter fun d => !good d && s.tellsOut d).map fun d =>
          s.notice .deckOut none (some d) 0 1 []) } := by
  have first := s.loadDeck_eq .d0 read0 (checked .d0)
  generalize s.loadDeck .d0 b0 = t at first ⊢
  have position : t.sealOpen = s.sealOpen := by
    rw [first]
    cases good .d0 <;> rfl
  have condition : t.condition (calBadCondition .d1) = s.condition (calBadCondition .d1) := by
    rw [first]
    cases good .d0 <;> rfl
  have bad : t.calBad .d1 = s.calBad .d1 := by
    unfold State.calBad
    rw [condition]
  have tells : t.tellsOut .d1 = s.tellsOut .d1 := by
    unfold State.tellsOut
    rw [condition]
  have note : t.notice .deckOut none (some Deck.d1) 0 1 [] = s.notice .deckOut none (some Deck.d1) 0 1 [] :=
    State.notice_congr (by rw [first]) (by rw [first]) ..
  have told : ∀ ns, t.announced ns = _ :=
    State.announced_announced (s := s) (t := t) (by rw [first]) position (by rw [first])
  have notes : ([Deck.d1].filter fun d => !good .d1 && t.tellsOut d).map (fun d => t.notice .deckOut none (some d) 0 1 [])
      = ([Deck.d1].filter fun d => !good d && s.tellsOut d).map fun d => s.notice .deckOut none (some d) 0 1 [] := by
    simp only [List.filter_cons, List.filter_nil, tells]
    split
    · exact congrArg ([·]) note
    · rfl
  have split_ : [Deck.d0, .d1].filter (fun d => !good d && s.tellsOut d) =
      ([Deck.d0].filter fun d => !good d && s.tellsOut d) ++ [Deck.d1].filter fun d => !good d && s.tellsOut d :=
    List.filter_append [Deck.d0] [Deck.d1]
  have own : ([Deck.d0].filter fun d => !good .d0 && s.tellsOut d) = [Deck.d0].filter fun d => !good d && s.tellsOut d := rfl
  rw [State.loadDeck_eq t .d1 read1 (checked .d1), told, notes, bad, split_, List.map_append, ← own, first]
  dsimp only
  cases good .d0 <;> cases good .d1 <;> rfl

/-- Settles O54: the reset, the configuration with the barriers' first faults, and the two calibration records. -/
theorem areasAreLoaded : Obligations.AreasAreLoaded := by
  refine ⟨fun s a b => by cases a <;> cases b <;> rfl, fun s record pins => ⟨fun away => congrArg _ (if_neg away),
    fun loading closed => ?_⟩, fun s d0 d1 => ⟨fun away => congrArg _ (if_neg away), fun loading => ?_⟩⟩
  · intro barrier shown good t eq
    have first (p : BarrierPins) : Barrier.first p = barrier p := Barrier.first_eq p
    have taken : ({ (s.takeConfiguration record).takePins pins with phase := .loading .calibration } : State) = t := by
      rw [eq, State.takeConfiguration_eq]
      unfold State.takePins LaneUnit.first
      simp only [first]
      rfl
    have lane (l : Lane) : t.lane l = (s.lane l).first (pins.lanes.get l) := by
      rw [← taken, State.takeConfiguration_eq]
      exact PerLane.get_ofFn ..
    have shows (l : Lane) (i : BarrierId) : (t.lane l).barrier i = Barrier.first (shown l i) := by
      rw [lane]
      cases i <;> rfl
    have reports : exec (.configAreaLoaded record pins) s =
        .next ([Lane.l0, .l1, .l2, .l3].foldl (fun t l => (t.reportFirst l .a).reportFirst l .x) t) := by
      rw [← taken]
      exact congrArg _ (if_pos loading)
    have faults (l : Lane) : t.firstFaults l .a ++ t.firstFaults l .x =
        ([BarrierId.a, .x].filter fun i => (shown l i).up && (shown l i).down).map fun i =>
          t.notice .barrierFault (some l) none 0 (3 * i.toNat + 2) [] := by
      rw [State.firstFaults_eq (shows l .a), State.firstFaults_eq (shows l .x), ← List.map_append]
      refine congrArg _ ?_
      show _ = ([BarrierId.a] ++ [BarrierId.x]).filter _
      rw [List.filter_append]
      rfl
    rw [reports, State.reportFirst_lanes _ t fun l => by rw [lane]; exact closed l]
    simp only [faults]
  · intro record bad eq deck condition
    have failing (d : Deck) : d ∈ bad ↔ (record d).loads = false := by
      rw [eq, List.mem_filter, Bool.not_eq_true', decide_eq_false_iff_not, ← CalRecord.loads_iff, Bool.not_eq_true]
      exact and_iff_right (by cases d <;> decide)
    have loaded : exec (.calibrationLoaded d0 d1) s =
        .next { (s.loadDeck .d0 d0).loadDeck .d1 d1 with phase := .loading .vehicle } := by
      show execCalibrationLoaded d0 d1 s = _
      unfold execCalibrationLoaded
      rw [if_pos loading]
    have read0 : CalRecord.ofBytes d0 = record .d0 := rfl
    have read1 : CalRecord.ofBytes d1 = record .d1 := rfl
    clear_value record
    rw [loaded, State.loadDecks_eq s read0 read1 fun _ => rfl]
    have bads : [Deck.d0, .d1].filter (fun d => !(record d).loads && s.tellsOut d) = bad.filter s.tellsOut := by
      rw [eq, List.filter_filter]
      refine List.filter_congr fun d _ => ?_
      rw [Bool.and_comm]
      refine congrArg (s.tellsOut d && !·) (Bool.eq_iff_iff.2 ?_)
      rw [decide_eq_true_iff]
      exact CalRecord.loads_iff
    have state (d : Deck) : (if (record d).loads = true then DeckState.inService else .outOfService)
        = if d ∈ bad then .outOfService else .inService := by
      simp only [failing]
      cases (record d).loads <;> rfl
    have calBad (d : Deck) : (if (record d).loads = true then s.condition (calBadCondition d) else s.calBad d)
        = condition d := by
      simp only [condition, failing, ite_ite_of_and, State.calBad]
      cases (record d).loads <;> rfl
    have bad0 := calBad .d0
    have bad1 := calBad .d1
    simp only [state, bads]
    rw [← bad0, ← bad1]
    rfl

end Sys2Proof.Machine
end

section
/-! The loading of the vehicle register (R117) and of the site register (R121), slot by slot. -/

namespace Sys2Proof.Machine

/-! ### Vehicle register (R117) -/

/-- Whether a vehicle slot holds an entry, its tag being free. -/
def vehicleGood (bs : List Byte) : Bool := crcGood 38 bs && decide (byteAt bs 0 = 1) && vehicleFieldsOk bs

theorem vehicleGood_iff {bs : List Byte} :
    vehicleGood bs = true ↔ crcGood 38 bs = true ∧ byteAt bs 0 = 1 ∧ vehicleFieldsOk bs = true := by
  simp only [vehicleGood, Bool.and_eq_true, decide_eq_true_eq, and_assoc]

/-- The first byte of a record of zeros. -/
theorem byteAt_zero_of_zeroBytes {n : Nat} (h : 0 < n) {bs : List Byte} (zero : zeroBytes n bs = true) : byteAt bs 0 = 0 := by
  cases bs with
  | nil => rfl
  | cons b bs =>
    obtain ⟨m, rfl⟩ := Nat.exists_eq_succ_of_ne_zero (Nat.ne_of_gt h)
    simp only [zeroBytes, List.take_succ_cons, List.all_cons, Bool.and_eq_true, decide_eq_true_eq] at zero
    obtain ⟨rfl, _⟩ := zero
    rfl

theorem vehicleGood_of_zero {bs : List Byte} (zero : (crcGood 38 bs && zeroBytes 38 bs) = true) : vehicleGood bs = false := by
  have first := byteAt_zero_of_zeroBytes (n := 38) (by omega) (Bool.and_eq_true_iff.1 zero).2
  simp [vehicleGood, first]

/-- What the load of the vehicle register holds when the slots of a list, from slot 0 upward, have been taken. -/
structure VehicleLoad.Of (slots : List (List Byte)) (a : VehicleLoad) : Prop where
  slot : a.slot = slots.length
  mem : ∀ v, v ∈ a.entries ↔ ∃ bs, slots[v.slot]? = some bs ∧ vehicleGood bs = true ∧ v.data = vehicleOf bs
    ∧ ∀ j < v.slot, ∀ lower, slots[j]? = some lower → vehicleGood lower = true → tagAt lower 1 ≠ tagAt bs 1
  tags : ∀ t, (∃ v ∈ a.entries, v.data.tag = t) ↔ ∃ bs ∈ slots, vehicleGood bs = true ∧ tagAt bs 1 = t
  count : a.entries.length + a.dropped + (slots.filter fun bs => crcGood 38 bs && zeroBytes 38 bs).length = slots.length

section Slot

variable {slots : List (List Byte)} {a : VehicleLoad} {bs : List Byte}

theorem VehicleLoad.take_zero (zero : (crcGood 38 bs && zeroBytes 38 bs) = true) : a.take bs = { a with slot := a.slot + 1 } :=
  if_pos zero

theorem VehicleLoad.take_good (good : vehicleGood bs = true) (free : ∀ v ∈ a.entries, v.data.tag ≠ tagAt bs 1) :
    a.take bs = { a with slot := a.slot + 1, entries := { slot := a.slot, data := vehicleOf bs } :: a.entries } := by
  have entry : ¬(crcGood 38 bs && zeroBytes 38 bs) = true := fun zero =>
    Bool.false_ne_true ((vehicleGood_of_zero zero).symm.trans good)
  unfold VehicleLoad.take
  rw [if_neg entry, if_pos]
  exact Bool.and_eq_true_iff.2 ⟨good, List.all_eq_true.2 fun v mem => decide_eq_true (free v mem)⟩

theorem VehicleLoad.take_drops (zero : (crcGood 38 bs && zeroBytes 38 bs) = false)
    (drops : vehicleGood bs = true → ∃ v ∈ a.entries, v.data.tag = tagAt bs 1) :
    a.take bs = { a with slot := a.slot + 1, dropped := a.dropped + 1 } := by
  unfold VehicleLoad.take
  rw [if_neg (Bool.eq_false_iff.1 zero), if_neg]
  intro loads
  obtain ⟨good, free⟩ := Bool.and_eq_true_iff.1 loads
  obtain ⟨v, mem, same⟩ := drops good
  exact of_decide_eq_true (List.all_eq_true.1 free v mem) same

/-- A slot behind others is the last, or one of those before it. -/
theorem getElem?_append_one {α : Type} {xs : List α} {x y : α} {i : Nat} :
    (xs ++ [x])[i]? = some y ↔ xs[i]? = some y ∨ (i = xs.length ∧ x = y) := by
  rw [List.getElem?_append]
  split
  next inside =>
    have : i ≠ xs.length := Nat.ne_of_lt inside
    simp [this]
  next beyond =>
    have none : xs[i]? = none := List.getElem?_eq_none (by omega)
    rw [none, List.getElem?_singleton]
    have : i - xs.length = 0 ↔ i = xs.length := by omega
    simp [this]

/-- No entry comes from a slot that is not good or whose tag a lower slot holds. -/
theorem VehicleLoad.Of.mem_skip (h : a.Of slots) (skipped : vehicleGood bs = true → ∃ v ∈ a.entries, v.data.tag = tagAt bs 1)
    (v : VehicleEntry) : v ∈ a.entries ↔ ∃ x, (slots ++ [bs])[v.slot]? = some x ∧ vehicleGood x = true ∧ v.data = vehicleOf x
      ∧ ∀ j < v.slot, ∀ lower, (slots ++ [bs])[j]? = some lower → vehicleGood lower = true → tagAt lower 1 ≠ tagAt x 1 := by
  refine (h.mem v).trans ⟨?_, ?_⟩
  · rintro ⟨x, stands, good, data, first⟩
    refine ⟨x, getElem?_append_one.2 (.inl stands), good, data, fun j low lower at_ lowerGood => ?_⟩
    have inside : v.slot < slots.length := (List.getElem?_eq_some_iff.1 stands).1
    exact first j low lower ((getElem?_append_one.1 at_).resolve_right fun last => by omega) lowerGood
  · rintro ⟨x, stands, good, data, first⟩
    obtain stands | ⟨last, rfl⟩ := getElem?_append_one.1 stands
    · exact ⟨x, stands, good, data, fun j low lower at_ => first j low lower (getElem?_append_one.2 (.inl at_))⟩
    · obtain ⟨lower, mem, lowerGood, same⟩ := (h.tags _).1 (skipped good)
      obtain ⟨j, at_⟩ := List.getElem?_of_mem mem
      have low : j < v.slot := last ▸ (List.getElem?_eq_some_iff.1 at_).1
      exact absurd same (first j low lower (getElem?_append_one.2 (.inl at_)) lowerGood)

theorem VehicleLoad.Of.tags_skip (h : a.Of slots) (skipped : vehicleGood bs = true → ∃ v ∈ a.entries, v.data.tag = tagAt bs 1)
    (t : Tag) : (∃ v ∈ a.entries, v.data.tag = t) ↔ ∃ x ∈ slots ++ [bs], vehicleGood x = true ∧ tagAt x 1 = t := by
  refine (h.tags t).trans ⟨fun ⟨x, mem, held⟩ => ⟨x, List.mem_append_left _ mem, held⟩, ?_⟩
  rintro ⟨x, mem, good, same⟩
  obtain mem | mem := List.mem_append.1 mem
  · exact ⟨x, mem, good, same⟩
  · obtain rfl := List.mem_singleton.1 mem
    obtain ⟨y, mem, held, equal⟩ := (h.tags _).1 (skipped good)
    exact ⟨y, mem, held, equal.trans same⟩

theorem VehicleLoad.Of.take_good (h : a.Of slots) (good : vehicleGood bs = true)
    (free : ∀ v ∈ a.entries, v.data.tag ≠ tagAt bs 1) : (a.take bs).Of (slots ++ [bs]) := by
  have entry : (crcGood 38 bs && zeroBytes 38 bs) = false :=
    Bool.eq_false_iff.2 fun zero => Bool.false_ne_true ((vehicleGood_of_zero zero).symm.trans good)
  rw [VehicleLoad.take_good good free]
  refine ⟨by simp [h.slot], fun v => ?_, fun t => ?_, ?_⟩
  · rw [List.mem_cons, h.mem v]
    constructor
    · rintro (rfl | ⟨x, stands, held, data, first⟩)
      · refine ⟨bs, getElem?_append_one.2 (.inr ⟨h.slot, rfl⟩), good, rfl, fun j low lower at_ lowerGood same => ?_⟩
        have stands := (getElem?_append_one.1 at_).resolve_right fun last => Nat.ne_of_lt low (last.1.trans h.slot.symm)
        obtain ⟨v, mem, equal⟩ := (h.tags _).2 ⟨lower, List.mem_of_getElem? stands, lowerGood, rfl⟩
        exact free v mem (equal.trans same)
      · refine ⟨x, getElem?_append_one.2 (.inl stands), held, data, fun j low lower at_ => ?_⟩
        have inside : v.slot < slots.length := (List.getElem?_eq_some_iff.1 stands).1
        exact first j low lower ((getElem?_append_one.1 at_).resolve_right fun last => by omega)
    · rintro ⟨x, stands, held, data, first⟩
      obtain stands | ⟨last, rfl⟩ := getElem?_append_one.1 stands
      · exact .inr ⟨x, stands, held, data, fun j low lower at_ => first j low lower (getElem?_append_one.2 (.inl at_))⟩
      · left
        rw [h.slot, ← last, ← data]
  · simp only [List.mem_cons, h.tags t, List.mem_append, List.not_mem_nil, or_false, or_and_right, exists_or,
      exists_eq_left, good, true_and]
    exact or_comm
  · have := h.count
    simp [entry]
    omega

theorem VehicleLoad.Of.take (h : a.Of slots) (bs : List Byte) : (a.take bs).Of (slots ++ [bs]) := by
  by_cases loads : vehicleGood bs = true ∧ ∀ v ∈ a.entries, v.data.tag ≠ tagAt bs 1
  · exact h.take_good loads.1 loads.2
  have skipped : vehicleGood bs = true → ∃ v ∈ a.entries, v.data.tag = tagAt bs 1 := fun good => by
    refine Classical.byContradiction fun none => ?_
    exact loads ⟨good, fun v mem same => none ⟨v, mem, same⟩⟩
  have slot : a.slot + 1 = (slots ++ [bs]).length := by simp [h.slot]
  have count := h.count
  cases zero : crcGood 38 bs && zeroBytes 38 bs with
  | true =>
    rw [VehicleLoad.take_zero zero]
    refine ⟨slot, h.mem_skip skipped, h.tags_skip skipped, ?_⟩
    simp [zero]
    omega
  | false =>
    rw [VehicleLoad.take_drops zero skipped]
    refine ⟨slot, h.mem_skip skipped, h.tags_skip skipped, ?_⟩
    simp [zero]
    omega

end Slot

theorem VehicleLoad.of_foldl (slots : List (List Byte)) :
    (slots.foldl VehicleLoad.take { slot := 0, entries := [], dropped := 0 }).Of slots := by
  induction slots using appendInduction with
  | nil => exact ⟨rfl, by simp, by simp, rfl⟩
  | append slots bs ih =>
    rw [List.foldl_append]
    exact ih.take bs

/-- The vehicle register as its slots give it. -/
theorem State.vehiclesLoaded {s : State} {slots : List (List Byte)} (loading : s.phase = .loading .vehicle)
    (length : slots.length = 512) : ∃ vs dropped, exec (.vehicleRegisterLoaded slots) s = .next { s with
        vehicles := vs
        startup := { s.startup with vehiclesDropped := dropped }
        phase := .loading .site }
      ∧ keyed vs = true
      ∧ (∀ v : VehicleEntry, v ∈ vs ↔ ∃ bs, slots[v.slot]? = some bs ∧ vehicleGood bs = true ∧ v.data = vehicleOf bs
          ∧ ∀ j < v.slot, ∀ lower, slots[j]? = some lower → vehicleGood lower = true → tagAt lower 1 ≠ tagAt bs 1)
      ∧ vs.length + dropped + (slots.filter fun bs => crcGood 38 bs && zeroBytes 38 bs).length = 512 := by
  have all := VehicleLoad.of_foldl slots
  have unique := VehicleLoad.loaded_keyed length
  have taken : exec (.vehicleRegisterLoaded slots) s = .next { s with
      vehicles := (slots.foldl VehicleLoad.take { slot := 0, entries := [], dropped := 0 }).entries.reverse
      startup := { s.startup with
        vehiclesDropped := (slots.foldl VehicleLoad.take { slot := 0, entries := [], dropped := 0 }).dropped }
      phase := .loading .site } := congrArg _ (if_pos loading)
  generalize slots.foldl VehicleLoad.take { slot := 0, entries := [], dropped := 0 } = a at all unique taken
  refine ⟨_, _, taken, unique, fun v => List.mem_reverse.trans (all.mem v), ?_⟩
  rw [List.length_reverse, ← length]
  exact all.count

end Sys2Proof.Machine
end

section
/-! The loading of the site register, slot by slot (R121). -/

namespace Sys2Proof.Machine

/-! ### What a slot gives beside the entries of the lower slots -/

/-- Whether a site slot beside these entries of lower slots gives no entry. -/
def siteDrops (lower : List SiteEntry) (bs : List Byte) : Bool :=
  SiteLoad.drops { slot := 0, entries := lower, dropped := 0 } bs

/-- Whether an entry of a lower slot holds the tag of a site slot. -/
def siteTagTaken (lower : List SiteEntry) (bs : List Byte) : Bool :=
  decide (tagAt bs 6 ≠ 0) && lower.any fun e => decide (e.tag = some (tagAt bs 6))

/-- The entry that a site slot gives beside the entries of the lower slots. -/
def siteLoaded (lower : List SiteEntry) (bs : List Byte) (i : Nat) : SiteEntry :=
  siteEntryOf bs i (if (crcGood 94 bs && siteFieldsOk bs && !siteTagTaken lower bs) = true then .opened else .suspect)
    (siteTagTaken lower bs)

theorem siteDrops_iff {lower : List SiteEntry} {bs : List Byte} :
    siteDrops lower bs = true ↔ (crcGood 94 bs = true ∧ byteAt bs 0 ≠ 1) ∨ byteAt bs 0 = 0 ∨ natAt bs 1 4 = 0
      ∨ (∃ e ∈ lower, e.ticket = natAt bs 1 4) ∨ byteAt bs 23 = 0 := by
  simp only [siteDrops, SiteLoad.drops, Bool.or_eq_true, Bool.and_eq_true, decide_eq_true_eq, List.any_eq_true, or_assoc]

theorem siteTagTaken_iff {lower : List SiteEntry} {bs : List Byte} :
    siteTagTaken lower bs = true ↔ tagAt bs 6 ≠ 0 ∧ ∃ e ∈ lower, e.tag = some (tagAt bs 6) := by
  simp only [siteTagTaken, Bool.and_eq_true, decide_eq_true_eq, List.any_eq_true]

theorem siteDrops_of_zero {lower : List SiteEntry} {bs : List Byte} (zero : (crcGood 94 bs && zeroBytes 94 bs) = true) :
    siteDrops lower bs = true :=
  siteDrops_iff.2 (.inr (.inl (byteAt_zero_of_zeroBytes (n := 94) (by omega) (Bool.and_eq_true_iff.1 zero).2)))

section Congruence

variable {low lower : List SiteEntry} (same : ∀ e, e ∈ low ↔ e ∈ lower) (bs : List Byte)
include same

theorem siteDrops_congr : siteDrops low bs = siteDrops lower bs :=
  Bool.eq_iff_iff.2 (by simp only [siteDrops_iff, same])

theorem siteTagTaken_congr : siteTagTaken low bs = siteTagTaken lower bs :=
  Bool.eq_iff_iff.2 (by simp only [siteTagTaken_iff, same])

theorem siteLoaded_congr (i : Nat) : siteLoaded low bs i = siteLoaded lower bs i := by
  rw [siteLoaded, siteLoaded, siteTagTaken_congr same]

end Congruence

/-! ### The slots from slot 0 upward -/

section Slot

variable {slots : List (List Byte)} {a : SiteLoad} {bs : List Byte}

theorem SiteLoad.take_drops (drops : siteDrops a.entries bs = true) : a.take bs = { a with
    slot := a.slot + 1
    dropped := a.dropped + if (crcGood 94 bs && zeroBytes 94 bs) = true then 0 else 1 } := by
  unfold SiteLoad.take
  split
  next => rfl
  next => exact if_pos drops

theorem SiteLoad.take_loads (loads : siteDrops a.entries bs = false) : a.take bs = { a with
    slot := a.slot + 1
    entries := insertSite (siteLoaded a.entries bs a.slot) a.entries } := by
  have entry : ¬(crcGood 94 bs && zeroBytes 94 bs) = true := fun zero =>
    Bool.false_ne_true (loads.symm.trans (siteDrops_of_zero zero))
  unfold SiteLoad.take
  have stays : ¬a.drops bs = true := Bool.eq_false_iff.1 loads
  rw [if_neg entry, if_neg stays]
  show (if (crcGood 94 bs && siteFieldsOk bs && !siteTagTaken a.entries bs) = true then _ else _) = _
  unfold siteLoaded
  split <;> rfl

/-- Admission order: by ordinal, and among equal ordinals by slot number (R119). -/
def SiteEntry.Before (a b : SiteEntry) : Prop := a.ordinal < b.ordinal ∨ (a.ordinal = b.ordinal ∧ a.slot < b.slot)

theorem insertSite_ordered {e : SiteEntry} {es : List SiteEntry} (ordered : es.Pairwise SiteEntry.Before)
    (fresh : ∀ x ∈ es, x.slot ≠ e.slot) : (insertSite e es).Pairwise SiteEntry.Before := by
  induction es with
  | nil => exact List.pairwise_singleton ..
  | cons x xs ih =>
    obtain ⟨first, others⟩ := List.pairwise_cons.1 ordered
    obtain ⟨differs, rest⟩ := List.forall_mem_cons.1 fresh
    unfold insertSite
    split
    next early =>
      refine List.pairwise_cons.2 ⟨List.forall_mem_cons.2 ⟨early, fun y mem => ?_⟩, ordered⟩
      have later := first y mem
      simp only [SiteEntry.Before] at later ⊢
      omega
    next late =>
      refine List.pairwise_cons.2 ⟨fun y mem => ?_, ih others rest⟩
      obtain rfl | mem := mem_insertSite.1 mem
      · simp only [SiteEntry.Before]
        omega
      · exact first y mem

/-- What the load of the site register holds when the slots of a list, from slot 0 upward, have been taken. -/
structure SiteLoad.Of (slots : List (List Byte)) (a : SiteLoad) : Prop where
  sound : a.Sound
  slot : a.slot = slots.length
  ordered : a.entries.Pairwise SiteEntry.Before
  drops : ∀ i bs, slots[i]? = some bs → siteDrops (a.entries.filter fun e => decide (e.slot < i)) bs = true →
    ∀ e ∈ a.entries, e.slot ≠ i
  loads : ∀ i bs, slots[i]? = some bs → siteDrops (a.entries.filter fun e => decide (e.slot < i)) bs = false →
    siteLoaded (a.entries.filter fun e => decide (e.slot < i)) bs i ∈ a.entries
  count : a.entries.length + a.dropped + (slots.filter fun bs => crcGood 94 bs && zeroBytes 94 bs).length = slots.length

/-- Every entry held so far lies below the next slot. -/
theorem SiteLoad.Of.mem_lower (h : a.Of slots) (e : SiteEntry) :
    e ∈ a.entries.filter (fun e => decide (e.slot < slots.length)) ↔ e ∈ a.entries := by
  rw [List.mem_filter, decide_eq_true_eq, and_iff_left_iff_imp]
  exact fun mem => h.slot ▸ h.sound.below e mem

theorem SiteLoad.Of.take_drops (h : a.Of slots) (room : slots.length < 64) (skipped : siteDrops a.entries bs = true) :
    (a.take bs).Of (slots ++ [bs]) := by
  have sound := h.sound.take (h.slot ▸ room) bs
  have count := h.count
  rw [SiteLoad.take_drops skipped] at sound ⊢
  refine ⟨sound, by simp [h.slot], h.ordered, fun i x stands unused => ?_, fun i x stands used => ?_, ?_⟩
  · obtain stands | ⟨rfl, _⟩ := getElem?_append_one.1 stands
    · exact h.drops i x stands unused
    · exact fun e mem => Nat.ne_of_lt (h.slot ▸ h.sound.below e mem)
  · obtain stands | ⟨rfl, rfl⟩ := getElem?_append_one.1 stands
    · exact h.loads i x stands used
    · rw [siteDrops_congr h.mem_lower, skipped] at used
      exact nomatch used
  · cases zero : crcGood 94 bs && zeroBytes 94 bs <;> simp [zero] <;> omega

theorem SiteLoad.Of.take_loads (h : a.Of slots) (room : slots.length < 64) (used : siteDrops a.entries bs = false) :
    (a.take bs).Of (slots ++ [bs]) := by
  have sound := h.sound.take (h.slot ▸ room) bs
  have count := h.count
  have entry : (crcGood 94 bs && zeroBytes 94 bs) = false :=
    Bool.eq_false_iff.2 fun zero => Bool.false_ne_true (used.symm.trans (siteDrops_of_zero zero))
  rw [SiteLoad.take_loads used] at sound ⊢
  have lower {i : Nat} (low : i ≤ slots.length) (e : SiteEntry) :
      e ∈ (insertSite (siteLoaded a.entries bs a.slot) a.entries).filter (fun e => decide (e.slot < i))
        ↔ e ∈ a.entries.filter fun e => decide (e.slot < i) := by
    simp only [List.mem_filter, mem_insertSite, decide_eq_true_eq]
    refine and_congr_left fun below => or_iff_right ?_
    rintro rfl
    exact absurd (h.slot ▸ below : slots.length < i) (by omega)
  refine ⟨sound, by simp [h.slot], insertSite_ordered h.ordered fun x mem => Nat.ne_of_lt (h.sound.below x mem),
    fun i x stands unused => ?_, fun i x stands loads => ?_, ?_⟩
  · obtain stands | ⟨rfl, rfl⟩ := getElem?_append_one.1 stands
    · have inside : i < slots.length := (List.getElem?_eq_some_iff.1 stands).1
      rw [siteDrops_congr (lower (Nat.le_of_lt inside))] at unused
      intro e mem
      obtain rfl | mem := mem_insertSite.1 mem
      · exact Nat.ne_of_gt (h.slot ▸ inside : i < a.slot)
      · exact h.drops i x stands unused e mem
    · rw [siteDrops_congr (lower (Nat.le_refl _)), siteDrops_congr h.mem_lower, used] at unused
      exact nomatch unused
  · rw [mem_insertSite]
    obtain stands | ⟨rfl, rfl⟩ := getElem?_append_one.1 stands
    · have inside : i < slots.length := (List.getElem?_eq_some_iff.1 stands).1
      rw [siteDrops_congr (lower (Nat.le_of_lt inside))] at loads
      rw [siteLoaded_congr (lower (Nat.le_of_lt inside))]
      exact .inr (h.loads i x stands loads)
    · rw [siteLoaded_congr (lower (Nat.le_refl _)), siteLoaded_congr h.mem_lower, h.slot]
      exact .inl rfl
  · have length := (insertSite_perm (siteLoaded a.entries bs a.slot) a.entries).length_eq
    simp only [List.length_cons] at length
    simp [entry, length]
    omega

theorem SiteLoad.of_foldl (slots : List (List Byte)) (room : slots.length ≤ 64) :
    (slots.foldl SiteLoad.take { slot := 0, entries := [], dropped := 0 }).Of slots := by
  induction slots using appendInduction with
  | nil => exact ⟨⟨⟨.nil, nofun, .nil, .nil⟩, nofun, nofun⟩, rfl, .nil, nofun, nofun, rfl⟩
  | append slots bs ih =>
    rw [List.length_append, List.length_singleton] at room
    rw [List.foldl_append]
    have before := ih (by omega)
    show ((slots.foldl SiteLoad.take _).take bs).Of _
    cases skipped : siteDrops (slots.foldl SiteLoad.take { slot := 0, entries := [], dropped := 0 }).entries bs with
    | true => exact before.take_drops (by omega) skipped
    | false => exact before.take_loads (by omega) skipped

/-! ### The entries -/

section Entries

variable (h : a.Of slots)
include h

/-- Every entry is the one that its slot gives. -/
theorem SiteLoad.Of.entry {e : SiteEntry} (mem : e ∈ a.entries) : ∃ bs,
    siteDrops (a.entries.filter fun x => decide (x.slot < e.slot)) bs = false
      ∧ e = siteLoaded (a.entries.filter fun x => decide (x.slot < e.slot)) bs e.slot := by
  have inside : e.slot < slots.length := h.slot ▸ h.sound.below e mem
  have stands := List.getElem?_eq_getElem inside
  refine ⟨slots[e.slot], ?_⟩
  cases unused : siteDrops (a.entries.filter fun x => decide (x.slot < e.slot)) slots[e.slot] with
  | true => exact absurd rfl (h.drops _ _ stands unused e mem)
  | false => exact ⟨rfl, (h.sound.keyed.eq_of_slot (h.loads _ _ stands unused) mem rfl)⟩

theorem SiteLoad.Of.tickets : (a.entries.map fun e => e.ticket).Nodup := by
  refine nodup_keys (nodup_of_keys h.sound.keyed.slots) fun e mem x other same => ?_
  have apart {e x : SiteEntry} (mem : e ∈ a.entries) (other : x ∈ a.entries) (same : e.ticket = x.ticket) :
      ¬e.slot < x.slot := by
    intro low
    obtain ⟨bs, used, given⟩ := h.entry other
    have ticket : x.ticket = natAt bs 1 4 := congrArg SiteEntry.ticket given
    refine Bool.false_ne_true (used.symm.trans (siteDrops_iff.2 (.inr (.inr (.inr (.inl ?_))))))
    exact ⟨e, List.mem_filter.2 ⟨mem, decide_eq_true low⟩, same.trans ticket⟩
  have slot : e.slot = x.slot := by
    have := apart mem other same
    have := apart other mem same.symm
    omega
  exact h.sound.keyed.eq_of_slot other mem slot

theorem SiteLoad.Of.fields {e : SiteEntry} (mem : e ∈ a.entries) : e.boundLane = none ∧ e.state ≠ .reserved ∧ e.ticket ≠ 0
    ∧ 1 ≤ e.weighings.length ∧ e.weighings.length ≤ 5 ∧ e.tag ≠ some 0 ∧ e.slot < 64 := by
  obtain ⟨bs, used, given⟩ := h.entry mem
  have good := Bool.eq_false_iff.1 used
  rw [ne_eq, siteDrops_iff] at good
  have weighings : e.weighings.length = min (byteAt bs 23) 5 := by
    rw [given]
    simp [siteLoaded, siteEntryOf, weighingsAt]
  refine ⟨h.sound.unbound e mem, ?_, ?_, by omega, by omega, ?_, h.sound.keyed.below e mem⟩
  · rw [given, siteLoaded, siteEntryOf]
    split <;> exact nofun
  · rw [given]
    exact fun zero => good (.inr (.inr (.inl zero)))
  · rw [given, siteLoaded, siteEntryOf]
    simp only [optTagAt]
    split
    · nofun
    · split
      · nofun
      next some => exact fun zero => some (Option.some.inj zero)

end Entries

end Slot

end Sys2Proof.Machine
end

section
/-! The entries of a loaded site register in the manual's terms (R121), and the event that loads it. -/

namespace Sys2Proof.Machine

/-! ### The fields of a slot (R118, R121) -/

theorem within_iff {lo hi v : Nat} : within lo hi v = true ↔ lo ≤ v ∧ v ≤ hi := by
  simp only [within, Bool.and_eq_true, decide_eq_true_eq]

theorem storedHazardOk_iff {bs : List Byte} : storedHazardOk bs = true ↔ byteAt bs 17 = 0 ∨ byteAt bs 18 ≤ 99 := by
  simp only [storedHazardOk, Bool.or_eq_true, decide_eq_true_eq, within_iff, Nat.zero_le, true_and]

theorem storedWeighingsOk_iff {bs : List Byte} {n : Nat} :
    storedWeighingsOk bs n = true ↔ ∀ k < n, byteAt bs (27 + 13 * k) < 16 ∧ byteAt bs (36 + 13 * k) ≤ 32 := by
  have offset (k : Nat) : 24 + 13 * k + 3 = 27 + 13 * k ∧ 24 + 13 * k + 12 = 36 + 13 * k := by omega
  simp only [storedWeighingsOk, List.all_eq_true, List.mem_range, Bool.and_eq_true, decide_eq_true_eq, within_iff,
    Nat.zero_le, true_and, offset]

theorem siteFieldsOk_iff {bs : List Byte} (weighed : byteAt bs 23 ≠ 0) : siteFieldsOk bs = true ↔
    byteAt bs 5 ≤ 1 ∧ (1 ≤ byteAt bs 16 ∧ byteAt bs 16 ≤ 32) ∧ (byteAt bs 17 = 0 ∨ byteAt bs 18 ≤ 99) ∧ 1 ≤ natAt bs 19 4
      ∧ byteAt bs 23 ≤ 5 ∧ ∀ k < byteAt bs 23, byteAt bs (27 + 13 * k) < 16 ∧ byteAt bs (36 + 13 * k) ≤ 32 := by
  have positive : 1 ≤ byteAt bs 23 := Nat.one_le_iff_ne_zero.2 weighed
  simp only [siteFieldsOk, wasteOk, Bool.and_eq_true, decide_eq_true_eq, within_iff, storedHazardOk_iff,
    storedWeighingsOk_iff, Nat.zero_le, positive, true_and, and_assoc]
  refine and_congr_right fun _ => and_congr_right fun _ => and_congr_right fun _ => and_congr_right fun _ =>
    and_congr_right fun _ => and_congr_right fun few => ?_
  rw [Nat.min_eq_left few]

theorem Kind.ofNat?_getD (n : Nat) : (Kind.ofNat? n).getD .delivery = if n = 1 then .collection else .delivery := by
  match n with
  | 0 => rfl
  | 1 => rfl
  | n + 2 => rfl

/-- The entry that a slot gives, field by field. -/
theorem siteLoaded_eq {lower : List SiteEntry} {bs : List Byte} (loads : siteDrops lower bs = false) (i : Nat) :
    let tagTaken := tagAt bs 6 ≠ 0 ∧ ∃ e ∈ lower, e.tag = some (tagAt bs 6)
    let hazardOk := byteAt bs 17 = 0 ∨ byteAt bs 18 ≤ 99
    let wasteOk := 1 ≤ byteAt bs 16 ∧ byteAt bs 16 ≤ 32
    let fieldsOk := byteAt bs 5 ≤ 1 ∧ wasteOk ∧ hazardOk ∧ 1 ≤ natAt bs 19 4 ∧ byteAt bs 23 ≤ 5
      ∧ ∀ k < byteAt bs 23, byteAt bs (27 + 13 * k) < 16 ∧ byteAt bs (36 + 13 * k) ≤ 32
    siteLoaded lower bs i = {
      slot := i
      state := if crcGood 94 bs = true ∧ fieldsOk ∧ ¬tagTaken then .opened else .suspect
      ticket := natAt bs 1 4
      kind := if byteAt bs 5 = 1 then .collection else .delivery
      tag := if tagTaken ∨ tagAt bs 6 = 0 then none else some (tagAt bs 6)
      account := natAt bs 14 2
      waste := if wasteOk then byteAt bs 16 else 1
      hazard := if byteAt bs 17 ≠ 0 ∧ hazardOk then some { code := byteAt bs 17, containers := byteAt bs 18 } else none
      weighings := weighingsAt bs 24 (byteAt bs 23)
      boundLane := none
      ordinal := natAt bs 19 4 } := by
  intro tagTaken hazardOk waste fieldsOk
  have weighed : byteAt bs 23 ≠ 0 := fun none =>
    Bool.eq_false_iff.1 loads (siteDrops_iff.2 (.inr (.inr (.inr (.inr none)))))
  have state : (crcGood 94 bs && siteFieldsOk bs && !siteTagTaken lower bs) = true
      ↔ crcGood 94 bs = true ∧ fieldsOk ∧ ¬tagTaken := by
    rw [Bool.and_eq_true, Bool.and_eq_true, siteFieldsOk_iff weighed, Bool.not_eq_true', Bool.eq_false_iff, ne_eq,
      siteTagTaken_iff, and_assoc]
  have tag : (if siteTagTaken lower bs = true then none else optTagAt bs 6)
      = if tagTaken ∨ tagAt bs 6 = 0 then none else some (tagAt bs 6) := by
    rw [optTagAt]
    by_cases taken : tagTaken
    · rw [if_pos (siteTagTaken_iff.2 taken), if_pos (.inl taken)]
    · rw [if_neg ((not_congr siteTagTaken_iff).2 taken)]
      exact ite_of_iff (or_iff_right taken).symm rfl rfl
  have hazard : (if storedHazardOk bs = true then hazardAt bs 17 else none)
      = if byteAt bs 17 ≠ 0 ∧ hazardOk then some { code := byteAt bs 17, containers := byteAt bs 18 } else none := by
    rw [hazardAt]
    by_cases given : byteAt bs 17 = 0
    · rw [if_pos given, ite_self, if_neg fun both => both.1 given]
    · rw [if_neg given]
      exact ite_of_iff (storedHazardOk_iff.trans (and_iff_right given).symm) rfl rfl
  have entered : (if (crcGood 94 bs && siteFieldsOk bs && !siteTagTaken lower bs) = true then SiteState.opened else .suspect)
      = if crcGood 94 bs = true ∧ fieldsOk ∧ ¬tagTaken then .opened else .suspect := ite_of_iff state rfl rfl
  have sorted_ : (if wasteOk (byteAt bs 16) = true then byteAt bs 16 else 1) = if waste then byteAt bs 16 else 1 :=
    ite_of_iff within_iff rfl rfl
  rw [siteLoaded, siteEntryOf, tag, hazard, Kind.ofNat?_getD, entered, sorted_]

/-! ### The event -/

/-- The site register as its slots give it. -/
theorem State.siteRegisterLoaded {s : State} {slots : List (List Byte)} (loading : s.phase = .loading .site)
    (length : slots.length = 64) : ∃ a : SiteLoad, a.Of slots ∧ exec (.siteRegisterLoaded slots) s = .next { s with
      site := { entries := a.entries, nextOrdinal := nextOrdinalOf a.entries }
      startup := { s.startup with siteDropped := a.dropped }
      phase := .loading .indexTotals } :=
  ⟨_, SiteLoad.of_foldl slots (Nat.le_of_eq length), congrArg _ (if_pos loading)⟩

end Sys2Proof.Machine
end

section
/-! The loading of the index/totals record and of the journal ring (R158, R159, R121). -/

namespace Sys2Proof.Machine

variable {s : State}

/-! ### The index/totals record (R158) -/

theorem State.indexTotalsLoaded_eq (loading : s.phase = .loading .indexTotals) (record : List Byte) :
    (∀ t, IndexTotals.ofBytes? record = some t → exec (.indexTotalsLoaded record) s = .next { s with
      index := t, startup := { s.startup with indexGood := true }, phase := .loading .journal })
    ∧ (IndexTotals.ofBytes? record = none →
      exec (.indexTotalsLoaded record) s = .next { s with phase := .loading .journal }) := by
  have taken : exec (.indexTotalsLoaded record) s = execIndexTotalsLoaded record s := rfl
  rw [taken, execIndexTotalsLoaded, if_pos loading]
  constructor
  · intro t good
    rw [good]
  · intro bad
    rw [bad]

/-! ### The journal ring (R158, R159) -/

/-- The rebuilt next_seq is behind every valid entry, and next behind one of them unless there is none. -/
theorem rebuiltNextSeq_spec (ring : List JournalEntry) : (∀ j ∈ ring, j.seq < rebuiltNextSeq ring)
    ∧ (rebuiltNextSeq ring ≠ 0 → ∃ j ∈ ring, j.seq + 1 = rebuiltNextSeq ring) := by
  induction ring using appendInduction with
  | nil => exact ⟨nofun, fun differs => absurd rfl differs⟩
  | append ring j ih =>
    obtain ⟨behind, attained⟩ := ih
    have last : rebuiltNextSeq (ring ++ [j]) = max (rebuiltNextSeq ring) (j.seq + 1) := by
      rw [rebuiltNextSeq, List.foldl_append]
      rfl
    refine ⟨fun x mem => ?_, fun _ => ?_⟩
    · obtain mem | mem := List.mem_append.1 mem
      · have := behind x mem
        omega
      · obtain rfl := List.mem_singleton.1 mem
        omega
    · by_cases newest : rebuiltNextSeq ring ≤ j.seq + 1
      · exact ⟨j, by simp, by omega⟩
      · obtain ⟨x, mem, equal⟩ := attained (by omega)
        exact ⟨x, List.mem_append_left _ mem, by omega⟩

theorem closedBefore_eq (ring : List JournalEntry) (next : Nat) (e : SiteEntry) : closedBefore ring next e =
    ring.any fun j => decide (j.ticket = e.ticket ∧ next - 4096 ≤ j.seq ∧ j.seq + 2 ≤ next) := by
  refine congrArg (fun p => ring.any p) (funext fun j => ?_)
  rw [Bool.decide_and, Bool.decide_and, Bool.and_assoc]
  rfl

/-- What the ring leaves, next_seq and the entries that stand being given. -/
theorem State.takeRing_eq {ring : List JournalEntry} {next : Nat} {standing : List SiteEntry}
    (known : next = if s.startup.indexGood = true then s.index.nextSeq else rebuiltNextSeq ring)
    (stand : standing = s.site.entries.filter fun e => !closedBefore ring next e) : s.takeRing ring = { s with
      site := { entries := standing, nextOrdinal := nextOrdinalOf standing }
      index := if s.startup.indexGood = true then s.index else rebuiltIndex ring standing.length
      startup := { s.startup with
        indexRebuilt := !s.startup.indexGood
        openLoaded := countState .opened standing
        suspectLoaded := countState .suspect standing
        siteDropped := s.startup.siteDropped + (s.site.entries.length - standing.length)
        ring := ring.map fun j => { seq := j.seq, ticket := j.ticket }
        uncredited := ring.find? fun j => decide (j.seq = next) }
      phase := .loading .counter } := by
  subst known stand
  rfl

/-- The ring as its positions give it. -/
theorem State.journalRingLoaded_eq (loading : s.phase = .loading .journal) (positions : List (List Byte)) :
    let ring := positions.zipIdx.filterMap fun p => validJournalAt p.2 p.1
    let good := s.startup.indexGood
    ∃ next : Nat, (good = true → next = s.index.nextSeq)
      ∧ (good = false → (∀ j ∈ ring, j.seq < next) ∧ (next ≠ 0 → ∃ j ∈ ring, j.seq + 1 = next))
      ∧ ∀ standing : List SiteEntry,
        standing = s.site.entries.filter (fun e =>
          !ring.any fun j => decide (j.ticket = e.ticket ∧ next - 4096 ≤ j.seq ∧ j.seq + 2 ≤ next)) →
        exec (.journalRingLoaded positions) s = .next { s with
          site := {
            entries := standing
            nextOrdinal := min (standing.foldl (fun m e => max m e.ordinal) 0 + 1) 4294967295 }
          index :=
            if good then s.index
            else {
              nextSeq := next
              archivedSeq := next + standing.length - 4096
              lastCredited := ((ring.find? fun j => decide (j.seq + 1 = next)).map fun j => j.ticket).getD 0
              storedDay := none
              totals := List.replicate 32 { today := 0, previous := 0 } }
          startup := { s.startup with
            indexRebuilt := !good
            openLoaded := (standing.filter fun e => decide (e.state = .opened)).length
            suspectLoaded := (standing.filter fun e => decide (e.state = .suspect)).length
            siteDropped := s.startup.siteDropped + (s.site.entries.length - standing.length)
            ring := ring.map fun j => { seq := j.seq, ticket := j.ticket }
            uncredited := ring.find? fun j => decide (j.seq = next) }
          conditions := { s.conditions with
            recordsRebuilt :=
              if good then s.conditions.recordsRebuilt else { s.conditions.recordsRebuilt with latched := true } }
          phase := .loading .counter } := by
  intro ring good
  have taken : exec (.journalRingLoaded positions) s = .next (
      if good = true then s.takeRing ring else (s.takeRing ring).latch .recordsRebuilt) := congrArg _ (if_pos loading)
  refine ⟨if good = true then s.index.nextSeq else rebuiltNextSeq ring, fun known => if_pos known, fun unknown => ?_,
    fun standing stand => taken.trans (congrArg _ ?_)⟩
  · rw [if_neg (Bool.eq_false_iff.1 unknown)]
    exact rebuiltNextSeq_spec ring
  · have stands : standing = s.site.entries.filter fun e =>
        !closedBefore ring (if good = true then s.index.nextSeq else rebuiltNextSeq ring) e := by
      simpa only [closedBefore_eq] using stand
    rw [State.takeRing_eq rfl stands]
    have cases : good = true ∨ good = false := by cases good <;> simp
    obtain known | unknown := cases
    · simp only [good] at known ⊢
      simp only [known]
      rfl
    · simp only [good] at unknown ⊢
      simp only [unknown]
      rfl

end Sys2Proof.Machine
end

section
/-! The counter, recovery, STARTUP_REPORT and the opening of the lanes (R122, R159 to R161, R89, R155). -/

namespace Sys2Proof.Machine

/-! ### Recovery (R160) -/

section Recovery

variable {s : State}

/-- PERMIT_CAP leaves everything but the cap notice flags and the notices as it is. -/
theorem State.permitCaps_frame (s : State) (j : JournalEntry) :
    ∃ tickets notices, s.permitCaps j = { s with tickets := tickets, notices := notices } := by
  have one (t : State) (x : TicketSection) (before : ∃ tickets notices, t = { s with tickets := tickets, notices := notices }) :
      ∃ tickets notices, t.permitCapOf j.ticket x = { s with tickets := tickets, notices := notices } := by
    obtain ⟨tickets, notices, rfl⟩ := before
    unfold State.permitCapOf
    simp only
    split
    · exact ⟨_, _, rfl⟩
    · exact ⟨_, _, rfl⟩
  unfold State.permitCaps
  split
  · exact List.foldlRecOn (motive := fun t => ∃ tickets notices, t = { s with tickets := tickets, notices := notices }) _ _
      ⟨s.tickets, s.notices, rfl⟩ fun t before x _ => one t x before
  · exact ⟨s.tickets, s.notices, rfl⟩

theorem State.permitCapOf_phase (p : Phase) (n : Nat) (s : State) (x : TicketSection) :
    ({ s with phase := p } : State).permitCapOf n x = { s.permitCapOf n x with phase := p } := by
  unfold State.permitCapOf
  simp only
  split <;> rfl

theorem State.permitCaps_phase (p : Phase) (s : State) (j : JournalEntry) :
    ({ s with phase := p } : State).permitCaps j = { s.permitCaps j with phase := p } := by
  have all (xs : List TicketSection) : ∀ s : State,
      xs.foldl (State.permitCapOf j.ticket) { s with phase := p } = { xs.foldl (State.permitCapOf j.ticket) s with phase := p } := by
    induction xs with
    | nil => exact fun _ => rfl
    | cons x xs ih =>
      intro s
      rw [List.foldl_cons, State.permitCapOf_phase, ih]
      rfl
  unfold State.permitCaps
  split
  · exact all _ s
  · rfl

/-- What the journal entry found at next_seq leaves of the index/totals record. -/
def State.lateIndex (s : State) : IndexTotals :=
  match s.startup.uncredited with
  | none => s.index
  | some j => s.index.close j

/-- Step 1 of recovery, the credit of the entry found at next_seq being given. -/
theorem State.recoverEntry_eq {credited : State} (none : s.startup.uncredited = none → credited = s)
    (some : ∀ j, s.startup.uncredited = some j → credited = ({ s with index := s.index.close j } : State).permitCaps j) :
    s.recoverEntry = (credited, {
      completed := (s.startup.uncredited.map fun j => j.ticket).getD 0
      released := 0
      items := s.startup.uncredited.toList.map fun _ => [.indexTotals s.lateIndex] }) := by
  unfold State.recoverEntry State.lateIndex
  cases late : s.startup.uncredited with
  | none =>
    rw [none late]
    rfl
  | some j =>
    rw [some j late]
    rfl

/-- The site entry that the newest journal entry closed. -/
def State.closedEntry (s : State) : Option SiteEntry :=
  (s.startup.ring.find? fun n => decide (n.seq + 1 = s.index.nextSeq)).bind fun n => s.siteByTicket? n.ticket

/-- Step 2 of recovery. -/
theorem State.recoverSlot_eq {r : Recovery} (fresh : r.released = 0) : s.recoverSlot r = (
    { s with site := { s.site with
      entries := s.site.entries.filter fun x => s.closedEntry.all fun e => decide (x.slot ≠ e.slot) } },
    { r with
      released := (s.closedEntry.map fun e => e.ticket).getD 0
      items := r.items ++ s.closedEntry.toList.map fun e => [.siteSlot e.slot none] }) := by
  have stands (gone : s.closedEntry = none) : s.recoverSlot r = (s, r) → s.recoverSlot r = (
      { s with site := { s.site with
        entries := s.site.entries.filter fun x => s.closedEntry.all fun e => decide (x.slot ≠ e.slot) } },
      { r with
        released := (s.closedEntry.map fun e => e.ticket).getD 0
        items := r.items ++ s.closedEntry.toList.map fun e => [.siteSlot e.slot none] }) := by
    intro same
    rw [same, gone]
    simp only [Option.all_none, List.filter_eq_self.2 fun _ _ => rfl, Option.map_none, Option.getD_none, Option.toList_none, List.map_nil,
      List.append_nil, ← fresh]
  cases newest : s.startup.ring.find? fun n => decide (n.seq + 1 = s.index.nextSeq) with
  | none =>
    refine stands ?_ ?_
    · rw [State.closedEntry, newest]
      rfl
    · rw [State.recoverSlot, newest]
  | some n =>
    cases held : s.siteByTicket? n.ticket with
    | none =>
      refine stands ?_ ?_
      · rw [State.closedEntry, newest]
        exact held
      · rw [State.recoverSlot, newest]
        simp only [held]
    | some e =>
      have gone : s.closedEntry = some e := by
        rw [State.closedEntry, newest]
        exact held
      rw [State.recoverSlot, newest]
      simp only [held, gone]
      rfl

end Recovery

/-! ### STARTUP_REPORT and the journal's end (R155, R161) -/

theorem State.journalLowCheck_startup (s : State) (x : Startup) :
    { s.journalLowCheck with startup := x } = ({ s with startup := x } : State).journalLowCheck := by
  have same : ({ s with startup := x } : State).freeCapacity = s.freeCapacity := rfl
  unfold State.journalLowCheck
  rw [same]
  simp only
  split
  · split <;> rfl
  · rfl

/-- READY before the lanes open: the repair items have joined the queue, STARTUP_REPORT has been raised. -/
theorem State.reported_eq {s v : State} {r : Recovery} {rebuilt written : Bool}
    (recovered : s.recoverEntry.1.recoverSlot s.recoverEntry.2 = (v, r)) : s.reported rebuilt written = ({ v with
      phase := .ready
      startup := Startup.reset
      store := (v.repairItems written r).foldl (fun e x => e.join { extents := x, reserved := false }) v.store
      notices := v.announced [v.notice .startupReport none none 0
        (flagNat v.startup.configDefaulted + 2 * flagNat rebuilt + 4 * flagNat v.startup.indexRebuilt)
        [(v.startup.vehiclesDropped : Int), (v.startup.openLoaded : Int), (v.startup.suspectLoaded : Int),
          (v.startup.siteDropped : Int), (r.completed : Int), (r.released : Int)]] } : State).journalLowCheck := by
  have report (store : StoreEngine) : ({ v with store := store, phase := .ready } : State).startupReport rebuilt r = { v with
      phase := .ready
      store := store
      notices := v.announced [v.notice .startupReport none none 0
        (flagNat v.startup.configDefaulted + 2 * flagNat rebuilt + 4 * flagNat v.startup.indexRebuilt)
        [(v.startup.vehiclesDropped : Int), (v.startup.openLoaded : Int), (v.startup.suspectLoaded : Int),
          (v.startup.siteDropped : Int), (r.completed : Int), (r.released : Int)]] } :=
    State.raiseNotice_eq (s := v) (t := { v with store := store, phase := .ready }) rfl rfl rfl rfl ..
  have repaired : s.repaired written = { v with
      store := (v.repairItems written r).foldl (fun e x => e.join { extents := x, reserved := false }) v.store
      phase := .ready } := by
    unfold State.repaired
    rw [recovered]
    dsimp only
    rw [State.foldl_enqueue]
  unfold State.reported
  rw [recovered, repaired, report]
  exact State.journalLowCheck_startup ..

/-! ### The opening of the lanes (R89) -/

section Opening

variable {s t : State} {l : Lane}

theorem State.occupied_iff : s.occupied l = true ↔ (s.lane l).al = true ∨ (s.lane l).eb = true ∨ (s.lane l).xb = true
    ∨ (s.lane l).xl = true ∨ (s.lane l).barrierA.beamBroken = true ∨ (s.lane l).barrierX.beamBroken = true
    ∨ (s.lane l).barrierA.state ≠ .down ∨ (s.lane l).barrierX.state ≠ .down ∨ (s.laneReading l).status ≠ .valid
    ∨ 20 * ((s.laneReading l).division : Int) ≤ (s.laneReading l).w := by
  simp only [State.occupied, LaneReading.loaded, Bool.or_eq_true, decide_eq_true_eq, or_assoc]

/-- What the opening of a lane looks at, besides the lane itself. -/
structure SameReadings (s t : State) : Prop where
  settings : t.settings = s.settings
  reading : ∀ l, t.laneReading l = s.laneReading l

theorem SameReadings.of_keeps (h : Keeps s t) : SameReadings s t := by
  refine ⟨h.settings, fun l => ?_⟩
  have deck (d : Deck) : (t.deck d).laneReading = (s.deck d).laneReading := by
    rw [DeckUnit.laneReading, DeckUnit.laneReading, h.weight, h.committed]
  have settings : t.laneSettings l = s.laneSettings l := congrArg (fun c => c.lanes.get l) h.settings
  rw [State.laneReading, State.laneReading, settings, h.coupled]
  cases (s.laneSettings l).deck with
  | d0 => exact deck .d0
  | d1 => exact deck .d1
  | both => rfl

theorem SameReadings.of_eq (settings : t.settings = s.settings) (decks : t.decks = s.decks) (coupled : t.coupled = s.coupled) :
    SameReadings s t := by
  refine ⟨settings, fun l => ?_⟩
  rw [State.laneReading, State.laneReading, State.laneSettings, State.laneSettings, settings, decks, coupled]

theorem SameReadings.trans {u : State} (h : SameReadings s t) (k : SameReadings t u) : SameReadings s u :=
  ⟨k.settings.trans h.settings, fun l => (k.reading l).trans (h.reading l)⟩

/-- How a lane opens, in the terms of a state with the same settings, readings and lane. -/
theorem State.openAtStart_eq (same : SameReadings s t) (lane : t.lane l = s.lane l) : t.openAtStart l =
    if (s.laneSettings l).openAtStart = false then t
    else if (s.lane l).barrierA.state = .fault ∨ (s.lane l).barrierX.state = .fault then
      (t.enter l .idle false).hold l .barrierFault
    else if s.occupied l = true then (t.enter l .idle false).hold l .startup
    else t.enter l .idle false := by
  have settings : t.laneSettings l = s.laneSettings l := congrArg (fun c => c.lanes.get l) same.settings
  have entered : (t.enter l .idle false).lane l = (s.lane l).enter (s.laneSettings l) .idle false := by
    rw [State.enter_lane, if_pos rfl, lane, settings]
  have faulted (i : BarrierId) : (t.enter l .idle false).faulted l i = decide (((s.lane l).barrier i).state = .fault) := by
    rw [State.faulted, entered]
    cases i <;> rfl
  have occupied : (t.enter l .idle false).occupied l = s.occupied l := by
    have reading : (t.enter l .idle false).laneReading l = s.laneReading l := same.reading l
    simp only [State.occupied]
    rw [entered, reading]
    rfl
  unfold State.openAtStart
  simp only [settings, faulted, occupied, Bool.or_eq_true, decide_eq_true_eq]
  cases (s.laneSettings l).openAtStart <;> rfl

/-- The lanes open one after the other, each as the state before their opening shows it. -/
theorem State.foldl_openAtStart {opens : State → Lane → State}
    (agree : ∀ t l, SameReadings s t → t.lane l = s.lane l → opens t l = t.openAtStart l) (lanes : List Lane) :
    ∀ t, lanes.Nodup → SameReadings s t → (∀ l ∈ lanes, t.lane l = s.lane l) →
      lanes.foldl State.openAtStart t = lanes.foldl opens t := by
  induction lanes with
  | nil => exact fun _ _ _ _ => rfl
  | cons l lanes ih =>
    intro t nodup same unopened
    obtain ⟨first, others⟩ := List.nodup_cons.1 nodup
    rw [List.foldl_cons, List.foldl_cons, agree t l same (unopened l List.mem_cons_self)]
    refine ih _ others (same.trans (.of_keeps (.openAtStart t l))) fun m mem => ?_
    rw [State.openAtStart_other fun equal : m = l => first (equal ▸ mem)]
    exact unopened m (List.mem_cons_of_mem l mem)

end Opening

end Sys2Proof.Machine
end

section
/-! The rest of start-up (R122, R159 to R161, R89, R155), and every load of the registers. -/

namespace Sys2Proof.Machine

section Ready

variable {s credited : State}

/-- The credit of the entry found at next_seq touches no more than the totals, the cap notice flags and the notices. -/
theorem State.credited_frame (none : s.startup.uncredited = none → credited = s)
    (some : ∀ j, s.startup.uncredited = some j → credited = ({ s with index := s.index.close j } : State).permitCaps j) :
    ∃ tickets notices, tickets.counter = s.tickets.counter
      ∧ credited = { s with index := s.lateIndex, tickets := tickets, notices := notices } := by
  cases late : s.startup.uncredited with
  | none =>
    refine ⟨s.tickets, s.notices, rfl, (none late).trans ?_⟩
    rw [State.lateIndex, late]
  | some j =>
    obtain ⟨tickets, notices, same⟩ := State.permitCaps_frame { s with index := s.index.close j } j
    refine ⟨tickets, notices, ?_, (some j late).trans (same.trans ?_)⟩
    · have counter := congrArg (fun t => t.tickets.counter) same
      exact counter.symm.trans (State.permitCaps_counter ..)
    · rw [State.lateIndex, late]

/-- The site entry of the newest journal entry, that entry found at next_seq included. -/
def State.lastClosed (s : State) : Option SiteEntry :=
  (s.startup.ring.find? fun n => decide (n.seq + 1 = s.lateIndex.nextSeq)).bind fun n => s.siteByTicket? n.ticket

/-- The repair items (R161). -/
def State.repairs (s : State) (written : Bool) : List (List Record) :=
  (if s.startup.configDefaulted then [[.configuration s.settings]] else [])
    ++ (if written then [[.counter s.tickets.counter]] else [])
    ++ (if s.startup.indexRebuilt then [[.indexTotals s.lateIndex]] else [])
    ++ (s.startup.uncredited.toList.map fun _ => [.indexTotals s.lateIndex])
    ++ s.lastClosed.toList.map fun e => [.siteSlot e.slot none]

/-- READY before the lanes open, in the terms of the state that recovery starts from. -/
theorem State.reported_credited (rebuilt written : Bool) (none : s.startup.uncredited = none → credited = s)
    (some : ∀ j, s.startup.uncredited = some j → credited = ({ s with index := s.index.close j } : State).permitCaps j) :
    s.reported rebuilt written = ({ credited with
      phase := .ready
      startup := Startup.reset
      site := { s.site with entries := s.site.entries.filter fun x => s.lastClosed.all fun e => decide (x.slot ≠ e.slot) }
      store := (s.repairs written).foldl (fun e x => e.join { extents := x, reserved := false }) s.store
      notices := credited.announced [s.notice .startupReport .none .none 0
        (flagNat s.startup.configDefaulted + 2 * flagNat rebuilt + 4 * flagNat s.startup.indexRebuilt)
        [(s.startup.vehiclesDropped : Int), (s.startup.openLoaded : Int), (s.startup.suspectLoaded : Int),
          (s.startup.siteDropped : Int), (((s.startup.uncredited.map fun j => j.ticket).getD 0 : Nat) : Int),
          (((s.lastClosed.map fun e => e.ticket).getD 0 : Nat) : Int)]] } : State).journalLowCheck := by
  have entry := State.recoverEntry_eq none some
  obtain ⟨tickets, notices, counter, frame⟩ := State.credited_frame none some
  have gone : credited.closedEntry = s.lastClosed := by
    rw [frame]
    rfl
  have slot := State.recoverSlot_eq (s := credited) (r := {
    completed := (s.startup.uncredited.map fun j => j.ticket).getD 0
    released := 0
    items := s.startup.uncredited.toList.map fun _ => [.indexTotals s.lateIndex] }) rfl
  rw [gone] at slot
  have items : ({ credited with site := { credited.site with
        entries := credited.site.entries.filter fun x => s.lastClosed.all fun e => decide (x.slot ≠ e.slot) } } : State).repairItems
      written {
        completed := (s.startup.uncredited.map fun j => j.ticket).getD 0
        released := (s.lastClosed.map fun e => e.ticket).getD 0
        items := (s.startup.uncredited.toList.map fun _ => [.indexTotals s.lateIndex])
          ++ s.lastClosed.toList.map fun e => [.siteSlot e.slot .none] } = s.repairs written := by
    rw [frame]
    unfold State.repairItems State.repairs
    rw [← counter]
    simp only [List.append_assoc]
  rw [State.reported_eq ((congrArg (fun a => a.1.recoverSlot a.2) entry).trans slot), items]
  subst frame
  rfl

/-- READY with the lanes opened one after the other, each as the state before recovery shows it (R89). -/
theorem State.recoverAndOpen_credited {u : State} {opens : State → Lane → State} (rebuilt written : Bool)
    (none : u.startup.uncredited = none → credited = u)
    (some : ∀ j, u.startup.uncredited = some j → credited = ({ u with index := u.index.close j } : State).permitCaps j)
    (same : SameReadings s u) (lanes : u.lanes = s.lanes)
    (agree : ∀ t l, SameReadings s t → t.lane l = s.lane l → opens t l = t.openAtStart l) :
    u.recoverAndOpen rebuilt written = [Lane.l0, .l1, .l2, .l3].foldl opens ({ credited with
      phase := .ready
      startup := Startup.reset
      site := { u.site with entries := u.site.entries.filter fun x => u.lastClosed.all fun e => decide (x.slot ≠ e.slot) }
      store := (u.repairs written).foldl (fun e x => e.join { extents := x, reserved := false }) u.store
      notices := credited.announced [u.notice .startupReport .none .none 0
        (flagNat u.startup.configDefaulted + 2 * flagNat rebuilt + 4 * flagNat u.startup.indexRebuilt)
        [(u.startup.vehiclesDropped : Int), (u.startup.openLoaded : Int), (u.startup.suspectLoaded : Int),
          (u.startup.siteDropped : Int), (((u.startup.uncredited.map fun j => j.ticket).getD 0 : Nat) : Int),
          (((u.lastClosed.map fun e => e.ticket).getD 0 : Nat) : Int)]] } : State).journalLowCheck := by
  rw [State.recoverAndOpen_eq, State.reported_credited rebuilt written none some]
  obtain ⟨tickets, notices, _, rfl⟩ := State.credited_frame none some
  refine State.foldl_openAtStart (s := s) agree _ _ (by decide)
    ((same.trans ?_).trans (.of_keeps (.journalLowCheck _))) fun l _ => ?_
  · exact .of_eq rfl rfl rfl
  · rw [(SameLanes.journalLowCheck _).lane]
    exact congrArg (fun ls => ls.get l) lanes

end Ready

/-- Settles O55: each register slot by slot, the rest field by field. -/
theorem registersAreLoadedToReady : Obligations.RegistersAreLoadedToReady := by
  refine ⟨fun s slots => ⟨fun away => congrArg _ (if_neg away), fun away => congrArg _ (if_neg away),
    fun away => congrArg _ (if_neg away), fun _ away => congrArg _ (if_neg away), fun _ away => congrArg _ (if_neg away)⟩,
    fun s slots loading length => ?_, fun s slots loading length => ?_, fun s record loading => ?_,
    fun s positions loading => ?_, fun s record loading => ?_⟩
  · simpa only [vehicleGood_iff] using State.vehiclesLoaded loading length
  · obtain ⟨a, loaded, taken⟩ := State.siteRegisterLoaded loading length
    refine ⟨a.entries, a.dropped, taken, loaded.sound.keyed.slots, loaded.tickets, loaded.sound.keyed.tags, loaded.ordered,
      fun e mem => loaded.fields mem, length ▸ loaded.count, fun i bs stands => ?_⟩
    intro lower unused tagTaken hazardOk wasteOk fieldsOk
    refine ⟨fun skipped => loaded.drops i bs stands (siteDrops_iff.2 skipped), fun used => ?_⟩
    have loads : siteDrops lower bs = false := Bool.eq_false_iff.2 ((not_congr siteDrops_iff).2 used)
    exact ⟨_, loaded.loads i bs stands loads, siteLoaded_eq loads i⟩
  · exact State.indexTotalsLoaded_eq loading record
  · exact State.journalRingLoaded_eq loading positions
  · intro onSite inRing found counter rebuilt late index gone items counted occupied opens credited none some
    let u : State := { counted with phase := .recovering, index := s.index }
    have begun : exec (.counterLoaded record) s = .next (u.recoverAndOpen rebuilt (rebuilt || decide (counter ≠ found))) := by
      refine congrArg Host.Outcome.next ((if_pos loading).trans ?_)
      cases known : (counterOf? record).isNone <;> simp only [u, counted, rebuilt, known] <;> rfl
    have quiet : u.startup.uncredited = .none → { credited with phase := .recovering } = u := fun quiet => by
      have unchanged : index = s.index := by
        simp only [index]
        rw [show late = Option.none from quiet]
      rw [none quiet]
      simp only [u, counted, unchanged]
    have joined : ∀ j, u.startup.uncredited = .some j →
        { credited with phase := .recovering } = ({ u with index := u.index.close j } : State).permitCaps j := fun j joined => by
      have closed : index = s.index.close j := by
        simp only [index]
        rw [show late = Option.some j from joined]
        rfl
      rw [some j joined, ← State.permitCaps_phase]
      simp only [u, counted, closed]
    have items_eq : u.repairs (rebuilt || decide (counter ≠ found)) = items := by
      refine congrArg (fun b => _ ++ b ++ _ ++ _ ++ _) (ite_of_iff ?_ rfl rfl)
      rw [Bool.or_eq_true, decide_eq_true_eq]
    have code : flagNat u.startup.configDefaulted + 2 * flagNat rebuilt + 4 * flagNat u.startup.indexRebuilt
        = (if s.startup.configDefaulted then 1 else 0) + (if rebuilt then 2 else 0)
          + if s.startup.indexRebuilt then 4 else 0 := by
      show flagNat s.startup.configDefaulted + 2 * flagNat rebuilt + 4 * flagNat s.startup.indexRebuilt = _
      cases rebuilt <;> cases s.startup.indexRebuilt <;> rfl
    have agree : ∀ t l, SameReadings s t → t.lane l = s.lane l → opens t l = t.openAtStart l := fun t l same lane => by
      rw [State.openAtStart_eq same lane]
      exact ite_of_iff Iff.rfl rfl (ite_of_iff Iff.rfl rfl (ite_of_iff State.occupied_iff.symm rfl rfl))
    have opened := State.recoverAndOpen_credited (s := s) rebuilt (rebuilt || decide (counter ≠ found)) quiet joined
      (.of_eq rfl rfl rfl) rfl agree
    rw [items_eq, code] at opened
    exact begun.trans (congrArg Host.Outcome.next opened)

end Sys2Proof.Machine
end

section
/-! Masks and levels in progress: the operations of the yard leave every station's sets as they are (R176 to R180). -/

namespace Sys2Proof.Machine

/-- Each station has in `t` the mask and the levels in progress that it has in `s`. -/
structure SameSets (s t : State) : Prop where
  sets : ∀ st, (t.notices.get st).sets = (s.notices.get st).sets

theorem SameSets.refl (s : State) : SameSets s s := ⟨fun _ => rfl⟩

theorem SameSets.trans {s t u : State} (h : SameSets s t) (k : SameSets t u) : SameSets s u :=
  ⟨fun st => (k.sets st).trans (h.sets st)⟩

theorem SameSets.foldl {α : Type} (f : State → α → State) (h : ∀ t a, SameSets t (f t a)) (l : List α) (s : State) :
    SameSets s (l.foldl f s) :=
  List.foldlRecOn l f (motive := SameSets s) (.refl s) fun t sofar a _ => sofar.trans (h t a)

/-- A change that leaves the notices alone. -/
theorem SameSets.of_notices {s t : State} (h : t.notices = s.notices) : SameSets s t := ⟨fun st => by rw [h]⟩

/-- What follows a change that leaves the notices alone. -/
theorem SameSets.behind {s t u : State} (k : SameSets t u) (h : t.notices = s.notices) : SameSets s u := (of_notices h).trans k

theorem SameSets.entered {s u : State} {l : Lane} {st : LaneState} {keep : Bool} (k : SameSets (s.enter l st keep) u) :
    SameSets s u := k.behind rfl

theorem Aside.sameSets {s t : State} (h : Aside s t) : SameSets s t := ⟨h.sets⟩

theorem SameSets.raiseNotice (s : State) (k : NoticeKind) (lane : Option Lane) (d : Option Deck) (n c : Nat) (vs : List Int) :
    SameSets s (s.raiseNotice k lane d n c vs) := (Aside.raiseNotice ..).sameSets

theorem SameSets.hold (s : State) (l : Lane) (r : HoldReason) : SameSets s (s.hold l r) := (Aside.hold ..).sameSets

theorem SameSets.askRaise (s : State) (l : Lane) (i : BarrierId) : SameSets s (s.askRaise l i) := .of_notices rfl

theorem SameSets.askLower (s : State) (l : Lane) (i : BarrierId) : SameSets s (s.askLower l i) := .of_notices rfl

theorem SameSets.journalLowCheck (s : State) : SameSets s s.journalLowCheck := (Aside.journalLowCheck s).sameSets

section Passage

variable (s : State) (l : Lane)

theorem SameSets.joinClaim : SameSets s (s.joinClaim l) := by
  unfold State.joinClaim
  split <;> exact .of_notices rfl

theorem SameSets.dropBinding : SameSets s (s.dropBinding l) := by
  unfold State.dropBinding
  split
  · exact .refl s
  · split
    · exact (SameSets.journalLowCheck _).behind rfl
    · exact .of_notices rfl

theorem SameSets.askLowerUnlessDown : SameSets s (s.askLowerUnlessDown l) := by
  unfold State.askLowerUnlessDown
  split
  · exact .refl s
  · exact .of_notices rfl

/-! ### The arbiter (R72 to R74) -/

theorem SameSets.grant : SameSets s (s.grant l) := (Aside.grant s l).sameSets.behind rfl

theorem SameSets.failGrant (ds : List Deck) : SameSets s (s.failGrant ds) :=
  ((SameSets.foldl _ (fun t d => (Aside.deckOut t d 0).sameSets) ds s).trans
    (.foldl _ (fun t l => .of_notices (t := t.leaveClaim l) rfl) _ _)).trans (.foldl _ (fun t l => .hold t l .deckOut) _ _)

theorem SameSets.takeGrant : SameSets s (s.takeGrant l) := by
  unfold State.takeGrant
  split
  · exact .grant ..
  · exact .failGrant ..

theorem SameSets.examineFor (n : Nat) : ∀ s, SameSets s (State.examineFor n s) := by
  induction n with
  | zero => exact .refl
  | succ n ih =>
    intro s
    unfold State.examineFor
    split
    · exact .refl s
    · exact (SameSets.takeGrant ..).trans (ih _)

theorem SameSets.examine (s : State) : SameSets s s.examine := .examineFor 8 s

/-! ### The passage (R76 to R86) -/

theorem SameSets.evalEntering : SameSets s (s.evalEntering l) := (Aside.evalEntering ..).sameSets

theorem SameSets.evalPositioning : SameSets s (s.evalPositioning l) := (Aside.evalPositioning ..).sameSets

theorem SameSets.enterOnDeck (keep : Bool) : SameSets s (s.enterOnDeck l keep) := (Aside.enterOnDeck ..).sameSets

theorem SameSets.evalClearing : SameSets s (s.evalClearing l) := by
  unfold State.evalClearing
  simp only
  split
  · exact ((SameSets.raiseNotice ..).trans (.examine _)).behind rfl
  · exact .refl s

theorem SameSets.evalRetreating : SameSets s (s.evalRetreating l) := by
  unfold State.evalRetreating
  simp only
  split
  · split
    · exact (SameSets.hold ..).entered.behind rfl
    · exact (SameSets.evalClearing ..).entered.behind rfl
  · exact .refl s

theorem SameSets.evalLeaving : SameSets s (s.evalLeaving l) := by
  unfold State.evalLeaving
  simp only
  split
  · split
    · exact (SameSets.hold ..).entered.behind rfl
    · exact (SameSets.evalClearing ..).entered.behind rfl
  · exact .refl s

theorem SameSets.bindAdmission (i : Identity) : SameSets s (s.bindAdmission l i).1 := by
  unfold State.bindAdmission
  split
  · exact .of_notices rfl
  · split
    · exact .refl s
    · exact .of_notices rfl

theorem SameSets.accept (i : Identity) : SameSets s (s.accept l i) :=
  (SameSets.bindAdmission ..).trans ((SameSets.joinClaim ..).trans
    (((SameSets.raiseNotice ..).trans ((SameSets.journalLowCheck _).trans (.examine _))).behind rfl))

theorem SameSets.resumeLane : SameSets s (s.resumeLane l) := by
  unfold State.resumeLane
  split
  · exact .of_notices rfl
  · simp only
    split
    · exact (SameSets.examine _).entered
    · exact ((SameSets.joinClaim ..).trans (.examine _)).entered
  · exact (SameSets.askRaise ..).trans (SameSets.evalEntering ..).entered
  · exact (SameSets.askLowerUnlessDown ..).trans (SameSets.evalPositioning ..).entered
  · exact (SameSets.askLowerUnlessDown ..).trans (.enterOnDeck ..)
  · exact (SameSets.askLowerUnlessDown ..).trans (.enterOnDeck ..)
  · exact (SameSets.askRaise ..).trans ((SameSets.askLowerUnlessDown ..).trans (SameSets.evalLeaving ..).entered)
  · exact (SameSets.askRaise ..).trans (SameSets.evalRetreating ..).entered
  · exact (SameSets.askLower ..).trans ((SameSets.askLower ..).trans (SameSets.evalClearing ..).entered)
  all_goals exact .refl s

theorem SameSets.sendBack : SameSets s (s.sendBack l) := by
  unfold State.sendBack
  split
  · exact ((SameSets.dropBinding (s.leaveClaim l) l).trans (SameSets.examine _).entered).behind rfl
  · have asked := ((Aside.abandon s l .sentBack).sameSets.trans (.dropBinding _ l)).trans (.askRaise _ l .a)
    simp only
    split
    · exact asked.trans (SameSets.hold ..).entered
    · exact asked.trans (SameSets.evalRetreating ..).entered

theorem SameSets.resetLane : SameSets s (s.resetLane l) :=
  ((SameSets.dropBinding ((s.leaveClaim l).releaseDecks l) l).trans ((SameSets.askLower ..).trans
    ((SameSets.askLower ..).trans (SameSets.examine _).entered))).behind rfl

/-! ### Attendance, the clock and the store -/

theorem SameSets.endAttendance : SameSets s (s.endAttendance l) := (Aside.autoCapture ..).sameSets.behind rfl

theorem SameSets.endAttendances (st : Station) (which : State → Lane → Bool) : SameSets s (s.endAttendances st which) :=
  .foldl _ (fun t l => by
    split
    · exact .endAttendance t l
    · exact .refl t) _ s

theorem SameSets.enqueueRoll (s : State) : SameSets s s.enqueueRoll := by
  unfold State.enqueueRoll
  split
  · exact .refl s
  · repeat' split
    all_goals exact .of_notices rfl

theorem SameSets.examineDay (s : State) : SameSets s s.examineDay := by
  unfold State.examineDay
  split
  · split
    · exact (SameSets.enqueueRoll _).behind rfl
    · split
      · exact ((SameSets.raiseNotice ..).trans (.enqueueRoll _)).behind rfl
      · exact .refl s
  · exact .refl s

end Passage

end Sys2Proof.Machine
end

section
/-! A request of one station leaves another station's port, mask and levels in progress as they are (R176, R189). -/

namespace Sys2Proof.Machine

/-- Station `st` has in `t` the port, the mask and the levels in progress that it has in `s`. -/
structure Spares (st : Station) (s t : State) : Prop where
  port : t.port st = s.port st
  sets : (t.notices.get st).sets = (s.notices.get st).sets

section Spares

variable {st : Station} {s t : State}

theorem Spares.refl (s : State) : Spares st s s := ⟨rfl, rfl⟩

theorem Spares.trans {u : State} (h : Spares st s t) (k : Spares st t u) : Spares st s u :=
  ⟨k.port.trans h.port, k.sets.trans h.sets⟩

/-- A change that leaves the ports and the notices alone. -/
theorem Spares.of_same (ports : t.ports = s.ports) (notices : t.notices = s.notices) : Spares st s t :=
  ⟨congrArg (fun p => p.get st) ports, by rw [notices]⟩

/-- An operation of the yard. -/
theorem Spares.of_keeps (h : Keeps s t) (k : SameSets s t) : Spares st s t := ⟨congrArg (fun p => p.get st) h.ports, k.sets st⟩

/-- What follows a change that leaves the ports and the notices alone. -/
theorem Spares.behind {u : State} (k : Spares st t u) (ports : t.ports = s.ports) (notices : t.notices = s.notices) :
    Spares st s u := (of_same ports notices).trans k

/-! ### Another station's port and sets -/

theorem Spares.setPort {other : Station} (differs : st ≠ other) (s : State) (p : Port) : Spares st s (s.setPort other p) :=
  ⟨by rw [State.port_setPort, if_neg differs], rfl⟩

theorem Spares.setNotices {other : Station} (differs : st ≠ other) (s : State) (n : NoticeState) :
    Spares st s (s.setNotices other n) := by
  refine ⟨rfl, ?_⟩
  show ((s.notices.set other n).get st).sets = _
  rw [PerStation.get_set, if_neg differs]

/-- A request touches its own station's port, and beyond it what its block touches. -/
theorem Spares.takeRequest {r : Req} (differs : st ≠ r.station) {handler : Handler} (h : ∀ t, Spares st t (handler t).1)
    (s : State) (code : Byte) (anyPhase : Bool) : Spares st s (s.takeRequest r code anyPhase handler) := by
  have heard : Spares st s (s.endFrame r.station) := .setPort differs ..
  have taken := heard.trans (h (s.endFrame r.station))
  unfold State.takeRequest
  simp only
  split
  · exact heard
  split
  · exact heard.trans (.setPort differs ..)
  split
  · exact heard.trans (.setPort differs ..)
  split
  · exact heard.trans (.setPort differs ..)
  · split
    all_goals
      rename_i answer
      rw [answer] at taken
      exact taken.trans (.setPort differs ..)

/-! ### What a block asks first -/

theorem Spares.inRange {ok : Bool} {k : Handler} (h : Spares st s (k s).1) : Spares st s (inRange ok k s).1 :=
  rel_inRange (.refl s) fun _ => h

theorem Spares.needControl {k : Handler} {who : Station} {scope : Scope} {cls : Cls} (h : Spares st s (k s).1) :
    Spares st s (needControl who scope cls k s).1 := rel_needControl (.refl s) h

theorem Spares.needWatch {k : Handler} {who : Station} {scope : Scope} {cls : Cls} (h : Spares st s (k s).1) :
    Spares st s (needWatch who scope cls k s).1 := rel_needWatch (.refl s) h

theorem Spares.withDeck {b : Byte} {k : Deck → Handler} (h : ∀ d, Spares st s (k d s).1) : Spares st s (withDeck b k s).1 :=
  rel_withDeck (.refl s) h

theorem Spares.withLane {b : Byte} {k : Lane → Handler} (h : ∀ l, Spares st s (k l s).1) : Spares st s (withLane b k s).1 :=
  rel_withLane (.refl s) h

theorem Spares.needSlot {k : Handler} (h : Spares st s (k s).1) : Spares st s (needSlot k s).1 := by
  unfold Machine.needSlot
  split
  · exact h
  · exact .refl s

theorem Spares.deckControl {r : Req} {b : Byte} {k : Deck → Handler} (h : ∀ d, Spares st s (k d s).1) :
    Spares st s (deckControl r b k s).1 := .withDeck fun d => .needControl (h d)

theorem Spares.laneControl {r : Req} {b : Byte} {k : Lane → Handler} (h : ∀ l, Spares st s (k l s).1) :
    Spares st s (laneControl r b k s).1 := .withLane fun l => .needControl (h l)

/-- A refusal changes nothing, so that only the case in which the request is taken is left to show. -/
theorem Spares.unless {p : Prop} [Decidable p] {a : Answer} {x : State × Answer} (h : Spares st s x.1) :
    Spares st s (if p then (s, a) else x).1 := by
  split
  · exact .refl s
  · exact h

/-- The taken case of a request whose condition comes first. -/
theorem Spares.ifTaken {p : Prop} [Decidable p] {a : Answer} {x : State × Answer} (h : Spares st s x.1) :
    Spares st s (if p then x else (s, a)).1 := by
  split
  · exact h
  · exact .refl s

theorem Spares.barrierRequest {r : Req} {b i : Byte} {k : Lane → BarrierId → Handler} (h : ∀ l i, Spares st s (k l i s).1) :
    Spares st s (barrierRequest r b i k s).1 := by
  refine .withLane fun l => ?_
  cases BarrierId.ofNat? i.toNat with
  | none => exact .refl s
  | some i => exact .needControl (.unless (.unless (h l i)))

theorem Spares.readJournalEntries {r : Req} {code : Byte} (seqs : List Nat) (clamped : Bool) (s : State) :
    Spares st s (readJournalEntries r code seqs clamped s).1 := by
  unfold Machine.readJournalEntries
  simp only
  split
  · exact .refl s
  · exact .of_same rfl rfl

/-! ### What a block does -/

theorem Spares.examine (s : State) : Spares st s s.examine := .of_keeps (.examine s) (.examine s)

theorem Spares.journalLowCheck (s : State) : Spares st s s.journalLowCheck := .of_keeps (.journalLowCheck s) (.journalLowCheck s)

theorem Spares.examineDay (s : State) : Spares st s s.examineDay := .of_keeps (.examineDay s) (.examineDay s)

theorem Spares.endAttendance (s : State) (l : Lane) : Spares st s (s.endAttendance l) :=
  ⟨congrArg (fun p => p.get st) (Keeps.autoCapture { s with attending := s.attending.set l none } l).ports,
    (SameSets.endAttendance s l).sets st⟩

theorem Spares.writeWindows (s : State) (other : Station) (ws : List Window) : Spares st s (s.writeWindows other ws) := by
  refine Spares.behind (t := s.writeSettings { s.settings with windows := s.windowsWith other ws }) ?_ rfl rfl
  refine List.foldlRecOn (motive := Spares st (s.writeSettings _)) _ _ (.refl _) fun t sofar l _ => sofar.trans ?_
  split
  · exact .endAttendance t l
  · exact .refl t

theorem Spares.commit (s : State) (d : Deck) (e : CalRecord) : Spares st s (s.commit d e) := by
  let quiet : State := (s.setDeck d { s.deck d with
    weight := { (s.deck d).weight.empty with zero := 0, zeroLimit := false }
    cal := { state := .inService, preEdit := none, committed := commitRecord (s.deck d).cal.committed e, edit := none } }
    ).enqueue [.calibration d (commitRecord (s.deck d).cal.committed e)]
  refine Spares.behind (t := quiet.deactivate (calBadCondition d)) ?_ rfl rfl
  exact (Spares.of_keeps (.raiseNotice ..) (.raiseNotice ..)).trans (.examine _)

theorem Spares.openLane (s : State) (l : Lane) : Spares st s (s.openLane l) := by
  unfold State.openLane
  simp only
  split
  · exact (Spares.of_keeps (.hold ..) (.hold ..)).behind rfl rfl
  · exact .of_same rfl rfl

theorem Spares.voidEntry (s : State) (e : SiteEntry) (reason : Nat) : Spares st s (s.voidEntry e reason) :=
  ((Spares.of_keeps (.raiseNotice ..) (.raiseNotice ..)).trans (.journalLowCheck _)).behind rfl rfl

end Spares

/-- Every request is taken by a block that spares the other stations. -/
theorem request_spares {c : Instr} {r : Req} {code : Byte} {st : Station} (h : c.request? = some (r, code))
    (differs : st ≠ r.station) (s : State) :
    ∃ handler, exec c s = .next (s.takeRequest r code c.isGetStatus handler) ∧ ∀ t, Spares st t (handler t).1 := by
  cases c <;> cases h <;> refine ⟨_, rfl, fun t => ?_⟩
  case getStatus => exact .refl t
  case configRead g =>
    cases Group.ofNat? g.toNat with
    | none => exact .refl t
    | some g => exact .needWatch (.refl t)
  case configWriteLane l v =>
    cases laneSettingsOf? v with
    | none => exact .refl t
    | some c => exact .needControl (.unless (.needSlot (.of_same rfl rfl)))
  case configWriteWindows st v =>
    cases windowsOf? v with
    | none => exact .refl t
    | some ws => exact .needControl (.unless (.needSlot (.writeWindows ..)))
  case configWriteNoticeLevels => exact .inRange (.needControl (.needSlot (.of_same rfl rfl)))
  case configWriteWasteCaps => exact .inRange (.needControl (.needSlot (.of_same rfl rfl)))
  case configWriteRollSecond => exact .needControl (.needSlot ((Spares.examineDay _).behind rfl rfl))
  case configWriteVerifyOption v =>
    cases flagOfNat? v.toNat with
    | none => exact .refl t
    | some v => exact .needControl (.needSlot (.of_same rfl rfl))
  case configWriteSampleTimeout => exact .needControl (.needSlot (.of_same rfl rfl))
  case fetchNotice =>
    simp only
    split
    · exact .refl t
    · exact .setNotices differs ..
  case noticeDone =>
    simp only
    split
    · exact .refl t
    · exact .setNotices differs ..
  case setNoticeMask => exact .inRange (.setNotices differs ..)
  case clearCondition k =>
    cases Condition.ofNat? k.toNat with
    | none => exact .refl t
    | some k => exact .needControl (.unless (.of_same rfl rfl))
  case setConditionEnable k v =>
    cases Condition.ofNat? k.toNat with
    | none => exact .refl t
    | some k =>
      cases enableOfNat? v.toNat with
      | none => exact .refl t
      | some v => exact .inRange (.needControl (.of_same rfl rfl))
  case setClock v =>
    let ticked : State := { t with clock := { count := v.toNat, set := true } }
    exact .needControl (Spares.behind (t := ticked) (.examineDay ticked) rfl rfl)
  case storeRetry => exact .needControl (.ifTaken (.of_same rfl rfl))
  case readWeight b =>
    rcases DeckSel.ofNat? b.toNat with _ | _ | _ | _
    · exact .refl t
    all_goals exact .needWatch (.refl t)
  case readRaw => exact .withDeck fun _ => .needWatch (.refl t)
  case readCal d copy =>
    refine .withDeck fun d => ?_
    rcases copyOfNat? copy.toNat with _ | edit
    · exact .refl t
    · refine .needWatch ?_
      simp only
      repeat' split
      all_goals exact .refl t
  case zero =>
    refine .deckControl fun d => ?_
    split
    · exact .refl t
    · exact .of_same rfl rfl
  case calOpen => exact .deckControl fun _ => .unless (.unless (.unless (.of_same rfl rfl)))
  case calWrite =>
    refine .withDeck fun d => .inRange (.needControl ?_)
    simp only
    split
    · exact .refl t
    · exact .of_same rfl rfl
  case calCommit =>
    refine .deckControl fun d => ?_
    split
    · exact .refl t
    · split
      · exact .refl t
      · exact .commit ..
  case calDiscard => exact .deckControl fun _ => .ifTaken ((Spares.examine _).behind rfl rfl)
  case readLaneIo => exact .withLane fun _ => .needWatch (.refl t)
  case barrierRaise => exact .barrierRequest fun _ _ => .unless (.of_same rfl rfl)
  case barrierLower => exact .barrierRequest fun _ _ => .unless (.of_same rfl rfl)
  case barrierClear =>
    refine .barrierRequest fun l i => .unless ?_
    split <;> exact .of_same rfl rfl
  case openLane => exact .laneControl fun _ => .unless (.needSlot (.openLane ..))
  case closeLane => exact .laneControl fun _ => .unless (.needSlot (.of_same rfl rfl))
  case admitVehicle =>
    refine .withLane fun l => .inRange (.needControl (.unless (.unless (.unless ?_))))
    split
    · exact .of_keeps (.raiseNotice ..) (.raiseNotice ..)
    · exact .of_keeps (.accept ..) (.accept ..)
  case hold => exact .laneControl fun _ => .ifTaken (.of_keeps (.hold ..) (.hold ..))
  case resume => exact .laneControl fun _ => .ifTaken (.of_keeps (.resumeLane ..) (.resumeLane ..))
  case sendBack => exact .laneControl fun _ => .ifTaken (.of_keeps (.sendBack ..) (.sendBack ..))
  case laneReset => exact .laneControl fun _ => .ifTaken (.of_keeps (.resetLane ..) (.resetLane ..))
  case capture =>
    exact .withLane fun _ => .inRange (.needControl (.unless (.unless
      (.of_keeps (.beginCapture ..) (Aside.beginCapture ..).sameSets))))
  case attend => exact .laneControl fun _ => .unless (.of_same rfl rfl)
  case attendEnd => exact .laneControl fun _ => .ifTaken (.endAttendance ..)
  case regAdd =>
    refine .inRange (.needControl (.unless ?_))
    split
    · exact .refl t
    · exact .unless (.needSlot (.of_same rfl rfl))
  case regUpdate =>
    refine .inRange (.needControl ?_)
    split
    · exact .refl t
    · exact .unless (.needSlot (.of_same rfl rfl))
  case regRemove =>
    refine .inRange (.needControl ?_)
    split
    · exact .refl t
    · exact .unless (.needSlot (.of_same rfl rfl))
  case regRead => exact .inRange (.needWatch (.refl t))
  case regFind =>
    refine .inRange (.needWatch ?_)
    split <;> exact .refl t
  case readSite => exact .inRange (.needWatch (.refl t))
  case readTicket =>
    refine .inRange (.needWatch ?_)
    simp only
    split
    · exact .refl t
    · split
      · exact .readJournalEntries ..
      · exact .refl t
  case voidTicket =>
    refine .inRange (.needControl ?_)
    split
    · exact .refl t
    · exact .unless (.needSlot (.voidEntry ..))
  case editTicket =>
    refine .inRange (.needControl ?_)
    split
    · exact .refl t
    · exact .unless (.unless (.needSlot (.of_same rfl rfl)))
  case readTotals => exact .needWatch (.refl t)
  case readJournal seq count =>
    have read (n : Nat) : Spares st t (readJournalEntries r 0x3D ((List.range n).map fun i => seq.toNat + i)
        (decide (n ≠ count.toNat)) t).1 := .readJournalEntries ..
    by_cases none : t.decision r.station .yard .ticket = .none
    · rw [needWatch_refused _ _ _ _ none]
      exact .refl t
    · rw [needWatch_passes _ _ _ _ none]
      exact .unless (read _)
  case archive => exact .inRange (.needControl (.needSlot ((Spares.journalLowCheck _).behind rfl rfl)))

/-- Settles O8: a request's port work is its own station's, and its block spares the others. -/
theorem otherStationsUntouched : Obligations.OtherStationsUntouched := by
  intro c s t r code st request next differs
  obtain ⟨handler, taken, spares⟩ := request_spares request differs s
  obtain rfl : s.takeRequest r code c.isGetStatus handler = t := Host.Outcome.next.inj (taken.symm.trans next)
  obtain ⟨port, sets⟩ := Spares.takeRequest differs spares s code c.isGetStatus
  obtain ⟨mask, inProgress⟩ := Prod.mk.inj sets
  exact ⟨port, mask, inProgress⟩

end Sys2Proof.Machine
end
